-- ==== Sys2Proof/Word.lean ====
section
/-! DEFINITION. The index and word types of the LC3212 (00_scope.md, sections 3 and 4). -/

namespace Sys2Proof

/-- One byte of the cabinet bus (10_the_cabinet_bus.md, R163). -/
abbrev Byte := BitVec 8

/-- A two-byte number of the cabinet bus or of a settings table (11, section 11.7). -/
abbrev Word16 := BitVec 16

/-- Subscriber lines L0 to L31 (00_scope.md, section 4.3). -/
abbrev Line := Fin 32

/-- Bearer channels B0 to B11 (00_scope.md, section 4.3). -/
abbrev Bearer := Fin 12

/-- The value of `x` taken as the nearer end value when it lies outside `lo` to `hi`. -/
def clampInt (lo hi x : Int) : Int := max lo (min hi x)

end Sys2Proof
end

