-- ==== Sys2Proof/Syntax.lean ====
section
/-! DEFINITION. The commands of the LC3212: one constructor per row of spec/opcode_table.json. A command
is an event at one of the part's inputs or timers, or a valid request frame on the cabinet bus. -/

namespace Sys2Proof

/-- Whom a request frame that the unit takes is addressed to (R165): the unit itself, or every unit. -/
inductive Addressee where
  | unit | broadcast
  deriving DecidableEq, Repr

/-- The rate selected by the two bus-rate strap pins (R163). -/
inductive BusRate where
  | b9600 | b19200 | b38400 | b115200
  deriving DecidableEq, Repr

/-- The levels of the strap pins: unit address and bus rate (R163). -/
structure Straps where
  address : Fin 4
  rate : BusRate
  deriving DecidableEq, Repr

/-- The two parts of a byte on the receive line (R163): the start bit, with which the line goes low, and the
rest, which ends with the stop bit: the parity bit and the stop bit as they were found. -/
inductive BytePart where
  | start
  | rest (parity stop : Bool)
  deriving DecidableEq, Repr

/-- The commands. Operands of a request are the bytes and two-byte numbers of its layout (11, section
11.7) after the request code; `dest` says whether the frame is addressed to the unit or broadcast. -/
inductive Instr where
  /-- R1: the Line Scanner visits `line`; `current` is the loop current at the sense input in cu (before
  the conversion of R3 takes a value beyond the range as the nearer end value). -/
  | senseSample (line : Line) (current : Int) (ringTrip : Bool)
  /-- R2: a new sense round begins. -/
  | scanRoundStart
  /-- R13: the hook count of `line` reaches M, and its hook state changes. -/
  | hookDecision (line : Line)
  /-- R16: the overcurrent count of `line` reaches M. -/
  | overcurrentDecision (line : Line)
  /-- R17: the foreign-battery count of `line` reaches M. -/
  | foreignBatteryDecision (line : Line)
  /-- R20: the ring-trip count of `line` reaches 2. -/
  | ringTripDecision (line : Line)
  /-- R28: the break count of `line` reaches 401. -/
  | clearDecision (line : Line)
  /-- R35: the make count of `line` reaches 150. -/
  | digitEnd (line : Line)
  /-- R44: the settle timer of `line` runs out. -/
  | settleEnd (line : Line)
  /-- R46: the blanking remainder of `line` runs out. -/
  | blankingEnd (line : Line)
  /-- R82: the wait timer of `line` runs out. -/
  | waitLimitExpiry (line : Line)
  /-- R96: the Tone phase timer of `line` runs out. -/
  | tonePhaseExpiry (line : Line)
  /-- R96: 2 s of the Tone phase of the preempted `line` have run. -/
  | preemptionToneEnd (line : Line)
  /-- R96: the Howler phase timer of `line` runs out. -/
  | howlerPhaseExpiry (line : Line)
  /-- R98: the Retry wait timer of `line` runs out. -/
  | retryWaitExpiry (line : Line)
  /-- R98: the Retry look timer of `line` runs out. -/
  | retryLookExpiry (line : Line)
  /-- R69: the guard timer of `bearer` runs out. -/
  | guardExpiry (bearer : Bearer)
  /-- R117: the remaining time of the handover runs out. -/
  | handoverExpiry
  /-- R124: the cadence wheel passes a phase boundary. -/
  | ringPhaseBoundary
  /-- R133: the ring count of `line` reaches the ring limit. -/
  | ringLimitReached (line : Line)
  /-- R151: a conversion of the supply sense input, in units of 10 mV. -/
  | supplySample (value : Int)
  /-- R157: the quiet timer runs out. -/
  | quietTimerExpiry
  /-- R160: the countdown of the control monitor runs out. -/
  | monitorCountdownExpiry
  /-- R177: the audit timer runs out. -/
  | auditTimerExpiry
  /-- R142: the test converter samples the test-bus sense input. -/
  | testConverterSample (value : Int)
  /-- R142: the window count reaches 100. -/
  | measurementWindowEnd
  /-- R139: the phase timer of the Connect phase runs out. -/
  | testConnectExpiry
  /-- R140: the phase timer of a look runs out. -/
  | testLookExpiry
  /-- R141: the look count reaches 2. -/
  | lookOffHook
  /-- R146: the phase timer of the Disconnect phase runs out. -/
  | testDisconnectExpiry
  /-- R164: the gap timer runs out. -/
  | gapTimerExpiry
  /-- R167: the part begins the transmission of the Waiting reply. -/
  | replyTransmitStart
  /-- R167: the stop bit of the check byte of the reply ends. -/
  | replyTransmitEnd
  /-- R169: the receive line has been low for 50 ms. -/
  | busBreak
  /-- R169: the receive line returns high; `address` and `rate` are the strap levels at that moment. -/
  | receiveLineHigh (address : Fin 4) (rate : BusRate)
  /-- R169: the receive line has been high for 5 ms since the end of the restart. -/
  | readyMarkSet
  /-- R178: power is applied; `straps` are the levels of the strap pins at that moment, and `lineHigh` is the
  level of the receive line (R169). -/
  | powerOn (straps : Straps) (lineHigh : Bool)
  /-- R173. -/
  | poll (dest : Addressee)
  /-- R174. -/
  | lineQuery (dest : Addressee) (line : Byte)
  /-- R72. -/
  | bearerQuery (dest : Addressee) (bearer : Byte)
  /-- R174. -/
  | unitQuery (dest : Addressee) (sect : Byte)
  /-- R150. -/
  | testResult (dest : Addressee)
  /-- R174. -/
  | readDigest (dest : Addressee)
  /-- R176. -/
  | setProfile (dest : Addressee) (profile k m : Byte) (tOn tOff tOver : Word16) (flags : Byte)
  /-- R175. -/
  | setLine (dest : Addressee) (line enabled profile cls preemptible : Byte)
  /-- R104. -/
  | setClassMap (dest : Addressee) (priority standard economy alarm : Word16)
  /-- R110: the classes of phases 0 to 7. -/
  | setArbiterPhases (dest : Addressee) (c0 c1 c2 c3 c4 c5 c6 c7 : Byte)
  /-- R176. -/
  | setTimers (dest : Addressee) (answer guard wait congestion howler ringLimit : Byte) (quietDelay : Word16)
  /-- R155. -/
  | setSupplyThresholds (dest : Addressee) (criticalEnter criticalExit lowEnter lowExit : Word16)
  /-- R175. -/
  | setAttention (dest : Addressee) (value : Byte)
  /-- R154. -/
  | clearSupplyDip (dest : Addressee)
  /-- R159. -/
  | armMonitor (dest : Addressee) (interval : Byte)
  /-- R178, scope Full; `address` and `rate` are the strap levels when the restart ends. -/
  | restartFull (dest : Addressee) (address : Fin 4) (rate : BusRate)
  /-- R178, scope Calls. -/
  | restartCalls (dest : Addressee)
  /-- R63. -/
  | linkStateUp (dest : Addressee) (count : Byte)
  /-- R64; the count byte is disregarded. -/
  | linkStateDown (dest : Addressee) (count : Byte)
  /-- R65. -/
  | bearerCheck (dest : Addressee) (bearers : Word16)
  /-- R66. -/
  | bar (dest : Addressee) (bearer : Byte)
  /-- R67. -/
  | unbar (dest : Addressee) (bearer : Byte)
  /-- R68. -/
  | releaseAcknowledge (dest : Addressee) (bearer : Byte)
  /-- R84. -/
  | grant (dest : Addressee) (line bearer : Byte)
  /-- R85. -/
  | refuse (dest : Addressee) (line bearer : Byte)
  /-- R87. -/
  | release (dest : Addressee) (line bearer : Byte)
  /-- R89. -/
  | incoming (dest : Addressee) (line bearer ring : Byte)
  /-- R88. -/
  | farAnswer (dest : Addressee) (line : Byte)
  /-- R137. -/
  | testLine (dest : Addressee) (line measurements mode : Byte)
  /-- R148. -/
  | testAbort (dest : Addressee)
  /-- R163, R164: a byte arrives on the receive line, as two moments of it: its start bit falls, and its stop
  bit ends. `value` is its data bits, of which nothing is known while the start bit falls. -/
  | busByteReceived (value : Byte) (part : BytePart)
  /-- R171: a valid frame carries a request code that is not in the catalogue. -/
  | unknownRequestCode (dest : Addressee) (code : Byte)
  /-- R177: a disturbance of storage sets byte `index` of the covered tables' wire encodings (profiles,
  class map, phase table, timers, thresholds, in that order) to `value`. -/
  | storageDisturbance (index : Nat) (value : Byte)
  deriving DecidableEq, Repr

end Sys2Proof
end

