-- ==== Sys2Proof/Decode.lean ====
section
/-! DEFINITION. The LC3212 has no instruction words: spec/opcode_table.json gives no row any bits, because
its commands are events and bus frames. The frames' own byte layout is read by Machine/Bus.lean. -/

namespace Sys2Proof

/-- The command that a word spells by the table's bits: no row of the table has bits, so no word spells
one. -/
def decodeTableWord (_nbits _w : Nat) : Option Instr := none

end Sys2Proof
end

