-- ==== Sys2Proof/Config.lean ====
section
/-! DEFINITION. Constants of the part, and the values its manual leaves open (free values: constants
without a body, so that no proof can rest on what they are). -/

namespace Sys2Proof.Config

/-- Samples that make a break a clear (R27, R28). -/
def clearCount : Nat := 401

/-- Samples of make that end a digit (R34). -/
def digitEndCount : Nat := 150

/-- Length of a settle in ms (R39, R42). -/
def settleMs : Nat := 20

/-- Length of the blanking after a transition in ms (R46). -/
def blankingMs : Nat := 10

/-- The most reports the urgent queue holds (R172). -/
def urgentCapacity : Nat := 16

/-- The most reports the routine queue holds (R172). -/
def routineCapacity : Nat := 48

/-- The most digits an early-digit buffer holds (R80). -/
def earlyCapacity : Nat := 8

/-- Length of a handover in ms (R115). -/
def handoverMs : Nat := 500

/-- Length of one ring phase in ms (R123). -/
def ringPhaseMs : Nat := 1000

/-- Samples of one test window (R142). -/
def windowLength : Nat := 100

/-- The retry wait and the retry look of a Faulted line in ms (R97, R98). -/
def retryWaitMs : Nat := 10000
def retryLookMs : Nat := 1000

/-- The part of the Tone phase that carries the Preemption tone, in ms (R95, R96). -/
def preemptionToneMs : Nat := 2000

/-- The phase timer of the Connect phase, of a look proper and of the Disconnect phase in ms
(R139, R140, R146). -/
def connectMs : Nat := 50
def lookMs : Nat := 30
def disconnectMs : Nat := 50

/-- The gap between two bytes of a frame in ms (R164). -/
def gapMs : Nat := 5

/-- The time the receive line must be high before the ready mark is set, in ms (R169). -/
def readyMs : Nat := 5

/-- The time the receive line must be low for a bus break, in ms (R169). -/
def busBreakMs : Nat := 50

/-- The earliest moment of a reply's window in ms (R167). -/
def replyEarliestMs : Nat := 1

/-- The latest moment of a reply's window in ms (R167). -/
def replyWindowMs : Nat := 8

/-- The period of the audit timer in ms (R177). -/
def auditMs : Nat := 10000

/-- Hook indication of a sample for which both `σ·F ≥ 16·T_on` and `σ·F ≤ 16·T_off` hold. R11 says that
the two cannot hold together under a profile that Set Profile accepts. After a disturbance of storage
(R177) a profile may hold thresholds for which they do, and the manual states no indication there.
FREE VALUE (notes/assumptions/3.md): `true` for Above, `false` for Below. -/
opaque overlapIsAbove : (expectedCurrent : Int) → (tOn tOff : Nat) → Bool

/-- The level on an average that is below the threshold of entering or leaving Critical, `critical`, and not below
that of entering or leaving Low, `low`, so that two rows of R152's table fit it. R152 says that no two rows are in
conflict under thresholds that R155 accepts. After a disturbance of storage (R177) the thresholds may stand in
another order, and the manual does not say which row holds.
FREE VALUE (notes/assumptions/31.md): `true` for Critical, `false` for Normal. -/
opaque conflictIsCritical : (average critical low : Nat) → Bool

end Sys2Proof.Config
end

