-- ==== Sys2Proof/Machine/State.lean ====
section
/-! DEFINITION. The state of the LC3212: every item of the state tables of chapters 1 to 11, as plain data,
and the queue of the commands that wait. Times are in milliseconds unless a field says otherwise. -/

namespace Sys2Proof.Machine

/-- A command never stops the part with a fault: the manual names no event after which the part stops, and
every restart is an effect on State. The type has no value (safe: nothing can be proved from a stop). -/
inductive Fault where
  deriving DecidableEq, Repr

/-- Why a command has no meaning. -/
inductive Refusal where
  /-- Raised by `exec` for a command whose meaning is not written yet (safe: it stops). No arm raises it. -/
  | notModelled (mnemonic : String)
  deriving DecidableEq, Repr

/-! ## Settings tables (chapters 1, 6, 9, 11) -/

/-- Service classes, in the order of their codes (11, section 11.7). -/
inductive Class where
  | priority | standard | economy | alarm
  deriving DecidableEq, Repr

/-- A line entry (R175). -/
structure LineEntry where
  enabled : Bool
  profile : Fin 8
  cls : Class
  preemptible : Bool
  deriving DecidableEq, Repr

/-- A profile as its wire encoding stores it (1, section 1.9; 11, section 11.7), so that a disturbance of
storage can set any byte of it (R177). -/
structure Profile where
  k : Byte
  m : Byte
  tOn : Word16
  tOff : Word16
  tOver : Word16
  flags : Byte
  deriving DecidableEq, Repr

/-- The class map as its wire encoding stores it: one set of bearers per class (R104). -/
structure ClassMap where
  priority : Word16
  standard : Word16
  economy : Word16
  alarm : Word16
  deriving DecidableEq, Repr

/-- The timer settings as their wire encoding stores them (R176); seconds, and cadence periods for the
ring limit. -/
structure Timers where
  answer : Byte
  guard : Byte
  wait : Byte
  congestion : Byte
  howler : Byte
  ringLimit : Byte
  quietDelay : Word16
  deriving DecidableEq, Repr

/-- The supply thresholds in units of 10 mV (R155). -/
structure Thresholds where
  criticalEnter : Word16
  criticalExit : Word16
  lowEnter : Word16
  lowExit : Word16
  deriving DecidableEq, Repr

/-- The tables the digest covers (R177). `phaseTable` holds the class codes of phases 0 to 7 (R110). -/
structure Tables where
  profiles : Vector Profile 8
  classMap : ClassMap
  phaseTable : Vector Byte 8
  timers : Timers
  thresholds : Thresholds
  deriving DecidableEq, Repr

/-! ## Line supervision (chapter 1) -/

/-- The scan period in force (R2). -/
inductive ScanPeriod where
  | ms2 | ms16
  deriving DecidableEq, Repr

/-- The Line Scanner (1, section 1.1). -/
structure Scanner where
  period : ScanPeriod
  position : Line
  deriving DecidableEq, Repr

inductive Hook where
  | onHook | offHook
  deriving DecidableEq, Repr

/-- The supervision state of one line (1, section 1.2); its blanking remainder is in `Feed`. -/
structure Supervision where
  f : Int := 0
  hook : Hook := .onHook
  hookCount : Nat := 0
  overCount : Nat := 0
  foreignCount : Nat := 0
  ringTripCount : Nat := 0
  ringTripTaken : Bool := false
  deriving DecidableEq, Repr

/-! ## Break timing (chapter 2) -/

/-- The break timing state of one line (2, section 2.1); the default is "at rest". -/
structure BreakTiming where
  breakCount : Option Nat := none
  makeCount : Option Nat := none
  pulses : Nat := 0
  inDigit : Bool := false
  deriving DecidableEq, Repr

/-! ## Line feed (chapter 3) -/

/-- The feed modes, in the order of their codes on the feed mode output (R39); `openLoop` is Open. -/
inductive FeedMode where
  | openLoop | standby | active | reverse | ring
  deriving DecidableEq, Repr

inductive Blanking where
  | none
  | inTransition
  | left (ms : Nat)
  deriving DecidableEq, Repr

inductive Control where
  | callSide | testUnit
  deriving DecidableEq, Repr

/-- The feed state of one line (3, section 3.2); `settling` is the transition phase. -/
structure Feed where
  current : FeedMode := .openLoop
  target : FeedMode := .openLoop
  settling : Bool := false
  settle : Nat := 0
  blanking : Blanking := .none
  control : Control := .callSide
  held : Option FeedMode := none
  deriving DecidableEq, Repr

/-! ## Call handling (chapter 5) -/

/-- The call states, in the order of their codes (11, section 11.7). -/
inductive CallState where
  | disabled | idle | waiting | seizing | connected | ringing | lockout | testing | faulted
  deriving DecidableEq, Repr

/-- The tones, in the order of their codes (5, section 5.1). -/
inductive Tone where
  | wait | congestion | isolation | preemption | howler
  deriving DecidableEq, Repr

inductive Path where
  | none
  | bearer (b : Bearer)
  | tone (t : Tone)
  deriving DecidableEq, Repr

inductive LockoutCause where
  | congestion | released | preempted | isolated
  deriving DecidableEq, Repr

inductive LockoutPhase where
  | tone | howler | parked
  deriving DecidableEq, Repr

inductive FaultKind where
  | overcurrent | foreignBattery | foreignVoltage
  deriving DecidableEq, Repr

inductive RetryPhase where
  | wait | look
  deriving DecidableEq, Repr

inductive TimerKind where
  | answer | wait | tonePhase | howlerPhase | retryWait | retryLook
  deriving DecidableEq, Repr

/-- The one timer a line record runs, with the time left. It stands still while the line is Testing
(R99). -/
structure LineTimer where
  kind : TimerKind
  left : Nat
  deriving DecidableEq, Repr

/-- A line record (5, section 5.1). `preemptionTone` is the time left of the 2 s of Preemption tone (R96):
state the table implies without naming it. -/
structure CallRecord where
  state : CallState
  bearer : Option Bearer := none
  path : Path := .none
  cause : Option LockoutCause := none
  phase : Option LockoutPhase := none
  fault : Option FaultKind := none
  retry : Option RetryPhase := none
  early : List Nat := []
  lost : Bool := false
  timer : Option LineTimer := none
  preemptionTone : Option Nat := none
  prior : Option CallState := none
  deriving DecidableEq, Repr

/-! ## Bearer channels (chapter 4) -/

/-- The bearer states, in the order of their codes (4, section 4.1). -/
inductive BearerState where
  | absent | unchecked | idle | held | reserved | engaged | handover | clearing | barred
  deriving DecidableEq, Repr

/-- A bearer record (4, section 4.1). -/
structure BearerRecord where
  state : BearerState := .absent
  line : Option Line := none
  formerLine : Option Line := none
  barPending : Bool := false
  guard : Option Nat := none
  deriving DecidableEq, Repr

/-- The Bearer Table (4, section 4.1); `connection` is the connection list, oldest engagement first. -/
structure BearerTable where
  recs : Vector BearerRecord 12
  linkUp : Bool
  inService : Option Nat
  connection : List Bearer
  deriving DecidableEq, Repr

/-! ## Admission (chapter 6) -/

inductive Standing where
  | waiting | seizing
  deriving DecidableEq, Repr

/-- An entry of the arrival list (6, section 6.1). -/
structure Arrival where
  line : Line
  cls : Class
  standing : Standing
  deriving DecidableEq, Repr

/-- The handover record (R116). -/
structure Handover where
  bearer : Bearer
  line : Line
  left : Nat
  deriving DecidableEq, Repr

/-- The Admission Arbiter's own state (6, section 6.1); its tables are in `Tables`. -/
structure Arbiter where
  pointer : Fin 8
  arrivals : List Arrival
  handover : Option Handover
  deriving DecidableEq, Repr

/-! ## Ringing (chapter 7) -/

/-- The cadence wheel: while Running, the present phase and the time into it (R123). -/
inductive Wheel where
  | stopped
  | running (phase : Fin 4) (time : Nat)
  deriving DecidableEq, Repr

/-- The Ring Scheduler (7, section 7.1). A line's ring place is where it stands in `phases` and `queue`
(`ringPlace`). -/
structure Ringer where
  wheel : Wheel
  phases : Vector (List Line) 4
  queue : List Line
  counts : Vector Nat 32
  deriving DecidableEq, Repr

/-! ## Line testing (chapter 8) -/

inductive TestMode where
  | courteous | forced
  deriving DecidableEq, Repr

/-- The measurements, in the order they are made (R139). -/
inductive Measurement where
  | dc | ac | leakage
  deriving DecidableEq, Repr

inductive SessionPhase where
  | connect | look | measure | disconnect
  deriving DecidableEq, Repr

inductive Gain where
  | x25 | x5 | x1
  deriving DecidableEq, Repr

/-- Why a session was cut short (8, section 8.1). -/
inductive EndingStatus where
  | none | yielded | aborted | supply
  deriving DecidableEq, Repr

/-- A session record (8, section 8.1). `remaining` holds the measurements still to be made, the present one
first: the model's own record of how far the session has come. Outside a window and a look the gain, the window's
count, sums and clipped mark and the look count have no stated value: they stand at their values here, or as the
latest window has left them.
DESIGN CHOICE: notes/assumptions/30.md. -/
structure Session where
  line : Line
  mode : TestMode
  measurements : List Measurement
  remaining : List Measurement
  phase : SessionPhase
  present : Option Measurement := none
  gain : Gain := .x25
  window : Nat := 0
  sum : Int := 0
  squares : Nat := 0
  clipped : Bool := false
  lookCount : Nat := 0
  timer : Option Nat := none
  ending : EndingStatus := .none
  deriving DecidableEq, Repr

inductive ResultStatus where
  | none | inProgress | complete | yielded | aborted | supply
  deriving DecidableEq, Repr

inductive Verdict where
  | hazard | leaky | clean
  deriving DecidableEq, Repr

/-- A DC or AC entry of the result record: value in mV (R150). -/
structure VoltageEntry where
  value : Int
  gain : Gain
  overRange : Bool
  deriving DecidableEq, Repr

/-- The Leakage entry of the result record: current in µA and resistance in kΩ (R150). -/
structure LeakageEntry where
  current : Int
  resistance : Nat
  gain : Gain
  overRange : Bool
  deriving DecidableEq, Repr

/-- The result record (R150); the default is the empty record. -/
structure ResultRecord where
  line : Option Line := none
  mode : Option TestMode := none
  status : ResultStatus := .none
  verdict : Option Verdict := none
  dc : Option VoltageEntry := none
  ac : Option VoltageEntry := none
  leakage : Option LeakageEntry := none
  deriving DecidableEq, Repr

/-- The Test Unit with its two outputs (8, section 8.1). -/
structure TestUnit where
  session : Option Session := none
  result : ResultRecord := {}
  relay : Option Line := none
  source : Bool := false
  deriving DecidableEq, Repr

/-! ## Supply watch, Quiet operation and the control monitor (chapter 9), the digest (chapter 11) -/

/-- The supply levels, in the order of their codes (11, section 11.7). -/
inductive Level where
  | normal | low | critical
  deriving DecidableEq, Repr

/-- The Supply Watch (9, section 9.1); its thresholds are in `Tables`. -/
structure Supply where
  history : List Nat := []
  average : Option Nat := none
  level : Level := .normal
  dip : Bool := false
  deriving DecidableEq, Repr

/-- The Unit Monitor: Quiet operation, the control monitor and the table audit (9, sections 9.3 and 9.4;
R177). A timer that is `none` is Stopped. -/
structure Monitor where
  quiet : Bool := false
  quietTimer : Option Nat := none
  armed : Bool := false
  interval : Option Nat := none
  countdown : Option Nat := none
  isolated : Bool := false
  reference : Word16
  audit : Option Nat := none
  deriving DecidableEq, Repr

/-! ## Reports and the cabinet bus (chapters 10 and 11) -/

/-- The report kinds, in the order of their codes 0x01 to 0x11 (11, section 11.7). -/
inductive ReportKind where
  | seize | withdraw | flash | clear | answer | ringTimeout | digit | release | testDone | fault
  | faultCleared | tableUpset | controlRestored | preempted | overflow | supply | restarted
  deriving DecidableEq, Repr

/-- A report (11, section 11.2). -/
structure Report where
  kind : ReportKind
  line : Option Line := none
  bearer : Option Bearer := none
  value : Option Nat := none
  deriving DecidableEq, Repr

/-- The Report Queues, oldest report first (11, section 11.2). -/
structure Reports where
  urgent : List Report := []
  routine : List Report := []
  overflow : Bool := false
  routineAttention : Bool := true
  deriving DecidableEq, Repr

/-- Refusal causes, in the order of their codes 1 to 8 (11, section 11.7). -/
inductive Cause where
  | unknownRequest | badLength | outOfRange | wrongState | lineBusy | bearerUnavailable | testBusy | supplyLow
  deriving DecidableEq, Repr

/-- A reply as it is composed at the arrival of its request (R166). `poll` takes its counts and reports
when its transmission begins (R173). -/
inductive Reply where
  | accepted
  | data (bytes : List Byte)
  | clamped
  | late
  | refused (cause : Cause)
  | poll
  deriving DecidableEq, Repr

/-- The one reply the unit owes (R167): Waiting with the time since the check byte of its request, or
Transmitting the bytes of a frame with the time left. -/
inductive PendingReply where
  | none
  | waiting (reply : Reply) (age : Nat)
  | transmitting (frame : List Byte) (left : Nat)
  deriving DecidableEq, Repr

inductive AssemblyState where
  | hunting | address | length | payload | check
  deriving DecidableEq, Repr

/-- The frame being received (R164): the assembly state and the assembly buffer. -/
structure Assembly where
  state : AssemblyState := .hunting
  address : Option Byte := none
  length : Option Byte := none
  payload : List Byte := []
  deriving DecidableEq, Repr

/-- The byte whose bits are arriving on the receive line (R163): its start bit fell while received bytes were
examined, or while they were ignored (R167, R169). -/
inductive Reception where
  | none
  | taken
  | ignored
  deriving DecidableEq, Repr

/-- The Bus Interface (10, section 10.1). The receive line is low exactly while `lowTimer` runs, which holds
the time for which it has been low (R169). `readyTimer` is the time left of the 5 ms for which the receive
line must be high before the ready mark is set (R169); it runs only while the line is high. `gap` runs from the
end of one byte of a frame to the start bit of the next (R164). -/
structure Bus where
  address : Fin 4
  rate : BusRate
  assembly : Assembly := {}
  gap : Option Nat := none
  reception : Reception := .none
  pending : PendingReply := .none
  ready : Bool := false
  readyTimer : Option Nat := none
  lowTimer : Option Nat := none
  deriving DecidableEq, Repr

/-! ## The whole part -/

/-- The state of the LC3212. `strapPins` are the levels at the strap pins; `toneClock` is the point the tone
source has reached, in ms modulo 1000 (R100: every cadence's period divides 1000 ms); `inRestart` says that a
bus break holds the part in restart (R169); `pending` is the queue of waiting commands, first in, first
out.
DESIGN CHOICE: notes/assumptions/19.md. -/
structure State where
  entries : Vector LineEntry 32
  tables : Tables
  scanner : Scanner
  sup : Vector Supervision 32
  brk : Vector BreakTiming 32
  feed : Vector Feed 32
  call : Vector CallRecord 32
  bearers : BearerTable
  arbiter : Arbiter
  ringer : Ringer
  test : TestUnit
  supply : Supply
  monitor : Monitor
  reports : Reports
  bus : Bus
  strapPins : Straps
  toneClock : Nat
  inRestart : Bool
  pending : List Instr
  deriving DecidableEq, Repr

/-! ## Full-restart values -/

/-- A line entry after a full restart (R175). -/
def LineEntry.initial : LineEntry :=
  { enabled := false, profile := 0, cls := .standard, preemptible := false }

/-- A profile after a full restart (1, section 1.9): k 2, M 3, T_on 320, T_off 224, T_over 1600, flash
allowed, no answer reversal. -/
def Profile.initial : Profile :=
  { k := 2, m := 3, tOn := 320, tOff := 224, tOver := 1600, flags := 1 }

/-- The covered tables after a full restart (R103, R176; 9, section 9.1). -/
def Tables.initial : Tables :=
  { profiles := Vector.replicate 8 Profile.initial
    classMap := { priority := 0x0FFF, standard := 0x0FFF, economy := 0x0FFF, alarm := 0x0FFF }
    phaseTable := #v[1, 1, 2, 1, 1, 3, 1, 2]
    timers :=
      { answer := 4, guard := 3, wait := 20, congestion := 30, howler := 30, ringLimit := 25, quietDelay := 60 }
    thresholds := { criticalEnter := 4200, criticalExit := 4350, lowEnter := 4500, lowExit := 4650 } }

/-- The quiet timer started with the quiet delay setting; a delay of 0 does not start it (R156). -/
def Timers.quietStart (t : Timers) : Option Nat :=
  if t.quietDelay.toNat = 0 then none else some (t.quietDelay.toNat * 1000)

/-- The state a full restart gives every block, while the restart lasts: no report is queued, the quiet and
audit timers wait for the end of the restart, and no frame is taken (R5, R25, R40, R57, R74, R103, R122,
R136, R151, R156, R159, R169, R177, R178). The reference digest is that of the initial tables, 0x12BF. -/
def State.cold : State :=
  { entries := Vector.replicate 32 LineEntry.initial
    tables := Tables.initial
    scanner := { period := .ms2, position := 0 }
    sup := Vector.replicate 32 {}
    brk := Vector.replicate 32 {}
    feed := Vector.replicate 32 {}
    call := Vector.replicate 32 { state := .disabled }
    bearers := { recs := Vector.replicate 12 {}, linkUp := false, inService := none, connection := [] }
    arbiter := { pointer := 0, arrivals := [], handover := none }
    ringer :=
      { wheel := .stopped, phases := Vector.replicate 4 [], queue := [], counts := Vector.replicate 32 0 }
    test := {}
    supply := {}
    monitor := { reference := 0x12BF }
    reports := {}
    bus := { address := 0, rate := .b9600 }
    strapPins := { address := 0, rate := .b9600 }
    toneClock := 0
    inRestart := false
    pending := [] }

/-- The time for which the receive line must still be high before the ready mark is set, as a restart ends: 5
ms if the line is high then; a line that is low has to return high first (R169). -/
def Bus.readyLeft (b : Bus) : Option Nat :=
  match b.lowTimer with
  | none => some Config.readyMs
  | some _ => none

/-- The end of a full restart on `s`: the straps are read, the quiet and audit timers start, the 5 ms of
high receive line begin, and the Restarted report is queued with its cause's code (R156, R163, R169, R177,
R178). -/
def State.endRestart (s : State) (cause : Nat) : State :=
  { s with
    monitor := { s.monitor with quietTimer := s.tables.timers.quietStart, audit := some Config.auditMs }
    reports := { s.reports with urgent := [{ kind := .restarted, value := some cause }] }
    bus := { s.bus with
      address := s.strapPins.address, rate := s.strapPins.rate, readyTimer := s.bus.readyLeft }
    inRestart := false }

/-- The machine right after reset: a full restart with cause PowerOn (code 0) has ended (R178). The strap
levels and the level of the receive line are a DESIGN CHOICE (notes/assumptions/1.md): address 0, 9600 bit/s,
line high. -/
def State.reset : State := State.cold.endRestart 0

end Sys2Proof.Machine
end

