-- ==== Sys2Proof/Machine/Operands.lean ====
section
/-! DEFINITION. Operands: how bytes and two-byte numbers name lines, bearers, classes and other values, and
the bytes that carry them (11, section 11.7); the settings as the blocks read them; the wire encodings of the
covered tables and their digest (R177). -/

namespace Sys2Proof.Machine

/-! ## Vectors and lists -/

/-- The vector whose entry at `i` is `f i`. -/
def tabulate {α : Type} {n : Nat} (f : Fin n → α) : Vector α n := ⟨⟨List.ofFn f⟩, by simp⟩

/-- The lines in ascending order. -/
def allLines : List Line := List.finRange 32

/-- The bearers in ascending order. -/
def allBearers : List Bearer := List.finRange 12

/-! ## Names carried as bytes -/

/-- The line a byte names; none above 31. -/
def lineOfByte (b : Byte) : Option Line := if h : b.toNat < 32 then some ⟨b.toNat, h⟩ else none

/-- The bearer a byte names; none above 11. -/
def bearerOfByte (b : Byte) : Option Bearer := if h : b.toNat < 12 then some ⟨b.toNat, h⟩ else none

/-- A set of bearers is two bytes in which bit `b` stands for Bb; it names no bearer above B11. -/
def validSet (w : Word16) : Bool := w.toNat < 4096

/-- Bearer `b` is in the set. -/
def inSet (w : Word16) (b : Bearer) : Bool := w.getLsbD b

def Class.code : Class → Nat
  | .priority => 0 | .standard => 1 | .economy => 2 | .alarm => 3

def classOfCode : Nat → Option Class
  | 0 => some .priority | 1 => some .standard | 2 => some .economy | 3 => some .alarm | _ => none

def FeedMode.code : FeedMode → Nat
  | .openLoop => 0 | .standby => 1 | .active => 2 | .reverse => 3 | .ring => 4

def CallState.code : CallState → Nat
  | .disabled => 0 | .idle => 1 | .waiting => 2 | .seizing => 3 | .connected => 4 | .ringing => 5
  | .lockout => 6 | .testing => 7 | .faulted => 8

def Tone.code : Tone → Nat
  | .wait => 0 | .congestion => 1 | .isolation => 2 | .preemption => 3 | .howler => 4

def LockoutCause.code : LockoutCause → Nat
  | .congestion => 0 | .released => 1 | .preempted => 2 | .isolated => 3

def LockoutPhase.code : LockoutPhase → Nat
  | .tone => 0 | .howler => 1 | .parked => 2

def FaultKind.code : FaultKind → Nat
  | .overcurrent => 0 | .foreignBattery => 1 | .foreignVoltage => 2

def RetryPhase.code : RetryPhase → Nat
  | .wait => 0 | .look => 1

/-- DEDUCED (notes/assumptions/8.md): the range of the line timer begins with Stopped, so Answer is at
position 1. -/
def TimerKind.code : TimerKind → Nat
  | .answer => 1 | .wait => 2 | .tonePhase => 3 | .howlerPhase => 4 | .retryWait => 5 | .retryLook => 6

def BearerState.code : BearerState → Nat
  | .absent => 0 | .unchecked => 1 | .idle => 2 | .held => 3 | .reserved => 4 | .engaged => 5
  | .handover => 6 | .clearing => 7 | .barred => 8

def Level.code : Level → Nat
  | .normal => 0 | .low => 1 | .critical => 2

def Gain.code : Gain → Nat
  | .x25 => 0 | .x5 => 1 | .x1 => 2

def TestMode.code : TestMode → Nat
  | .courteous => 0 | .forced => 1

def Verdict.code : Verdict → Nat
  | .hazard => 0 | .leaky => 1 | .clean => 2

def ResultStatus.code : ResultStatus → Nat
  | .none => 0 | .inProgress => 1 | .complete => 2 | .yielded => 3 | .aborted => 4 | .supply => 5

def Hook.code : Hook → Nat
  | .onHook => 0 | .offHook => 1

def ReportKind.code : ReportKind → Nat
  | .seize => 0x01 | .withdraw => 0x02 | .flash => 0x03 | .clear => 0x04 | .answer => 0x05
  | .ringTimeout => 0x06 | .digit => 0x07 | .release => 0x08 | .testDone => 0x09 | .fault => 0x0A
  | .faultCleared => 0x0B | .tableUpset => 0x0C | .controlRestored => 0x0D | .preempted => 0x0E
  | .overflow => 0x0F | .supply => 0x10 | .restarted => 0x11

def Cause.code : Cause → Nat
  | .unknownRequest => 1 | .badLength => 2 | .outOfRange => 3 | .wrongState => 4 | .lineBusy => 5
  | .bearerUnavailable => 6 | .testBusy => 7 | .supplyLow => 8

/-- The causes of a Release report (11, section 11.7). -/
inductive ReleaseCause where
  | answerTimeout | fault | disabled | preempted
  deriving DecidableEq, Repr

def ReleaseCause.code : ReleaseCause → Nat
  | .answerTimeout => 0 | .fault => 1 | .disabled => 2 | .preempted => 3

/-- The value of a Digit report for a lost digit (11, section 11.7). -/
def lostDigit : Nat := 10

/-- A yes or no item is 1 or 0, and so is a mark (Clear 0, Set 1). -/
def boolByte (b : Bool) : Byte := if b then 1 else 0

/-- A number as one byte. -/
def byteOf (n : Nat) : Byte := BitVec.ofNat 8 n

/-- An absent line, bearer or value is 255. -/
def optByte (o : Option Nat) : Byte := byteOf (o.getD 255)

/-- A two-byte number, most significant byte first. -/
def wordBytes (w : Word16) : List Byte := [w.extractLsb' 8 8, w.extractLsb' 0 8]

/-- A number as two bytes; an absent one is 0xFFFF. -/
def optWordBytes (o : Option Nat) : List Byte := wordBytes (BitVec.ofNat 16 (o.getD 0xFFFF))

/-- A number in two's complement as two bytes. -/
def int16Bytes (i : Int) : List Byte := wordBytes (BitVec.ofInt 16 i)

/-- A number in two's complement as four bytes, most significant first. -/
def int32Bytes (i : Int) : List Byte :=
  let w := BitVec.ofInt 32 i
  [w.extractLsb' 24 8, w.extractLsb' 16 8, w.extractLsb' 8 8, w.extractLsb' 0 8]

/-- The two-byte number of two bytes, most significant first. -/
def wordOf (hi lo : Byte) : Word16 := hi ++ lo

/-- `left` ms in units of `unit` ms, rounded up. -/
def ceilUnits (unit left : Nat) : Nat := (left + unit - 1) / unit

/-! ## Settings as the blocks read them -/

/-- The profile named by the line's line entry (R21). -/
def State.profileOf (s : State) (l : Line) : Profile := s.tables.profiles[s.entries[l].profile]

/-- Flags byte: flash allowed 1, answer reversal 2 (11, section 11.7). -/
def Profile.flashAllowed (p : Profile) : Bool := p.flags.getLsbD 0
def Profile.answerReversal (p : Profile) : Bool := p.flags.getLsbD 1

/-- The class of a line entry. -/
def State.classOf (s : State) (l : Line) : Class := s.entries[l].cls

/-- The set of bearers of a class; Priority's set is all twelve bearers at all times (R104). -/
def ClassMap.set (m : ClassMap) : Class → Word16
  | .priority => 0x0FFF
  | .standard => m.standard
  | .economy => m.economy
  | .alarm => m.alarm

/-- A timer setting in seconds as ms. -/
def secondsMs (b : Byte) : Nat := b.toNat * 1000

/-- The class that entry `i` of the phase table names; none for a code of no class (R110). -/
def State.phaseClass (s : State) (i : Fin 8) : Option Class := classOfCode s.tables.phaseTable[i].toNat

/-! ## Wire encodings of the covered tables, and the digest (R177) -/

def Profile.bytes (p : Profile) : List Byte :=
  [p.k, p.m] ++ wordBytes p.tOn ++ wordBytes p.tOff ++ wordBytes p.tOver ++ [p.flags]

def ClassMap.bytes (m : ClassMap) : List Byte :=
  wordBytes m.priority ++ wordBytes m.standard ++ wordBytes m.economy ++ wordBytes m.alarm

def Timers.bytes (t : Timers) : List Byte :=
  [t.answer, t.guard, t.wait, t.congestion, t.howler, t.ringLimit] ++ wordBytes t.quietDelay

def Thresholds.bytes (t : Thresholds) : List Byte :=
  wordBytes t.criticalEnter ++ wordBytes t.criticalExit ++ wordBytes t.lowEnter ++ wordBytes t.lowExit

/-- The bytes of the wire encodings of the eight profiles in order, the class map, the arbiter phase table,
the timer settings and the supply thresholds. -/
def Tables.bytes (t : Tables) : List Byte :=
  t.profiles.toList.flatMap Profile.bytes ++ t.classMap.bytes ++ t.phaseTable.toList ++ t.timers.bytes
    ++ t.thresholds.bytes

/-- The digest: the sum of the bytes modulo 65536. -/
def digest (t : Tables) : Word16 := BitVec.ofNat 16 ((t.bytes.map BitVec.toNat).sum)

/-- The byte at index `i`. -/
def byteAt (bs : List Byte) (i : Nat) : Byte := bs.getD i 0

/-- The two-byte number at index `i`. -/
def wordAt (bs : List Byte) (i : Nat) : Word16 := wordOf (byteAt bs i) (byteAt bs (i + 1))

def profileAt (bs : List Byte) (i : Nat) : Profile :=
  { k := byteAt bs i, m := byteAt bs (i + 1), tOn := wordAt bs (i + 2), tOff := wordAt bs (i + 4)
    tOver := wordAt bs (i + 6), flags := byteAt bs (i + 8) }

/-- The tables whose wire encodings are `bs`. -/
def tablesOfBytes (bs : List Byte) : Tables :=
  { profiles := tabulate fun i => profileAt bs (9 * i)
    classMap :=
      { priority := wordAt bs 72, standard := wordAt bs 74, economy := wordAt bs 76, alarm := wordAt bs 78 }
    phaseTable := tabulate fun i => byteAt bs (80 + i)
    timers :=
      { answer := byteAt bs 88, guard := byteAt bs 89, wait := byteAt bs 90, congestion := byteAt bs 91
        howler := byteAt bs 92, ringLimit := byteAt bs 93, quietDelay := wordAt bs 94 }
    thresholds :=
      { criticalEnter := wordAt bs 96, criticalExit := wordAt bs 98, lowEnter := wordAt bs 100
        lowExit := wordAt bs 102 } }

end Sys2Proof.Machine
end

