-- ==== Sys2Proof/Machine/Ops.lean ====
section
/-! DEFINITION. The named updates of the state, and the operations every block shares: queuing a report
(R172), and running one thing for every line or bearer in order. -/

namespace Sys2Proof.Machine

/-! ## Updates of one block -/

def State.setEntry (s : State) (l : Line) (x : LineEntry) : State := { s with entries := s.entries.set l x }
def State.setTables (s : State) (x : Tables) : State := { s with tables := x }
def State.setScanner (s : State) (x : Scanner) : State := { s with scanner := x }
def State.setSup (s : State) (l : Line) (x : Supervision) : State := { s with sup := s.sup.set l x }
def State.setBrk (s : State) (l : Line) (x : BreakTiming) : State := { s with brk := s.brk.set l x }
def State.setFeed (s : State) (l : Line) (x : Feed) : State := { s with feed := s.feed.set l x }
def State.setCall (s : State) (l : Line) (x : CallRecord) : State := { s with call := s.call.set l x }
def State.setBearers (s : State) (x : BearerTable) : State := { s with bearers := x }
def State.setArbiter (s : State) (x : Arbiter) : State := { s with arbiter := x }
def State.setRinger (s : State) (x : Ringer) : State := { s with ringer := x }
def State.setTest (s : State) (x : TestUnit) : State := { s with test := x }
def State.setSupply (s : State) (x : Supply) : State := { s with supply := x }
def State.setMonitor (s : State) (x : Monitor) : State := { s with monitor := x }
def State.setReports (s : State) (x : Reports) : State := { s with reports := x }
def State.setBus (s : State) (x : Bus) : State := { s with bus := x }
def State.setStrapPins (s : State) (x : Straps) : State := { s with strapPins := x }
def State.setPending (s : State) (x : List Instr) : State := { s with pending := x }

/-- The record of bearer `b`. -/
def State.bearer (s : State) (b : Bearer) : BearerRecord := s.bearers.recs[b]

/-- Replace the record of bearer `b`. -/
def State.setBearer (s : State) (b : Bearer) (x : BearerRecord) : State :=
  s.setBearers { s.bearers with recs := s.bearers.recs.set b x }

/-- Replace the connection list. -/
def State.setConnection (s : State) (x : List Bearer) : State :=
  s.setBearers { s.bearers with connection := x }

/-- Replace the handover record. -/
def State.setHandover (s : State) (x : Option Handover) : State :=
  s.setArbiter { s.arbiter with handover := x }

/-- Replace the arrival list. -/
def State.setArrivals (s : State) (x : List Arrival) : State :=
  s.setArbiter { s.arbiter with arrivals := x }

/-! ## Order of work -/

/-- `f` for each line in turn, in ascending line order. -/
def eachLine (f : Line → State → State) (s : State) : State := allLines.foldl (fun s l => f l s) s

/-- `f` for each entry of `xs` in turn. -/
def each {α : Type} (xs : List α) (f : α → State → State) (s : State) : State :=
  xs.foldl (fun s x => f x s) s

/-! ## Reports (R172, R101) -/

/-- Append a report at the tail of the queue it is meant for: an urgent report that finds the urgent queue
full goes to the routine queue, and a report that finds the routine queue full is discarded and sets the
overflow mark. -/
def Reports.append (q : Reports) (urgent : Bool) (r : Report) : Reports :=
  if urgent && decide (q.urgent.length < Config.urgentCapacity) then { q with urgent := q.urgent ++ [r] }
  else if q.routine.length < Config.routineCapacity then { q with routine := q.routine ++ [r] }
  else { q with overflow := true }

def State.report (s : State) (urgent : Bool) (r : Report) : State :=
  s.setReports (s.reports.append urgent r)

/-- Queue a report of the line's call or test: urgent if the line entry's class is Priority when the report
is queued (R101, R146). -/
def State.lineReport (s : State) (kind : ReportKind) (l : Line) (b : Option Bearer) (v : Option Nat) : State :=
  s.report (decide (s.classOf l = .priority)) { kind := kind, line := some l, bearer := b, value := v }

end Sys2Proof.Machine
end

