-- ==== Sys2Proof/Machine/Flags.lean ====
section
/-! DEFINITION. The conditions and outputs computed from the state: hook and fault indications (R10, R11),
admission (R105), the quiet condition (R156), and the outputs that follow the state (R39, R54, R100, R170). -/

namespace Sys2Proof.Machine

/-! ## Indications (R10, R11) -/

inductive Indication where
  | above | below | between
  deriving DecidableEq, Repr

/-- The sign of expected current; none where no indication is formed (R10). -/
def FeedMode.sigma : FeedMode → Option Int
  | .openLoop => none
  | .standby => some 1
  | .active => some 1
  | .reverse => some (-1)
  | .ring => none

/-- The hook indication of an expected current `e` = σ·F (R11). Where both thresholds are met, which no
profile that Set Profile accepts allows, the indication is a free value. -/
def hookIndication (p : Profile) (e : Int) : Indication :=
  if 16 * (p.tOn.toNat : Int) ≤ e then
    if e ≤ 16 * (p.tOff.toNat : Int) then
      if Config.overlapIsAbove e p.tOn.toNat p.tOff.toNat then .above else .below
    else .above
  else if e ≤ 16 * (p.tOff.toNat : Int) then .below
  else .between

/-- The overcurrent indication: |F| ≥ 16·T_over (R11). -/
def overcurrentIndication (p : Profile) (f : Int) : Bool := decide (16 * p.tOver.toNat ≤ f.natAbs)

/-- The foreign-battery indication: σ·F ≤ −16·T_on (R11). -/
def foreignIndication (p : Profile) (e : Int) : Bool := decide (e ≤ -(16 * (p.tOn.toNat : Int)))

/-! ## Call states -/

/-- The call states in which the Break Timer times the line (R24). -/
def CallState.timed : CallState → Bool
  | .waiting | .seizing | .connected => true
  | _ => false

/-- The call states of a line that has joined and not left the arrival list (R106). -/
def CallState.joined : CallState → Bool
  | .waiting | .seizing => true
  | _ => false

/-- The call states whose samples get full supervision (R4). -/
def CallState.supervised : CallState → Bool
  | .disabled | .testing => false
  | _ => true

/-! ## Admission (R105) -/

/-- The classes a supply level admits. -/
def Level.admits : Level → Class → Bool
  | .normal, _ => true
  | .low, .priority => true
  | .low, .standard => true
  | .low, _ => false
  | .critical, .priority => true
  | .critical, _ => false

/-- A waiter of class `c` is eligible for bearer `b`. -/
def State.eligible (s : State) (c : Class) (b : Bearer) : Bool :=
  decide ((s.bearer b).state = .idle) && inSet (s.tables.classMap.set c) b && s.supply.level.admits c
    && !s.monitor.isolated

/-! ## The quiet condition (R156) -/

/-- A bearer that keeps the unit from Quiet operation (4, section 4.2). -/
def BearerState.busy : BearerState → Bool
  | .held | .reserved | .engaged | .handover | .clearing => true
  | _ => false

def State.quietCondition (s : State) : Bool :=
  allLines.all (fun l => !s.entries[l].enabled || decide (s.call[l].state = .idle))
    && allBearers.all (fun b => !(s.bearer b).state.busy)
    && s.test.session.isNone
    && decide (s.ringer.wheel = .stopped)

/-! ## Outputs that follow the state -/

/-- The ring generator enable output (R54). -/
def State.ringEnable (s : State) : Bool := allLines.any fun l => decide (s.feed[l].current = .ring)

/-- The attention output, asserted (R170); during a restart it is released. -/
def State.attention (s : State) : Bool :=
  !s.inRestart && (!s.reports.urgent.isEmpty || s.reports.overflow
    || (!s.reports.routine.isEmpty && s.reports.routineAttention))

/-- The three feed mode pins of a line (R39). -/
def State.feedPins (s : State) (l : Line) : BitVec 3 := BitVec.ofNat 3 s.feed[l].current.code

/-- The transmit enable output (R167). -/
def State.transmitEnable (s : State) : Bool :=
  match s.bus.pending with
  | .transmitting _ _ => true
  | _ => false

/-- What a line's receive slot carries (R100). -/
inductive ReceiveSlot where
  | silence
  | trunk (b : Bearer)
  | tone (t : Tone)
  deriving DecidableEq, Repr

def State.receiveSlot (s : State) (l : Line) : ReceiveSlot :=
  match s.call[l].path with
  | .none => .silence
  | .bearer b => .trunk b
  | .tone t => .tone t

/-- What a bearer's trunk upstream slot carries (R100): the transmit samples of the line whose path is that
bearer, or the idle pattern. -/
inductive UpstreamSlot where
  | idlePattern
  | line (l : Line)
  deriving DecidableEq, Repr

def State.upstreamSlot (s : State) (b : Bearer) : UpstreamSlot :=
  if (s.bearer b).state = .engaged then
    match allLines.find? (fun l => decide (s.call[l].path = .bearer b)) with
    | some l => .line l
    | none => .idlePattern
  else .idlePattern

/-- A tone sounds at this point of its cadence (R100); `clock` is in ms modulo 1000. -/
def Tone.isOn (t : Tone) (clock : Nat) : Bool :=
  match t with
  | .wait => true
  | .congestion => decide (clock % 500 < 250)
  | .isolation => decide (clock % 1000 < 150) || (decide (300 ≤ clock % 1000) && decide (clock % 1000 < 450))
  | .preemption => decide (clock % 200 < 100)
  | .howler => true

/-! ## Ring places (7, section 7.1) -/

inductive RingPlace where
  | phase (p : Fin 4)
  | queue (position : Nat)
  deriving DecidableEq, Repr

/-- The phase whose list holds the line. -/
def Ringer.phaseOf (r : Ringer) (l : Line) : Option (Fin 4) :=
  (List.finRange 4).find? fun p => decide (l ∈ r.phases[p])

/-- The line's ring place; a queue position counts from 1 at the head (R135). -/
def State.ringPlace (s : State) (l : Line) : Option RingPlace :=
  match s.ringer.phaseOf l with
  | some p => some (.phase p)
  | none =>
    if l ∈ s.ringer.queue then some (.queue (s.ringer.queue.idxOf l + 1)) else none

/-- Some line is Ringing (R123). -/
def State.anyRinging (s : State) : Bool := allLines.any fun l => decide (s.call[l].state = .ringing)

end Sys2Proof.Machine
end

