-- ==== Sys2Proof/Machine/Feed.lean ====
section
/-! DEFINITION. The Feed Controller (chapter 3): steps, targets, transitions, protection, test takeover. -/

namespace Sys2Proof.Machine

/-- The step of a transition between two different modes (R43). -/
def nextStep (current target : FeedMode) : FeedMode :=
  match current, target with
  | .ring, .openLoop => .standby
  | .ring, .active => .standby
  | .ring, .reverse => .standby
  | .openLoop, .ring => .standby
  | .active, .ring => .standby
  | .reverse, .ring => .standby
  | _, t => t

/-- Drive a mode on the output: it becomes the current feed mode, and its settle begins (R42, R44, R48). -/
def Feed.drive (f : Feed) (m : FeedMode) : Feed :=
  { f with current := m, settling := true, settle := Config.settleMs, blanking := .inTransition }

/-- Take a target that the line's control admits (R42, R45). -/
def Feed.take (f : Feed) (m : FeedMode) : Feed :=
  let f := { f with target := m }
  if f.settling || decide (m = f.current) then f else f.drive (nextStep f.current m)

/-- The settle timer runs out (R44). -/
def Feed.settleEnd (f : Feed) : Feed :=
  if f.current = f.target then { f with settling := false, settle := 0, blanking := .left Config.blankingMs }
  else f.drive (nextStep f.current f.target)

/-- The protective Open (R48). -/
def Feed.protect (f : Feed) : Feed :=
  let f := { f with target := .openLoop }
  if f.current = .openLoop then f else f.drive .openLoop

/-- A target of the Call Handler, or a Standby target of the Ring Scheduler: while the Test Unit has control
it is recorded as the held target (R42, R50). -/
def Feed.callTarget (f : Feed) (m : FeedMode) : Feed :=
  match f.control with
  | .callSide => f.take m
  | .testUnit => { f with held := some m }

/-- A Ring target is taken only for a line that is Ringing and whose control is Call side (R42). -/
def Feed.ringTarget (f : Feed) (st : CallState) : Feed :=
  if f.control = .callSide ∧ st = .ringing then f.take .ring else f

/-- The Test Unit takes control; the target as it stands becomes the held target (R49). -/
def Feed.takeover (f : Feed) : Feed := { f with control := .testUnit, held := some f.target }

/-- Control returns to the call side, and the held target is taken as a new target; a held target of Ring
is taken only for a Ringing line (R42, R51). -/
def Feed.handback (f : Feed) (st : CallState) : Feed :=
  let g := { f with control := .callSide, held := none }
  match f.held with
  | none => g
  | some .ring => g.ringTarget st
  | some m => g.take m

/-- A transition has ended, or none was needed: the line is Steady in `m`. -/
def Feed.steadyIn (f : Feed) (m : FeedMode) : Bool := !f.settling && decide (f.current = m)

/-- The line's move toward Standby, or toward Open for a Disabled line, at a calls restart (R41). -/
def Feed.callsRestart (f : Feed) (enabled : Bool) : Feed :=
  ({ f with control := .callSide, held := none }).take (if enabled then .standby else .openLoop)

/-! ## On the state -/

/-- A target from the Call Handler. -/
def callTarget (l : Line) (m : FeedMode) (s : State) : State := s.setFeed l (s.feed[l].callTarget m)

/-- A Ring target from the Ring Scheduler. -/
def ringTarget (l : Line) (s : State) : State := s.setFeed l (s.feed[l].ringTarget s.call[l].state)

/-- A target from the Test Unit, which has control (R50). -/
def testTarget (l : Line) (m : FeedMode) (s : State) : State := s.setFeed l (s.feed[l].take m)

/-- A fault decision arrives at the Feed Controller (R48): it acts on a line whose control is Call side. -/
def protect (l : Line) (s : State) : State :=
  match s.feed[l].control with
  | .callSide => s.setFeed l s.feed[l].protect
  | .testUnit => s

/-- The handback of a line (R51). -/
def handback (l : Line) (s : State) : State := s.setFeed l (s.feed[l].handback s.call[l].state)

/-- The blanking remainder runs out (R46). -/
def blankingEnd (l : Line) (s : State) : State :=
  match s.feed[l].blanking with
  | .left _ => s.setFeed l { s.feed[l] with blanking := .none }
  | _ => s

end Sys2Proof.Machine
end

