-- ==== Sys2Proof/Machine/Ringing.lean ====
section
/-! DEFINITION. The Ring Scheduler's placements (chapter 7): capacity, fills, removal, the wheel. The ring
limit and the phase boundary, which end calls, are in Calls.lean. -/

namespace Sys2Proof.Machine

/-- The capacity of each phase (R125). -/
def Level.ringCapacity : Level → Nat
  | .normal => 2
  | .low => 1
  | .critical => 1

/-- The level permits a Ringing line of class `c` in a phase (R125). -/
def Level.permits : Level → Class → Bool
  | .critical, .priority => true
  | .critical, _ => false
  | _, _ => true

/-- The present level permits the line in a phase. -/
def State.permitted (s : State) (l : Line) : Bool := s.supply.level.permits (s.classOf l)

abbrev PhaseLists := Vector (List Line) 4

/-- The better of two phases to place a line in: the one with fewer lines, the earlier on a tie. -/
def betterPhase (ph : PhaseLists) (best : Option (Fin 4)) (p : Fin 4) : Option (Fin 4) :=
  match best with
  | none => some p
  | some b => if ph[p].length < ph[b].length then some p else some b

/-- The phase with the fewest lines, lowest-numbered among equals, among the phases with room (R126,
R129). -/
def bestPhase (ph : PhaseLists) (capacity : Nat) : Option (Fin 4) :=
  ((List.finRange 4).filter fun p => decide (ph[p].length < capacity)).foldl (betterPhase ph) none

/-- Append the line to the list of the phase. -/
def PhaseLists.append (ph : PhaseLists) (p : Fin 4) (l : Line) : PhaseLists := ph.set p (ph[p] ++ [l])

/-- A fill walks the ring queue from its head (R129): it answers the phase lists and the queue that is
left. -/
def fillWalk (permitted : Line → Bool) (capacity : Nat) : List Line → PhaseLists → PhaseLists × List Line
  | [], ph => (ph, [])
  | l :: rest, ph =>
    if permitted l then
      match bestPhase ph capacity with
      | some p => fillWalk permitted capacity rest (PhaseLists.append ph p l)
      | none => (ph, l :: rest)
    else
      let (ph', left) := fillWalk permitted capacity rest ph
      (ph', l :: left)

/-- A fill at the present level (R129). It sets no target. -/
def fill (s : State) : State :=
  let (ph, queue) := fillWalk s.permitted s.supply.level.ringCapacity s.ringer.queue s.ringer.phases
  s.setRinger { s.ringer with phases := ph, queue := queue }

/-- Place a line that enters Ringing, with its ring count at 0 (R126). -/
def place (l : Line) (s : State) : State :=
  let r := { s.ringer with counts := s.ringer.counts.set l 0 }
  match s.permitted l, bestPhase r.phases s.supply.level.ringCapacity with
  | true, some p => s.setRinger { r with phases := PhaseLists.append r.phases p l }
  | _, _ => s.setRinger { r with queue := r.queue ++ [l] }

/-- The start of a phase: each line of its list is given a target of Ring (R124, step 3). -/
def startPhase (p : Fin 4) (s : State) : State := each s.ringer.phases[p] ringTarget s

/-- Start the wheel at phase 0 if it is Stopped (R123); this start advances no ring count. -/
def startWheel (s : State) : State :=
  match s.ringer.wheel with
  | .stopped => startPhase 0 (s.setRinger { s.ringer with wheel := .running 0 0 })
  | .running _ _ => s

/-- Stop the wheel if no line is Ringing (R123). -/
def stopWheel (s : State) : State :=
  if s.anyRinging then s else s.setRinger { s.ringer with wheel := .stopped }

/-- The lists without the line, whether it was in a phase or in the queue. -/
def Ringer.without (r : Ringer) (l : Line) : Ringer :=
  { r with
    phases := tabulate fun p => r.phases[p].filter (fun x => x ≠ l)
    queue := r.queue.filter (fun x => x ≠ l)
    counts := r.counts.set l 0 }

/-- The removal of a line that has left Ringing, the fill of the phase it leaves, and the wheel's stop after
the last Ringing line (R123, R128). -/
def ringRemove (l : Line) (s : State) : State :=
  let removed := s.setRinger (s.ringer.without l)
  stopWheel (if (s.ringer.phaseOf l).isSome then fill removed else removed)

/-! ## Changes of supply level and class (R130 to R132) -/

/-- The lines a phase keeps when the level falls to `lv`: at Critical only Priority lines, and then the
capacity's worth of those assigned longest ago (R130). -/
def keptAtFall (s : State) (lv : Level) (lines : List Line) : List Line :=
  (lines.filter fun l => lv.permits (s.classOf l)).take lv.ringCapacity

/-- The lines a phase gives up when the level falls to `lv`, in their order of assignment (R130). -/
def movedAtFall (s : State) (lv : Level) (lines : List Line) : List Line :=
  lines.filter fun l => decide (l ∉ keptAtFall s lv lines)

/-- A fall to the level in force (R130): the lines that no longer fit go to the head of the ring queue, each
with a target of Standby, and a fill is made. -/
def ringFall (s : State) : State :=
  let lv := s.supply.level
  let moved := (List.finRange 4).flatMap fun p => movedAtFall s lv s.ringer.phases[p]
  let r := { s.ringer with
    phases := tabulate fun p => keptAtFall s lv s.ringer.phases[p]
    queue := moved ++ s.ringer.queue }
  fill (each moved (fun l => callTarget l .standby) (s.setRinger r))

/-- A Set Line has changed the class of a Ringing line (R132). -/
def ringClassChange (l : Line) (s : State) : State :=
  match s.supply.level with
  | .critical =>
    if s.permitted l then fill s
    else
      match s.ringer.phaseOf l with
      | some p =>
        let r := { s.ringer with
          phases := s.ringer.phases.set p (s.ringer.phases[p].filter (fun x => x ≠ l))
          queue := l :: s.ringer.queue }
        fill (callTarget l .standby (s.setRinger r))
      | none => s
  | _ => s

end Sys2Proof.Machine
end

