-- ==== Sys2Proof/Machine/Bearers.lean ====
section
/-! DEFINITION. The Bearer Table's changes of one bearer (chapter 4). -/

namespace Sys2Proof.Machine

/-- Change the line field; the line it held, if it is not the new one, becomes the former line (R56). -/
def BearerRecord.withLine (r : BearerRecord) (l : Option Line) : BearerRecord :=
  { r with
    line := l
    formerLine := if r.line = l then r.formerLine else match r.line with
      | some old => some old
      | none => r.formerLine }

/-- The record given to `l` in state `st` (R58). -/
def BearerRecord.give (r : BearerRecord) (st : BearerState) (l : Line) : BearerRecord :=
  ({ r with state := st }).withLine (some l)

/-- The record put into Clearing with a guard of `ms` (R60). -/
def BearerRecord.toClearing (r : BearerRecord) (ms : Nat) : BearerRecord :=
  ({ r with state := .clearing, guard := some ms }).withLine none

/-- The record made Idle, or Barred where a bar is pending (R61, R65, R66, R68); the guard stops. -/
def BearerRecord.freed (r : BearerRecord) : BearerRecord :=
  ({ r with
      state := if r.barPending then BearerState.barred else BearerState.idle
      barPending := false
      guard := none }).withLine none

/-- The record made Absent (R64). -/
def BearerRecord.lost (r : BearerRecord) : BearerRecord :=
  ({ r with state := .absent, barPending := false, guard := none }).withLine none

/-- The record after a calls restart (R57). -/
def BearerRecord.callsRestart (r : BearerRecord) : BearerRecord :=
  if r.state = .absent then r
  else
    ({ r with
        state := .unchecked
        barPending := r.barPending || decide (r.state = BearerState.barred)
        guard := none }).withLine none

/-! ## On the state -/

/-- Give bearer `b` to line `l` in Held, Reserved or Handover (R58). -/
def giveBearer (b : Bearer) (st : BearerState) (l : Line) (s : State) : State :=
  s.setBearer b ((s.bearer b).give st l)

/-- Bearer `b` becomes Engaged for `l` and is appended to the connection list (R58, R59, R70). -/
def engage (b : Bearer) (l : Line) (s : State) : State :=
  let s := giveBearer b .engaged l s
  s.setConnection (s.bearers.connection ++ [b])

/-- Remove `b` from the connection list (R70). -/
def disconnect (b : Bearer) (s : State) : State :=
  s.setConnection (s.bearers.connection.filter fun x => x ≠ b)

/-- The part gives bearer `b` back (R60): it goes to Clearing, and a handover it was in ends (R118). -/
def clearBearer (b : Bearer) (s : State) : State :=
  let s := disconnect b (s.setBearer b ((s.bearer b).toClearing (secondsMs s.tables.timers.guard)))
  if s.arbiter.handover.map Handover.bearer = some b then s.setHandover none else s

/-- The exchange has ended the call on `b` (R61): it is free at once. -/
def freeBearer (b : Bearer) (s : State) : State := disconnect b (s.setBearer b (s.bearer b).freed)

/-- The guard timer of a Clearing bearer runs out (R69). -/
def guardExpiry (b : Bearer) (s : State) : State :=
  let r := s.bearer b
  if r.state = .clearing ∧ r.guard.isSome then s.setBearer b { r with state := .unchecked, guard := none }
  else s

end Sys2Proof.Machine
end

