-- ==== Sys2Proof/Machine/Calls.lean ====
section
/-! DEFINITION. The Call Handler's changes of state (chapter 5): what every change does (R76), Idle, Lockout,
fault entry, answer. -/

namespace Sys2Proof.Machine

/-- The tone of the Tone phase of a lockout at its entry (R95). -/
def LockoutCause.tone : LockoutCause → Tone
  | .congestion => .congestion
  | .released => .congestion
  | .preempted => .preemption
  | .isolated => .isolation

/-- A change of call state (R76): the line record becomes `n`, whose timer and path are those of the new
state. The early-digit buffer is kept in Waiting and Seizing and emptied in every other state; the Break
Timer keeps its state between two timed states and is set at rest otherwise (R24); a line that is neither
Waiting nor Seizing leaves the arrival list (R108); a line that leaves Ringing is removed by the Ring
Scheduler (R127). -/
def enter (l : Line) (n : CallRecord) (s : State) : State :=
  let old := s.call[l]
  let s := s.setCall l (if n.state.joined then { n with early := old.early, lost := old.lost }
    else { n with early := [], lost := false })
  let s := if old.state.timed && n.state.timed then s else s.setBrk l {}
  let s := if n.state.joined then s
    else s.setArrivals (s.arbiter.arrivals.filter fun a => a.line ≠ l)
  if old.state = .ringing ∧ n.state ≠ .ringing then ringRemove l s else s

/-- The line becomes Idle. -/
def goIdle (l : Line) (s : State) : State := callTarget l .standby (enter l { state := .idle } s)

/-- The line record of a line that enters Lockout (R95). -/
def lockoutRecord (c : LockoutCause) (s : State) : CallRecord :=
  { state := .lockout, path := .tone c.tone, cause := some c, phase := some .tone
    timer := some { kind := .tonePhase, left := secondsMs s.tables.timers.congestion }
    preemptionTone := if c = .preempted then some Config.preemptionToneMs else none }

/-- The line enters Lockout (R95); a line that is on-hook goes on to Idle in the same event.
DEDUCED: notes/assumptions/9.md. -/
def enterLockout (l : Line) (c : LockoutCause) (s : State) : State :=
  let s := callTarget l .active (enter l (lockoutRecord c s) s)
  match s.sup[l].hook with
  | .onHook => goIdle l s
  | .offHook => s

/-- The record of a line that waits for a bearer, with its wait timer (R81, R92). -/
def waitingRecord (s : State) : CallRecord :=
  { state := .waiting, path := .tone .wait
    timer := some { kind := .wait, left := secondsMs s.tables.timers.wait } }

/-- The record of a line that seizes bearer `b` whose Seize report is queued now (R82a). -/
def seizingRecord (b : Bearer) (s : State) : CallRecord :=
  { state := .seizing, bearer := some b
    timer := some { kind := .answer, left := secondsMs s.tables.timers.answer } }

/-- The record of a line connected on bearer `b`. -/
def connectedRecord (b : Bearer) : CallRecord :=
  { state := .connected, bearer := some b, path := .bearer b }

/-- Queue the Seize report of line `l` on bearer `b` (R82a, R101). -/
def seizeReport (l : Line) (b : Bearer) (s : State) : State :=
  s.lineReport .seize l (some b) (some (s.classOf l).code)

/-- Queue a Release report (R60). -/
def releaseReport (l : Line) (b : Bearer) (c : ReleaseCause) (s : State) : State :=
  s.lineReport .release l (some b) (some c.code)

/-- The handover in flight is line `l`'s (R116). -/
def State.inHandover (s : State) (l : Line) : Bool :=
  decide (s.arbiter.handover.map Handover.line = some l)

/-- A line that names a bearer loses it to Clearing with a Release report of the cause (R60). -/
def releaseUse (l : Line) (c : ReleaseCause) (s : State) : State :=
  match s.call[l].bearer with
  | some b => releaseReport l b c (clearBearer b s)
  | none => s

/-- A Ringing line is answered (R93). -/
def answerCall (l : Line) (s : State) : State :=
  match s.call[l].bearer with
  | some b =>
    let s := enter l (connectedRecord b) (engage b l s)
    (callTarget l .active s).lineReport .answer l (some b) none
  | none => s

/-- The ring limit is reached (R94, R133). -/
def ringLimitReached (l : Line) (s : State) : State :=
  if s.call[l].state = .ringing then
    match s.call[l].bearer with
    | some b => goIdle l (clearBearer b (s.lineReport .ringTimeout l (some b) none))
    | none => goIdle l s
  else s

/-- The record of a line that enters Faulted (R97); a ForeignVoltage fault has no retry. -/
def faultedRecord (k : FaultKind) : CallRecord :=
  match k with
  | .foreignVoltage => { state := .faulted, fault := some k }
  | _ =>
    { state := .faulted, fault := some k, retry := some .wait
      timer := some { kind := .retryWait, left := Config.retryWaitMs } }

/-- The line enters Faulted (R97), without the Priority reconsideration that follows an abandoned
handover. -/
def faultEntry (l : Line) (k : FaultKind) (s : State) : State :=
  let s := s.report true { kind := .fault, line := some l, bearer := s.call[l].bearer, value := some k.code }
  callTarget l .openLoop (enter l (faultedRecord k) (releaseUse l .fault s))

/-! ## The phases of a lockout (R96) -/

/-- The Tone phase runs out: the Howler phase begins. -/
def tonePhaseEnd (l : Line) (s : State) : State :=
  let c := s.call[l]
  if c.state = .lockout ∧ c.phase = some .tone then
    callTarget l .active (s.setCall l
      { c with
        path := .tone .howler, phase := some .howler, preemptionTone := none
        timer := some { kind := .howlerPhase, left := secondsMs s.tables.timers.howler } })
  else s

/-- 2 s of the Tone phase of a preempted line have run. -/
def preemptionToneEnd (l : Line) (s : State) : State :=
  let c := s.call[l]
  if c.state = .lockout ∧ c.phase = some .tone ∧ c.preemptionTone.isSome then
    s.setCall l { c with path := .tone .congestion, preemptionTone := none }
  else s

/-- The Howler phase runs out: the line is parked. -/
def howlerPhaseEnd (l : Line) (s : State) : State :=
  let c := s.call[l]
  if c.state = .lockout ∧ c.phase = some .howler then
    callTarget l .standby (s.setCall l { c with path := .none, phase := some .parked, timer := none })
  else s

/-- The path a lockout calls for in its present phase (R95, R96). -/
def CallRecord.lockoutPath (c : CallRecord) : Path :=
  match c.phase, c.cause with
  | some .tone, some .preempted => if c.preemptionTone.isSome then .tone .preemption else .tone .congestion
  | some .tone, some k => .tone k.tone
  | some .howler, _ => .tone .howler
  | _, _ => .none

/-- The feed a lockout calls for in its present phase (R96). -/
def CallRecord.lockoutFeed (c : CallRecord) : FeedMode :=
  match c.phase with
  | some .parked => .standby
  | _ => .active

/-! ## The cadence wheel's boundary (R124, R133) -/

/-- The ring counts of the Ringing lines advance by 1 (R133). -/
def advanceCounts (s : State) : State :=
  s.setRinger { s.ringer with
    counts := tabulate fun l =>
      if s.call[l].state = .ringing then s.ringer.counts[l] + 1 else s.ringer.counts[l] }

/-- The Ringing lines whose count has reached the ring limit, in ascending line order (R133). -/
def limitLines (s : State) : List Line :=
  allLines.filter fun l =>
    decide (s.call[l].state = .ringing) && decide (s.tables.timers.ringLimit.toNat ≤ s.ringer.counts[l])

/-- A start of phase 0: counts advance, and the lines that have reached the limit end in turn (R124, step
2). -/
def ringCountStep (s : State) : State :=
  let s := advanceCounts s
  each (limitLines s) ringLimitReached s

/-- The wheel passes a phase boundary (R124). -/
def phaseBoundary (s : State) : State :=
  match s.ringer.wheel with
  | .stopped => s
  | .running p _ =>
    let q := p + 1
    let s := each s.ringer.phases[p] (fun l => callTarget l .standby) s
    let s := s.setRinger { s.ringer with wheel := .running q 0 }
    let s := if q = 0 then ringCountStep s else s
    startPhase q s

end Sys2Proof.Machine
end

