-- ==== Sys2Proof/Machine/Admission.lean ====
section
/-! DEFINITION. The Admission Arbiter (chapter 6): joining, grants, the phase walk, preemption, glare
placement, the Priority reconsideration. -/

namespace Sys2Proof.Machine

/-- Set the standing of the line's entry, in its place (R106). -/
def setStanding (l : Line) (st : Standing) (s : State) : State :=
  s.setArrivals (s.arbiter.arrivals.map fun a => if a.line = l then { a with standing := st } else a)

/-- The entry is a waiter of class `c`. -/
def Arrival.waits (a : Arrival) (c : Class) : Bool := decide (a.standing = .waiting) && decide (a.cls = c)

/-- The Admission Arbiter grants Idle bearer `b` to line `l` (R58, R82a, R109). -/
def grantBearer (l : Line) (b : Bearer) (s : State) : State :=
  let s := setStanding l .seizing (giveBearer b .held l s)
  seizeReport l b (enter l (seizingRecord b s) s)

/-- The lowest-numbered bearer for which a waiter of class `c` is eligible (R107). -/
def State.lowestEligible (s : State) (c : Class) : Option Bearer := allBearers.find? fun b => s.eligible c b

/-! ## Preemption (R113 to R119) -/

/-- The bearer's line may be preempted (R114). -/
def State.preemptibleOn (s : State) (b : Bearer) : Bool :=
  match (s.bearer b).line with
  | some l => s.entries[l].preemptible && decide (s.classOf l ≠ .priority)
  | none => false

/-- The victim: the first bearer of the connection list that qualifies (R114). -/
def State.victim (s : State) : Option Bearer := s.bearers.connection.find? s.preemptibleOn

/-- The handover of victim bearer `v` to Priority line `p` begins (R115). -/
def startHandover (p : Line) (v : Bearer) (s : State) : State :=
  match (s.bearer v).line with
  | none => s
  | some old =>
    let s := s.report true { kind := .preempted, line := some old, bearer := some v }
    let s := enterLockout old .preempted s
    let s := disconnect v (giveBearer v .handover p s)
    let s := enter p { state := .seizing, bearer := some v } (setStanding p .seizing s)
    s.setHandover (some { bearer := v, line := p, left := Config.handoverMs })

/-- The Priority step for line `p` (R113). -/
def priorityStep (p : Line) (s : State) : State :=
  match s.arbiter.handover with
  | some _ => s
  | none =>
    match s.victim with
    | some v => startHandover p v s
    | none => s

/-- The line joins the wait list, and the arbiter runs for it alone (R107). -/
def join (l : Line) (s : State) : State :=
  let c := s.classOf l
  let s := s.setArrivals (s.arbiter.arrivals ++ [{ line := l, cls := c, standing := .waiting }])
  match s.lowestEligible c with
  | some b => grantBearer l b s
  | none => if c = .priority then priorityStep l s else s

/-- Serve the Priority waiters in turn until one finds no eligible Idle bearer; that one takes the Priority
step (R119). -/
def reconsiderWaiters : List Line → State → State
  | [], s => s
  | p :: rest, s =>
    match s.lowestEligible .priority with
    | some b => reconsiderWaiters rest (grantBearer p b s)
    | none => priorityStep p s

/-- The Priority reconsideration (R119). -/
def reconsider (s : State) : State :=
  reconsiderWaiters ((s.arbiter.arrivals.filter fun a => a.waits .priority).map Arrival.line) s

/-- The Priority reconsideration after a handover that has been abandoned (R118). -/
def reconsiderIf (abandoned : Bool) (s : State) : State := if abandoned then reconsider s else s

/-! ## A freed or Idle bearer (R109) -/

/-- The oldest waiter of class `c` that is eligible for `b`. -/
def State.oldestEligible (s : State) (c : Class) (b : Bearer) : Option Line :=
  if s.eligible c b then (s.arbiter.arrivals.find? fun a => a.waits c).map Arrival.line else none

/-- The phase walk from phase `i` over at most `n` phases: the line granted and the pointer after it. -/
def phaseWalk (s : State) (b : Bearer) : Nat → Fin 8 → Option (Line × Fin 8)
  | 0, _ => none
  | n + 1, i =>
    match (s.phaseClass i).bind fun c => s.oldestEligible c b with
    | some l => some (l, i + 1)
    | none => phaseWalk s b n (i + 1)

/-- The arbiter chooses one waiter for bearer `b`, or none (R109). -/
def freedRun (b : Bearer) (s : State) : State :=
  match s.oldestEligible .priority b with
  | some l => grantBearer l b s
  | none =>
    match phaseWalk s b 8 s.arbiter.pointer with
    | some (l, next) => grantBearer l b (s.setArbiter { s.arbiter with pointer := next })
    | none => s

/-- The bearers that are Idle, in ascending order. -/
def State.idleBearers (s : State) : List Bearer := allBearers.filter fun b => decide ((s.bearer b).state = .idle)

/-- The arbiter is run once for each bearer that is Idle at this moment (R104, R111). -/
def runIdle (s : State) : State := each s.idleBearers freedRun s

/-- Bearer `b` is handed to the arbiter if it became Idle, and not if it became Barred (R71). -/
def handFreed (b : Bearer) (s : State) : State := if (s.bearer b).state = .idle then freedRun b s else s

/-! ## Glare placement (R112) and the end of a handover (R117) -/

/-- The class copied in the line's arrival entry. -/
def State.arrivalClass (s : State) (l : Line) : Class :=
  match s.arbiter.arrivals.find? fun a => a.line = l with
  | some a => a.cls
  | none => s.classOf l

/-- Line `m` has yielded its bearer: the arbiter places it on another, or returns it to Waiting in its place
(R92, R112). -/
def placeYielded (m : Line) (s : State) : State :=
  match s.lowestEligible (s.arrivalClass m) with
  | some b => grantBearer m b s
  | none =>
    let s := setStanding m .waiting s
    enter m (waitingRecord s) s

/-- The remaining time of the handover runs out (R117). -/
def handoverExpiry (s : State) : State :=
  match s.arbiter.handover with
  | none => s
  | some h =>
    let s := giveBearer h.bearer .held h.line s
    let s := seizeReport h.line h.bearer (enter h.line (seizingRecord h.bearer s) s)
    reconsider (s.setHandover none)

/-! ## Off-hook handling (R81) -/

/-- Off-hook handling of a line. -/
def offHookHandling (l : Line) (s : State) : State :=
  if s.monitor.isolated then enterLockout l .isolated s
  else join l (callTarget l .active (enter l (waitingRecord s) s))

end Sys2Proof.Machine
end

