-- ==== Sys2Proof/Machine/BreakTimer.lean ====
section
/-! DEFINITION. The Break Timer's state of one line (chapter 2). What it hands to the Call Handler is in
Decisions.lean. -/

namespace Sys2Proof.Machine

/-- The classification of a break (R29). -/
inductive BreakClass where
  | glitch | pulse | invalid | flash
  deriving DecidableEq, Repr

/-- Classify the break count found at an OffHook decision (R29). -/
def classifyBreak (b : Nat) : BreakClass :=
  if b ≤ 9 then .glitch
  else if b ≤ 60 then .pulse
  else if b ≤ 124 then .invalid
  else .flash

/-- An OnHook decision begins a break (R26). -/
def BreakTiming.start (t : BreakTiming) : BreakTiming := { t with breakCount := some 0 }

/-- The end of a break that is ignored (R30). -/
def BreakTiming.glitch (t : BreakTiming) : BreakTiming := { t with breakCount := none }

/-- The end of a break that is a pulse; 11 stands for more than 10 (R31). -/
def BreakTiming.pulse (t : BreakTiming) : BreakTiming :=
  { breakCount := none, makeCount := some 0, pulses := if t.pulses < 11 then t.pulses + 1 else t.pulses
    inDigit := true }

/-- The end of a break that discards the digit in progress (R32, R33). -/
def BreakTiming.discard (_t : BreakTiming) : BreakTiming := {}

/-- The end of a break of the given class. -/
def BreakTiming.finish (t : BreakTiming) : BreakClass → BreakTiming
  | .glitch => t.glitch
  | .pulse => t.pulse
  | .invalid => t.discard
  | .flash => t.discard

/-- A sample tick that carries the hook state `h` (R27, R34). -/
def BreakTiming.tick (t : BreakTiming) (h : Hook) : BreakTiming :=
  match h with
  | .onHook => { t with breakCount := t.breakCount.map (· + 1) }
  | .offHook => { t with makeCount := t.makeCount.map (· + 1) }

/-- The value of a digit of `p` pulses (R35). -/
def digitValue (p : Nat) : Option Nat :=
  if 1 ≤ p ∧ p ≤ 9 then some p else if p = 10 then some 0 else none

/-- The state after a digit has ended (R35): the break count is kept. -/
def BreakTiming.digitDone (t : BreakTiming) : BreakTiming :=
  { t with makeCount := none, pulses := 0, inDigit := false }

end Sys2Proof.Machine
end

