-- ==== Sys2Proof/Machine/Supervision.lean ====
section
/-! DEFINITION. The Supervision Unit's treatment of one sample of one line (chapter 1). What it does with a
decision is in Decisions.lean. -/

namespace Sys2Proof.Machine

/-- The converted current of a loop current at the sense input (R3). -/
def convertSense (current : Int) : Int := clampInt (-2048) 2047 current

/-- The filter update (R8): the division rounds toward minus infinity. -/
def filterUpdate (k : Nat) (f s : Int) : Int := f + (16 * s - f) / ((2 ^ k : Nat) : Int)

/-- The hook count and both fault counts at 0. -/
def Supervision.noCounts (x : Supervision) : Supervision :=
  { x with hookCount := 0, overCount := 0, foreignCount := 0 }

/-- The hook count after a sample of the given indication (R13). -/
def nextHookCount (h : Hook) (i : Indication) (c : Nat) : Nat :=
  match h, i with
  | .onHook, .above => c + 1
  | .offHook, .below => c + 1
  | _, _ => 0

/-- The counts after a sample on which indications are formed outside blanking (R13, R16, R17). -/
def Supervision.count (x : Supervision) (p : Profile) (sigma : Int) : Supervision :=
  let e := sigma * x.f
  { x with
    hookCount := nextHookCount x.hook (hookIndication p e) x.hookCount
    overCount := if overcurrentIndication p x.f then x.overCount + 1 else 0
    foreignCount := if foreignIndication p e then x.foreignCount + 1 else 0 }

/-- The examination of the ring-trip reading (R19), and the return of the taken mark to Clear (R20). -/
def Supervision.ringTrip (x : Supervision) (f : Feed) (asserted : Bool) : Supervision :=
  { x with
    ringTripCount :=
      if (!f.settling && decide (f.current = .ring)) && !x.ringTripTaken then (if asserted then x.ringTripCount + 1 else 0) else 0
    ringTripTaken := x.ringTripTaken && decide (f.current = .ring) }

/-- A sample with full supervision, before any decision (R4, R8, R10, R12, R13, R16, R17, R19). -/
def Supervision.sample (x : Supervision) (p : Profile) (f : Feed) (s : Int) (asserted : Bool) : Supervision :=
  let x := { x with f := filterUpdate p.k.toNat x.f s }
  let x := match f.current.sigma with
    | none => x.noCounts
    | some sigma => if f.blanking = Blanking.none then x.count p sigma else x.noCounts
  x.ringTrip f asserted

/-- A sample of a Testing line (R4).
DEDUCED: notes/assumptions/14.md. -/
def Supervision.sampleTesting (x : Supervision) (p : Profile) (f : Feed) (s : Int) : Supervision :=
  { x.noCounts with
    f := filterUpdate p.k.toNat x.f s
    ringTripCount := 0
    ringTripTaken := x.ringTripTaken && decide (f.current = .ring) }

/-- A count that has just been advanced reaches the debounce count (DEDUCED: notes/assumptions/13.md). -/
def reaches (count m : Nat) : Bool := decide (0 < count) && decide (m ≤ count)

/-- The decision a sample brings (R13, R16 to R18, R20): one fault decision at most, Overcurrent before
Foreign Battery, and no hook decision beside it. -/
inductive Decision where
  | none
  | hook
  | fault (k : FaultKind)
  | ringTrip
  deriving DecidableEq, Repr

def Supervision.decision (x : Supervision) (m : Nat) : Decision :=
  if reaches x.overCount m then .fault .overcurrent
  else if reaches x.foreignCount m then .fault .foreignBattery
  else if reaches x.hookCount m then .hook
  else if 2 ≤ x.ringTripCount then .ringTrip
  else .none

/-- The values of enabling and disabling, and of a restart (R5 to R7). -/
def Supervision.fresh : Supervision := {}

/-- The hook count and both fault counts of the line are set to 0 (R22). -/
def resetCounts (l : Line) (s : State) : State := s.setSup l s.sup[l].noCounts

end Sys2Proof.Machine
end

