-- ==== Sys2Proof/Machine/Decisions.lean ====
section
/-! DEFINITION. The decisions of the Supervision Unit and the Break Timer, and what the Call Handler does with
them (chapters 1, 2 and 5). -/

namespace Sys2Proof.Machine

/-- Quiet operation ends (R158). The quiet timer is run by `runQuiet` at the end of the event. -/
def endQuiet (s : State) : State := s.setMonitor { s.monitor with quiet := false }

/-! ## What the Break Timer hands over (R80, R82, R83, R86) -/

/-- A Digit decision of value `v`. -/
def callDigit (l : Line) (v : Nat) (s : State) : State :=
  let c := s.call[l]
  match c.state with
  | .waiting | .seizing =>
    if c.early.length < Config.earlyCapacity then s.setCall l { c with early := c.early ++ [v] }
    else s.setCall l { c with lost := true }
  | .connected => s.lineReport .digit l c.bearer (some v)
  | _ => s

/-- A Flash decision. -/
def callFlash (l : Line) (s : State) : State :=
  match s.call[l].state with
  | .connected => s.lineReport .flash l s.call[l].bearer none
  | _ => s

/-- A Clear decision. -/
def callClear (l : Line) (s : State) : State :=
  let c := s.call[l]
  match c.state, c.bearer with
  | .waiting, _ => goIdle l s
  | .seizing, some b =>
    if (s.bearer b).state = .handover then
      reconsider (goIdle l (releaseReport l b .preempted (clearBearer b s)))
    else goIdle l ((clearBearer b s).lineReport .withdraw l (some b) none)
  | .connected, some b => goIdle l (clearBearer b (s.lineReport .clear l (some b) none))
  | _, _ => s

/-! ## The Break Timer (R26 to R35) -/

/-- A clear is decided on a timed line (R28). -/
def clearDecision (l : Line) (s : State) : State :=
  if s.call[l].state.timed && s.brk[l].breakCount.isSome then (callClear l s).setBrk l {} else s

/-- A digit ends on a timed line (R35). -/
def digitEnd (l : Line) (s : State) : State :=
  if s.call[l].state.timed && s.brk[l].makeCount.isSome then
    let t := s.brk[l]
    let s := s.setBrk l t.digitDone
    match digitValue t.pulses with
    | some v => callDigit l v s
    | none => s
  else s

/-- The class of a break of `b` samples on line `l`: a flash counts as one only where the profile allows
flashes (R29, R33). -/
def breakClassOf (l : Line) (b : Nat) (s : State) : BreakClass :=
  match classifyBreak b with
  | .flash => if (s.profileOf l).flashAllowed then .flash else .invalid
  | c => c

/-- A hook decision reaches the Break Timer (R26, R29). -/
def breakDecision (l : Line) (h : Hook) (s : State) : State :=
  let t := s.brk[l]
  match h, t.breakCount with
  | .onHook, _ => s.setBrk l t.start
  | .offHook, none => s
  | .offHook, some b =>
    let c := breakClassOf l b s
    let s := s.setBrk l (t.finish c)
    if c = .flash then callFlash l s else s

/-- A sample tick of a timed line (R15, R27, R34). -/
def sampleTick (l : Line) (s : State) : State :=
  let t := s.brk[l].tick s.sup[l].hook
  let s := s.setBrk l t
  match s.sup[l].hook with
  | .onHook =>
    match t.breakCount with
    | some b => if Config.clearCount ≤ b then clearDecision l s else s
    | none => s
  | .offHook =>
    match t.makeCount with
    | some m => if Config.digitEndCount ≤ m then digitEnd l s else s
    | none => s

/-! ## Hook, ring-trip and fault decisions (R13 to R20) -/

/-- A hook decision reaches the Call Handler (R81, R93, R94, R96, R98). -/
def callHook (l : Line) (h : Hook) (s : State) : State :=
  match s.call[l].state, h with
  | .idle, .offHook => offHookHandling l s
  | .ringing, .offHook => answerCall l s
  | .lockout, .onHook => goIdle l s
  | _, _ => s

/-- A hook decision, already taken, is delivered by the call state of the line (R14). -/
def deliverHook (l : Line) (s : State) : State :=
  let h := s.sup[l].hook
  let s := endQuiet s
  if s.call[l].state.timed then breakDecision l h s else callHook l h s

/-- A hook decision on the line (R13): the hook state changes and is delivered.
DESIGN CHOICE: notes/assumptions/4.md. -/
def hookDecision (l : Line) (s : State) : State :=
  if s.call[l].state.supervised then
    let x := s.sup[l]
    let h := match x.hook with
      | .onHook => Hook.offHook
      | .offHook => Hook.onHook
    deliverHook l (s.setSup l { x with hook := h, hookCount := 0 })
  else s

/-- A ring-trip decision on the line (R20). -/
def ringTripDecision (l : Line) (s : State) : State :=
  if s.call[l].state.supervised then
    let s := s.setSup l
      { s.sup[l] with hook := .offHook, hookCount := 0, ringTripCount := 0, ringTripTaken := true }
    if s.call[l].state = .ringing then answerCall l s else deliverHook l s
  else s

/-- A fault decision reaches the Call Handler (R97, R98). -/
def callFault (l : Line) (k : FaultKind) (s : State) : State :=
  let c := s.call[l]
  match c.state with
  | .disabled | .testing => s
  | .faulted =>
    if c.retry = some .look then
      callTarget l .openLoop (s.setCall l
        { c with
          fault := some k, retry := some .wait
          timer := some { kind := .retryWait, left := Config.retryWaitMs } })
    else s
  | _ => reconsiderIf (s.inHandover l) (faultEntry l k s)

/-- A fault decision on the line (R16 to R18, R47, R48): its counts go to 0, the protective Open is driven
and the Call Handler acts. -/
def faultDecision (l : Line) (k : FaultKind) (s : State) : State :=
  if s.call[l].state.supervised then
    callFault l k (protect l (endQuiet (resetCounts l s)))
  else s

/-! ## Timers of the line record (R82, R83a, R98) -/

/-- The line record runs a timer of the kind. -/
def CallRecord.runs (c : CallRecord) (k : TimerKind) : Bool := decide (c.timer.map LineTimer.kind = some k)

/-- The wait timer of a Waiting line runs out (R82). -/
def waitLimitExpiry (l : Line) (s : State) : State :=
  if s.call[l].state = .waiting ∧ s.call[l].runs .wait then enterLockout l .congestion s else s

/-- The answer timer of a Seizing line runs out (R83a). -/
def answerExpiry (l : Line) (s : State) : State :=
  if s.call[l].state = .seizing ∧ s.call[l].runs .answer then
    enterLockout l .congestion (releaseUse l .answerTimeout s)
  else s

/-- The Retry wait timer of a Faulted line runs out (R98). -/
def retryWaitExpiry (l : Line) (s : State) : State :=
  let c := s.call[l]
  if c.state = .faulted ∧ c.runs .retryWait then
    callTarget l .standby (s.setCall l
      { c with
        retry := some .look
        timer := some { kind := .retryLook, left := Config.retryLookMs } })
  else s

/-- The Retry look timer of a Faulted line runs out (R98). -/
def retryLookExpiry (l : Line) (s : State) : State :=
  let c := s.call[l]
  if c.state = .faulted ∧ c.runs .retryLook then
    let s := goIdle l (s.report true { kind := .faultCleared, line := some l })
    match s.sup[l].hook with
    | .offHook => offHookHandling l s
    | .onHook => s
  else s

end Sys2Proof.Machine
end

