-- ==== Sys2Proof/Machine/Testing.lean ====
section
/-! DEFINITION. The Test Unit (chapter 8): the course of a session, windows and auto-ranging, results and
verdict, the end of a session and the handback of its line. -/

namespace Sys2Proof.Machine

/-! ## Gains and results (R142 to R145) -/

/-- Voltage per count in mV (R142). -/
def Gain.voltage : Gain → Nat
  | .x25 => 4 | .x5 => 20 | .x1 => 100

/-- Current per count in µA (R142). -/
def Gain.current : Gain → Nat
  | .x25 => 2 | .x5 => 10 | .x1 => 50

/-- The next lower gain (R142). -/
def Gain.lower : Gain → Option Gain
  | .x25 => some .x5 | .x5 => some .x1 | .x1 => none

/-- `n / d` rounded to the nearest integer, halves away from zero (R143, R144). -/
def roundDiv (n : Int) (d : Nat) : Int :=
  let q : Int := ((2 * n.natAbs + d) / (2 * d) : Nat)
  if n < 0 then -q else q

/-- Search for the largest root, one binary digit at a time from weight 2^`bits` down. -/
def isqrtFrom (n : Nat) : Nat → Nat → Nat
  | 0, r => if (r + 1) * (r + 1) ≤ n then r + 1 else r
  | bits + 1, r =>
    isqrtFrom n bits (if (r + 2 ^ (bits + 1)) * (r + 2 ^ (bits + 1)) ≤ n then r + 2 ^ (bits + 1) else r)

/-- isqrt(x): the largest integer whose square is not greater than x (00_scope.md, section 4.2). -/
def isqrt (n : Nat) : Nat := isqrtFrom n (n.log2 / 2) 0

/-- The foreign DC voltage of a window in mV (R143). -/
def dcResult (g : Gain) (sum : Int) : Int := roundDiv (g.voltage * sum) Config.windowLength

/-- The foreign AC voltage of a window in mV (R143). -/
def acResult (g : Gain) (sum : Int) (squares : Nat) : Nat :=
  g.voltage * isqrt (((Config.windowLength * squares : Nat) : Int) - sum * sum).toNat / Config.windowLength

/-- The leakage current of a window in µA (R144). -/
def leakageCurrent (g : Gain) (sum : Int) : Int := roundDiv (g.current * sum) Config.windowLength

/-- The insulation resistance in kΩ (R144). -/
def leakageResistance (current : Int) : Nat :=
  if 1 ≤ current then min 65535 (50000 / current.toNat) else 65535

/-- A DC or AC entry that makes a verdict Hazard (R145). -/
def VoltageEntry.hazard (e : VoltageEntry) (limit : Nat) : Bool := decide (limit < e.value.natAbs) || e.overRange

/-- The verdict of a session that has made every measurement it was asked for (R145). -/
def verdictOf (r : ResultRecord) : Verdict :=
  if r.dc.any (fun e => e.hazard 10000) || r.ac.any (fun e => e.hazard 25000) then .hazard
  else if r.leakage.any (fun e => decide (e.resistance < 100)) then .leaky
  else .clean

/-! ## The session's steps (R139 to R142) -/

def State.setSession (s : State) (x : Option Session) : State := s.setTest { s.test with session := x }

def State.setResult (s : State) (r : ResultRecord) : State := s.setTest { s.test with result := r }

/-- A new window (R142). -/
def Session.newWindow (x : Session) : Session := { x with window := 0, sum := 0, squares := 0, clipped := false }

/-- The measurement `m` begins at gain ×25; the test source is asserted for Leakage (R142). -/
def beginMeasurement (x : Session) (m : Measurement) (s : State) : State :=
  s.setTest { s.test with
    session := some { x.newWindow with phase := .measure, present := some m, gain := .x25, timer := none }
    source := decide (m = .leakage) }

/-- Open is set for the next measurement, which begins once Open is reached, at once if it is (R139,
R140).
Until Open is reached the present measurement is none.
DESIGN CHOICE: notes/assumptions/28.md. -/
def toMeasure (x : Session) (m : Measurement) (s : State) : State :=
  let s := testTarget x.line .openLoop s
  if s.feed[x.line].steadyIn .openLoop then beginMeasurement x m s
  else s.setSession (some { x with phase := .measure, present := none, timer := none })

/-- A look begins: Standby is set, and the look proper runs from the moment Standby is reached (R140). -/
def startLook (x : Session) (s : State) : State :=
  let s := testTarget x.line .standby s
  s.setSession (some { x with
    phase := .look, present := none, lookCount := 0
    timer := if s.feed[x.line].steadyIn .standby then some Config.lookMs else none })

/-- The Disconnect phase begins with the given ending status (R146, R148, R149). -/
def beginDisconnect (x : Session) (e : EndingStatus) (s : State) : State :=
  let s := testTarget x.line .openLoop s
  s.setTest { s.test with
    session := some { x.newWindow with
      phase := .disconnect, present := none, lookCount := 0, timer := some Config.disconnectMs, ending := e }
    relay := none
    source := false }

/-- The session goes on to the next measurement, by way of a look in courteous mode, or, after the last, to
the verdict and the Disconnect phase (R139, R145, R146).
The verdict stands in the result record from here on, while its status is still InProgress (R145 against the
table of R150).
DESIGN CHOICE: notes/assumptions/27.md. -/
def nextMeasurement (x : Session) (s : State) : State :=
  match x.remaining with
  | [] =>
    beginDisconnect x .none (s.setResult { s.test.result with verdict := some (verdictOf s.test.result) })
  | m :: _ =>
    match x.mode with
    | .courteous => startLook x s
    | .forced => toMeasure x m s

/-- The entry of a completed window is written into the result record (R142 to R144). -/
def ResultRecord.write (r : ResultRecord) (m : Measurement) (x : Session) : ResultRecord :=
  match m with
  | .dc => { r with dc := some { value := dcResult x.gain x.sum, gain := x.gain, overRange := x.clipped } }
  | .ac =>
    { r with ac := some { value := acResult x.gain x.sum x.squares, gain := x.gain, overRange := x.clipped } }
  | .leakage =>
    let i := leakageCurrent x.gain x.sum
    { r with
      leakage := some
        { current := i, resistance := leakageResistance i, gain := x.gain, overRange := x.clipped } }

/-- The window of measurement `m` is completed (R142): its entry is written, the test source is deasserted
and the session goes on. -/
def completeWindow (x : Session) (m : Measurement) (s : State) : State :=
  let s := s.setTest { s.test with result := s.test.result.write m x, source := false }
  nextMeasurement { x with remaining := x.remaining.tail, present := none } s

/-- The window ends (R142). -/
def windowEnd (s : State) : State :=
  match s.test.session with
  | none => s
  | some x =>
    match x.phase, x.present with
    | .measure, some m =>
      match x.clipped, x.gain.lower with
      | true, some g => s.setSession (some { x.newWindow with gain := g })
      | _, _ => completeWindow x m s
    | _, _ => s

/-- The converted test sample (R142). -/
def convertTest (value : Int) : Int := clampInt (-2048) 2047 value

/-- One converter sample in the window (R142). -/
def Session.addSample (x : Session) (v : Int) : Session :=
  { x with
    window := x.window + 1
    sum := x.sum + v
    squares := x.squares + v.natAbs * v.natAbs
    clipped := x.clipped || decide (v = -2048) || decide (v = 2047) }

/-- A converter sample arrives (R142); outside a window it is not used. -/
def converterSample (value : Int) (s : State) : State :=
  match s.test.session with
  | none => s
  | some x =>
    match x.phase, x.present with
    | .measure, some _ =>
      let x := x.addSample (convertTest value)
      let s := s.setSession (some x)
      if Config.windowLength ≤ x.window then windowEnd s else s
    | _, _ => s

/-! ## The end of a session (R141, R146, R147) -/

/-- The line is made Disabled with the values that disabling gives it (R7, R147). -/
def toDisabled (l : Line) (s : State) : State :=
  callTarget l .openLoop ((enter l { state := .disabled } s).setSup l Supervision.fresh)

/-- The line returns to its prior state (R99, R147). -/
def returnPrior (l : Line) (prior : CallState) (s : State) : State :=
  let c := s.call[l]
  match prior with
  | .disabled => toDisabled l s
  | .lockout =>
    callTarget l c.lockoutFeed (enter l { c with state := .lockout, path := c.lockoutPath, prior := none } s)
  | .faulted => callTarget l .openLoop (enter l { c with state := .faulted, path := .none, prior := none } s)
  | _ => goIdle l s

/-- The state of the handed-back line (R147).
DESIGN CHOICE: notes/assumptions/11.md. -/
def returnLine (l : Line) (e : EndingStatus) (v : Option Verdict) (s : State) : State :=
  let c := s.call[l]
  let prior := c.prior.getD .idle
  match e, v with
  | .none, some .hazard =>
    match prior with
    | .disabled => toDisabled l s
    | _ => faultEntry l .foreignVoltage s
  | .none, some .clean =>
    if prior = .faulted ∧ c.fault = some .foreignVoltage then
      let s := goIdle l (s.report true { kind := .faultCleared, line := some l })
      match s.sup[l].hook with
      | .offHook => offHookHandling l s
      | .onHook => s
    else returnPrior l prior s
  | _, _ => returnPrior l prior s

/-- The status of the result record at the session's end (R146). -/
def EndingStatus.result : EndingStatus → ResultStatus
  | .none => .complete | .yielded => .yielded | .aborted => .aborted | .supply => .supply

/-- The value of a TestDone report (11, section 11.7). -/
def EndingStatus.code : EndingStatus → Nat
  | .none => 0 | .yielded => 1 | .aborted => 2 | .supply => 3

/-- The session ends after its Disconnect phase (R146): the line's counts stand at 0 (R4), and the Call
Handler's target for the returned line is taken just before the handback (R51 allows either order).
DEDUCED: notes/assumptions/25.md. -/
def endSession (x : Session) (s : State) : State :=
  let s := s.setTest { s.test with
    session := none, result := { s.test.result with status := x.ending.result } }
  let s := s.lineReport .testDone x.line none (some x.ending.code)
  let s := s.setSup x.line { s.sup[x.line].noCounts with ringTripCount := 0 }
  handback x.line (returnLine x.line x.ending s.test.result.verdict s)

/-- The look sees the subscriber off-hook: the session ends Yielded (R141). -/
def yieldSession (x : Session) (s : State) : State :=
  let s := s.setTest
    { session := none, result := { s.test.result with status := .yielded, verdict := none }
      relay := none, source := false }
  let s := s.lineReport .testDone x.line none (some EndingStatus.yielded.code)
  let s := s.setSup x.line { s.sup[x.line] with hook := .offHook, hookCount := 0 }
  handback x.line (offHookHandling x.line s)

/-- A look's off-hook, in a look proper (R140, R141). -/
def lookOffHook (s : State) : State :=
  match s.test.session with
  | some x =>
    if x.phase = .look ∧ x.timer.isSome then yieldSession x s else s
  | none => s

/-- A converted current of the line under test, during a look proper (R140). -/
def lookSample (l : Line) (v : Int) (s : State) : State :=
  match s.test.session with
  | none => s
  | some x =>
    if x.line = l ∧ x.phase = .look ∧ x.timer.isSome then
      let n := if ((s.profileOf l).tOn.toNat : Int) ≤ v then x.lookCount + 1 else 0
      if 2 ≤ n then yieldSession x s else s.setSession (some { x with lookCount := n })
    else s

/-! ## Phase timers and the feed's signal (R44, R139, R140, R146) -/

/-- The Connect phase ends once its timer has run out and Open has been reached (R139). -/
def finishConnect (x : Session) (s : State) : State :=
  if s.feed[x.line].steadyIn .openLoop then nextMeasurement x s else s

/-- The Disconnect phase ends once its timer has run out and Open has been reached (R146). -/
def finishDisconnect (x : Session) (s : State) : State :=
  if s.feed[x.line].steadyIn .openLoop then endSession x s else s

/-- The phase timer of the Connect phase runs out (R139). -/
def connectExpiry (s : State) : State :=
  match s.test.session with
  | some x =>
    if x.phase = .connect ∧ x.timer.isSome then
      let x := { x with timer := none }
      finishConnect x (s.setSession (some x))
    else s
  | none => s

/-- The phase timer of a look proper runs out: the look ends clear (R140). -/
def lookExpiry (s : State) : State :=
  match s.test.session with
  | some x =>
    match x.remaining with
    | m :: _ => if x.phase = .look ∧ x.timer.isSome then toMeasure { x with lookCount := 0 } m s else s
    | [] => s
  | none => s

/-- The phase timer of the Disconnect phase runs out (R146). -/
def disconnectExpiry (s : State) : State :=
  match s.test.session with
  | some x =>
    if x.phase = .disconnect ∧ x.timer.isSome then
      let x := { x with timer := none }
      finishDisconnect x (s.setSession (some x))
    else s
  | none => s

/-- The Feed Controller's signal that the line under test has reached its target (R44). -/
def targetReached (l : Line) (s : State) : State :=
  match s.test.session with
  | none => s
  | some x =>
    if x.line = l ∧ x.timer = none then
      match x.phase, s.feed[l].current, x.present, x.remaining with
      | .connect, .openLoop, _, _ => finishConnect x s
      | .look, .standby, _, _ => s.setSession (some { x with timer := some Config.lookMs })
      | .measure, .openLoop, none, m :: _ => beginMeasurement x m s
      | .disconnect, .openLoop, _, _ => finishDisconnect x s
      | _, _, _, _ => s
    else s

/-- The settle timer of the line runs out (R44). -/
def settleEnd (l : Line) (s : State) : State :=
  if s.feed[l].settling then
    let s := s.setFeed l s.feed[l].settleEnd
    if s.feed[l].control = .testUnit ∧ s.feed[l].settling = false then targetReached l s else s
  else s

/-! ## Requests and events that cut a session short (R99, R140, R148, R149) -/

/-- A session in its Connect phase, a look or a measurement goes to its Disconnect phase (R148, R149). -/
def cutShort (e : EndingStatus) (s : State) : State :=
  match s.test.session with
  | some x => if x.phase = .disconnect then s else beginDisconnect x e s
  | none => s

/-- The line under test has been disabled: no further looks are made, and a look in progress is ended as if
clear (R140).
DEDUCED: notes/assumptions/23.md. -/
def dropLooks (l : Line) (s : State) : State :=
  match s.test.session with
  | some x =>
    if x.line = l then
      let y := { x with mode := .forced }
      match x.phase, x.remaining with
      | .look, m :: _ => toMeasure { y with lookCount := 0 } m s
      | _, _ => s.setSession (some y)
    else s
  | none => s

/-! ## Starting a session (R49, R99, R138) -/

/-- The line record of a line taken over by the Test Unit (R99): the timer stands still, and a retry look
goes back to a full retry wait. -/
def CallRecord.suspend (c : CallRecord) : CallRecord :=
  { c with
    state := .testing, path := .none, prior := some c.state
    retry := if c.retry = some .look then some .wait else c.retry
    timer := if c.retry = some .look then some { kind := .retryWait, left := Config.retryWaitMs } else c.timer }

/-- A session starts on the line (R138): takeover, Connect phase, relay. The fields of a window and of a look take
their default values (DESIGN CHOICE: notes/assumptions/30.md). -/
def startSession (l : Line) (mode : TestMode) (ms : List Measurement) (s : State) : State :=
  let s := s.setTest
    { session := some
        { line := l, mode := mode, measurements := ms, remaining := ms, phase := .connect
          timer := some Config.connectMs }
      result := { line := some l, mode := some mode, status := .inProgress }
      relay := some l
      source := false }
  let s := enter l s.call[l].suspend s
  let s := s.setFeed l s.feed[l].takeover
  testTarget l .openLoop (endQuiet s)

end Sys2Proof.Machine
end

