-- ==== Sys2Proof/Machine/Unit.lean ====
section
/-! DEFINITION. The Supply Watch, Quiet operation, the control monitor with Isolated service, and the table
audit (chapter 9; R177). -/

namespace Sys2Proof.Machine

/-! ## Supply (R151 to R154) -/

/-- A supply sample in units of 10 mV: a value beyond 0 to 6553 is taken as the nearer end value (R151). -/
def convertSupply (value : Int) : Nat := (clampInt 0 6553 value).toNat

/-- The threshold below which an average is Critical, by the level in force (R152). -/
def Thresholds.criticalBound (t : Thresholds) : Level → Nat
  | .critical => t.criticalExit.toNat
  | _ => t.criticalEnter.toNat

/-- The threshold from which on an average is Normal, by the level in force (R152). -/
def Thresholds.normalBound (t : Thresholds) : Level → Nat
  | .normal => t.lowEnter.toNat
  | _ => t.lowExit.toNat

/-- The level on a new average, by the rows of the level in force (R152). Where two rows fit, as under no
thresholds that R155 accepts, the choice of the row is a free value (notes/assumptions/31.md). -/
def nextLevel (t : Thresholds) (lv : Level) (average : Nat) : Level :=
  let critical := t.criticalBound lv
  let normal := t.normalBound lv
  if average < critical then
    if normal ≤ average then (if Config.conflictIsCritical average critical normal then .critical else .normal)
    else .critical
  else if average < normal then .low
  else .normal

/-- The sample history with a new sample at its tail; a ninth sample drops the oldest (R151). -/
def pushSample (h : List Nat) (v : Nat) : List Nat :=
  let h := h ++ [v]
  if 8 < h.length then h.tail else h

/-- The value of a Supply report: the level, plus 0x80 when the dip mark is Set (11, section 11.7). -/
def supplyValue (lv : Level) (dip : Bool) : Nat := lv.code + if dip then 0x80 else 0

/-- The level changes to `lv` (R153). -/
def levelChange (lv : Level) (s : State) : State :=
  let old := s.supply.level
  let s := s.setSupply { s.supply with level := lv }
  let s := s.report true { kind := .supply, value := some (supplyValue lv s.supply.dip) }
  let s := if old.code < lv.code then ringFall s else runIdle (fill s)
  if lv = .critical then cutShort .supply s else s

/-- A supply sample arrives (R151): dip mark, history, average, level. -/
def supplySample (value : Int) (s : State) : State :=
  if s.inRestart then s
  else
    let v := convertSupply value
    let h := pushSample s.supply.history v
    let s := s.setSupply { s.supply with
      history := h, dip := s.supply.dip || decide (v < s.tables.thresholds.criticalEnter.toNat) }
    if h.length = 8 then
      let average := h.sum / 8
      let s := s.setSupply { s.supply with average := some average }
      let lv := nextLevel s.tables.thresholds s.supply.level average
      if lv = s.supply.level then s else levelChange lv s
    else s

/-! ## Quiet operation (R156 to R158) -/

/-- The quiet timer started with the quiet delay as it stands (R156). -/
def State.startQuietTimer (s : State) : Option Nat := s.tables.timers.quietStart

/-- Run the quiet timer at the end of an event that has taken `before` to `s` (R156, R158): while Quiet is On
it is stopped, and an event that ends the quiet condition also ends Quiet; when Quiet has ended, or the
condition has come to hold, the timer starts afresh if the condition holds; when the condition does not hold,
or the quiet delay is 0, it is stopped. -/
def runQuiet (before s : State) : State :=
  let set (q : Bool) (t : Option Nat) := s.setMonitor { s.monitor with quiet := q, quietTimer := t }
  if s.quietCondition then
    if s.monitor.quiet then set true none
    else if before.monitor.quiet || !before.quietCondition then set false s.startQuietTimer
    else if s.tables.timers.quietDelay.toNat = 0 then set false none
    else s
  else set false none

/-- One event: its changes, and then the quiet timer. -/
def event (f : State → State) (s : State) : State := runQuiet s (f s)

/-- The quiet timer runs out (R157). -/
def quietExpiry (s : State) : State :=
  if s.monitor.quietTimer.isSome ∧ s.monitor.quiet = false then
    s.setMonitor { s.monitor with quiet := true, quietTimer := none }
  else s

/-- A new sense round begins; the scan period that the Quiet state asks for takes effect (R2, R157,
R158). -/
def roundStart (s : State) : State :=
  if s.inRestart then s
  else s.setScanner { period := if s.monitor.quiet then .ms16 else .ms2, position := 0 }

/-! ## A sample of a line (R1, R4, R15) -/

/-- The treatment of a sample by the call state of its line (R4).
A fault decision of a sample is taken before the tick of the same sample, and takes the line out of timing, so
that no clear or digit end is decided on it; R15 orders only a hook decision before the tick, and R36 states no
order for a fault.
DESIGN CHOICE: notes/assumptions/26.md. -/
def lineSample (l : Line) (v : Int) (ringTrip : Bool) (s : State) : State :=
  let p := s.profileOf l
  let st := s.call[l].state
  match st with
  | .disabled => s
  | .testing => lookSample l v (s.setSup l (s.sup[l].sampleTesting p s.feed[l] v))
  | _ =>
    let x := s.sup[l].sample p s.feed[l] v ringTrip
    let s := s.setSup l x
    let s := match x.decision p.m.toNat with
      | .none => s
      | .hook => hookDecision l s
      | .fault k => faultDecision l k s
      | .ringTrip => ringTripDecision l s
    if st.timed && s.call[l].state.timed then sampleTick l s else s

/-- The Line Scanner visits the line (R1).
DESIGN CHOICE: notes/assumptions/5.md. -/
def visit (l : Line) (current : Int) (ringTrip : Bool) (s : State) : State :=
  if s.inRestart then s
  else
    lineSample l (convertSense current) ringTrip (s.setScanner { s.scanner with position := l + 1 })

/-! ## The control monitor (R159 to R161) -/

/-- Isolated service begins for one line (R96a). -/
def isolateLine (l : Line) (s : State) : State :=
  match s.call[l].state with
  | .waiting => enterLockout l .isolated s
  | .seizing => enterLockout l .isolated (releaseUse l .answerTimeout s)
  | _ => s

/-- The countdown runs out: Isolated service begins (R160, R161).
DEDUCED: notes/assumptions/22.md. -/
def countdownExpiry (s : State) : State :=
  if s.monitor.countdown.isSome then
    let s := s.setMonitor { s.monitor with countdown := none, isolated := true }
    (eachLine isolateLine s).setArrivals []
  else s

/-- A valid frame reloads the monitor (R160). -/
def reloadMonitor (s : State) : State :=
  let s := if s.monitor.isolated then
      (s.setMonitor { s.monitor with isolated := false }).report true { kind := .controlRestored }
    else s
  if s.monitor.armed then
    s.setMonitor { s.monitor with countdown := s.monitor.interval.map (· * 1000) }
  else s

/-! ## The table audit (R177) -/

/-- The reference digest is recomputed. -/
def recomputeReference (s : State) : State := s.setMonitor { s.monitor with reference := digest s.tables }

/-- The profiles have been written back: the counts of every enabled line are set to 0 (R22). -/
def resetEnabledCounts (s : State) : State :=
  eachLine (fun l s => if s.entries[l].enabled then resetCounts l s else s) s

/-- The timers have been written, the quiet delay before the write being `old` (R156, R158, R176): a change
of the quiet delay restarts a running quiet timer, or stops it if the delay is 0, which also ends Quiet.
DEDUCED: notes/assumptions/15.md. -/
def quietDelayWritten (old : Word16) (s : State) : State :=
  let new := s.tables.timers.quietDelay
  let s := if new ≠ old ∧ s.monitor.quietTimer.isSome then
      s.setMonitor { s.monitor with quietTimer := s.startQuietTimer }
    else s
  if new.toNat = 0 then endQuiet s else s

/-- The covered tables are set to their full-restart values, acting as writes of the same values would
(R177). -/
def revertTables (s : State) : State :=
  let old := s.tables.timers.quietDelay
  let s := resetEnabledCounts (recomputeReference (s.setTables Tables.initial))
  let s := quietDelayWritten old s
  runIdle (s.setArbiter { s.arbiter with pointer := 0 })

/-- The audit timer runs out (R177). -/
def auditExpiry (s : State) : State :=
  if s.monitor.audit.isSome then
    let s := s.setMonitor { s.monitor with audit := some Config.auditMs }
    if digest s.tables = s.monitor.reference then s
    else revertTables (s.report true { kind := .tableUpset })
  else s

/-- A disturbance of storage changes one byte of a covered table (R177). -/
def disturb (index : Nat) (value : Byte) (s : State) : State :=
  s.setTables (tablesOfBytes (s.tables.bytes.set index value))

end Sys2Proof.Machine
end

