-- ==== Sys2Proof/Machine/CallControl.lean ====
section
/-! DEFINITION. The requests about calls, bearers, the link and tests: each checks its operands, acts and
composes its reply (chapters 4, 5 and 8; R166). -/

namespace Sys2Proof.Machine

/-- What a request does: the state after it, and its reply. -/
abbrev Request := State → State × Reply

/-- Refuse with a cause, changing nothing (R171). -/
def refuseWith (c : Cause) : Request := fun s => (s, .refused c)

/-- A request that names one line: a line above 31 is refused OutOfRange. -/
def onLine (line : Byte) (f : Line → Request) : Request :=
  match lineOfByte line with
  | some l => f l
  | none => refuseWith .outOfRange

/-- A request that names one bearer: a bearer above 11 is refused OutOfRange. -/
def onBearer (bearer : Byte) (f : Bearer → Request) : Request :=
  match bearerOfByte bearer with
  | some b => f b
  | none => refuseWith .outOfRange

/-! ## The link (R63, R64) -/

/-- Link State Up with in-service count `count` (R63). -/
def reqLinkUp (count : Byte) : Request := fun s =>
  let n := count.toNat
  if n < 1 ∨ 12 < n then (s, .refused .outOfRange)
  else if s.bearers.linkUp then (s, .refused .wrongState)
  else
    (s.setBearers { s.bearers with
      linkUp := true, inService := some n
      recs := tabulate fun b =>
        if b.val < n then
          { s.bearer b with state := .unchecked, line := none, barPending := false, guard := none }
        else s.bearer b }, .accepted)

/-- A line loses its bearer with the link (R64). -/
def linkLost (l : Line) (s : State) : State :=
  match s.call[l].state with
  | .connected =>
    match s.sup[l].hook with
    | .offHook => enterLockout l .released s
    | .onHook => goIdle l s
  | .seizing => enterLockout l .congestion s
  | .ringing => goIdle l s
  | _ => s

/-- Link State Down (R64). -/
def reqLinkDown : Request := fun s =>
  if s.bearers.linkUp then
    let s := s.setBearers
      { recs := tabulate fun b => (s.bearer b).lost, linkUp := false, inService := none, connection := [] }
    (eachLine linkLost (s.setHandover none), .accepted)
  else (s, .accepted)

/-! ## Bearer Check, Bar, Unbar, Release Acknowledge (R65 to R68) -/

/-- The bearers of the set that are Unchecked, in ascending order (R65). -/
def State.checked (s : State) (w : Word16) : List Bearer :=
  allBearers.filter fun b => inSet w b && decide ((s.bearer b).state = .unchecked)

/-- Bearer Check (R65): the confirmed bearers that became Idle are handed over in ascending order. -/
def reqBearerCheck (bearers : Word16) : Request := fun s =>
  if !validSet bearers then (s, .refused .outOfRange)
  else if !s.bearers.linkUp then (s, .refused .wrongState)
  else
    let bs := s.checked bearers
    let s := each bs (fun b s => s.setBearer b (s.bearer b).freed) s
    let idle := bs.filter fun b => decide ((s.bearer b).state = .idle)
    (each idle freedRun s, .data [byteOf bs.length])

/-- Bar (R66). -/
def reqBar (bearer : Byte) : Request := onBearer bearer fun b s =>
  let r := s.bearer b
  match r.state with
  | .absent => (s, .refused .wrongState)
  | .idle => (s.setBearer b { r with state := .barred }, .accepted)
  | .unchecked => (s.setBearer b { r with state := .barred, barPending := false }, .accepted)
  | .barred => (s, .accepted)
  | _ => (s.setBearer b { r with barPending := true }, .accepted)

/-- Unbar (R67). -/
def reqUnbar (bearer : Byte) : Request := onBearer bearer fun b s =>
  let r := s.bearer b
  match r.state with
  | .absent => (s, .refused .wrongState)
  | .barred => (freedRun b (s.setBearer b { r with state := .idle }), .accepted)
  | _ => (s.setBearer b { r with barPending := false }, .accepted)

/-- Release Acknowledge (R68). -/
def reqReleaseAcknowledge (bearer : Byte) : Request := onBearer bearer fun b s =>
  if (s.bearer b).state = .clearing then (handFreed b (s.setBearer b (s.bearer b).freed), .accepted)
  else (s, .late)

/-! ## Grant, Refuse, Release (R62, R84, R85, R87, R94) -/

/-- The answer to a Grant, Refuse or Release outside its pairing (R62). -/
def judgeLate (l : Line) (b : Bearer) : Request := fun s =>
  let r := s.bearer b
  if r.line = some l ∨ r.formerLine = some l then (s, .late) else (s, .refused .wrongState)

/-- The line is in state `st` and names bearer `b`, which is in state `bst`. -/
def State.paired (s : State) (l : Line) (b : Bearer) (st : CallState) (bst : BearerState) : Bool :=
  decide (s.call[l].state = st) && decide (s.call[l].bearer = some b) && decide ((s.bearer b).state = bst)

/-- The buffered digits are queued as Digit reports, and then the lost mark (R80). -/
def flushDigits (l : Line) (b : Bearer) (s : State) : State :=
  let c := s.call[l]
  let s := each c.early (fun v s => s.lineReport .digit l (some b) (some v)) s
  if c.lost then s.lineReport .digit l (some b) (some lostDigit) else s

/-- Grant (R84). -/
def reqGrant (line bearer : Byte) : Request := onLine line fun l => onBearer bearer fun b s =>
  if s.paired l b .seizing .held then
    (enter l (connectedRecord b) (flushDigits l b (engage b l s)), .accepted)
  else judgeLate l b s

/-- The exchange refuses or releases a seize (R85). -/
def refuseSeize (l : Line) (b : Bearer) (s : State) : State :=
  handFreed b (enterLockout l .congestion (freeBearer b s))

/-- Refuse (R85). -/
def reqRefuse (line bearer : Byte) : Request := onLine line fun l => onBearer bearer fun b s =>
  if s.paired l b .seizing .held then (refuseSeize l b s, .accepted) else judgeLate l b s

/-- The exchange releases a Connected line (R87). -/
def releaseConnected (l : Line) (b : Bearer) (s : State) : State :=
  let s := freeBearer b s
  handFreed b (match s.sup[l].hook with
    | .offHook => enterLockout l .released s
    | .onHook => goIdle l s)

/-- The exchange releases a Ringing line (R94). -/
def releaseRinging (l : Line) (b : Bearer) (s : State) : State := handFreed b (goIdle l (freeBearer b s))

/-- Release (R85, R87, R94). -/
def reqRelease (line bearer : Byte) : Request := onLine line fun l => onBearer bearer fun b s =>
  if s.paired l b .seizing .held then (refuseSeize l b s, .accepted)
  else if s.paired l b .connected .engaged then (releaseConnected l b s, .accepted)
  else if s.paired l b .ringing .reserved then (releaseRinging l b s, .accepted)
  else judgeLate l b s

/-! ## Incoming and Far Answer (R88 to R92) -/

/-- The line that yields the named bearer: another line for which it is Held (R92). -/
def State.yielder (s : State) (l : Line) (b : Bearer) : Option Line :=
  if (s.bearer b).state = .held ∧ (s.bearer b).line ≠ some l then (s.bearer b).line else none

/-- Line `l` enters Ringing on bearer `b` (R90, R126). -/
def startRinging (l : Line) (b : Bearer) (s : State) : State :=
  let s := giveBearer b .reserved l s
  let s := callTarget l .standby (enter l { state := .ringing, bearer := some b } s)
  startWheel (place l s)

/-- The own attempt of a Waiting or Seizing line is withdrawn (R91). -/
def withdrawOwn (l : Line) (s : State) : State :=
  match s.call[l].bearer with
  | some b =>
    if (s.bearer b).state = .handover then releaseReport l b .preempted (clearBearer b s)
    else (clearBearer b s).lineReport .withdraw l (some b) none
  | none => s

/-- The incoming line's own changes (R90, R91). -/
def acceptIncoming (l : Line) (b : Bearer) (ring : Bool) (s : State) : State :=
  match s.call[l].state with
  | .idle =>
    if ring then startRinging l b s
    else callTarget l .active (enter l (connectedRecord b) (engage b l s))
  | _ =>
    let s := withdrawOwn l s
    let s := enter l (connectedRecord b) (engage b l s)
    s.lineReport .answer l (some b) none

/-- A Priority line has yielded and returned to Waiting (R112). -/
def State.yieldedPriority (s : State) (m : Option Line) : Bool :=
  match m with
  | some m => decide (s.call[m].state = .waiting) && decide (s.arrivalClass m = .priority)
  | none => false

/-- An accepted Incoming (R90 to R92, R112, R118): the yield comes first, then the line's own changes, then
the Priority reconsideration where a Priority line has returned to Waiting or a handover was abandoned.
DEDUCED: notes/assumptions/10.md. -/
def carryIncoming (l : Line) (b : Bearer) (ring : Bool) (s : State) : State :=
  let m := s.yielder l b
  let abandoned := s.inHandover l
  let s := match m with
    | some m => placeYielded m s
    | none => s
  let again := abandoned || s.yieldedPriority m
  reconsiderIf again (acceptIncoming l b ring s)

/-- The bearer may be named by an Incoming for line `l` (R89). -/
def State.incomingBearer (s : State) (l : Line) (b : Bearer) : Bool :=
  decide ((s.bearer b).state = .idle) || (s.yielder l b).isSome

/-- Incoming (R89); every Incoming request ends Quiet (R158). -/
def reqIncoming (line bearer ring : Byte) : Request := fun s =>
  let s := endQuiet s
  match lineOfByte line, bearerOfByte bearer with
  | some l, some b =>
    if 1 < ring.toNat then (s, .refused .outOfRange)
    else
      match s.call[l].state with
      | .idle | .waiting | .seizing =>
        if s.incomingBearer l b then (carryIncoming l b (decide (ring.toNat = 1)) s, .accepted)
        else (s, .refused .bearerUnavailable)
      | _ => (s, .refused .lineBusy)
  | _, _ => (s, .refused .outOfRange)

/-- Far Answer (R88). -/
def reqFarAnswer (line : Byte) : Request := onLine line fun l s =>
  if s.call[l].state = .connected then
    (if (s.profileOf l).answerReversal then callTarget l .reverse s else s, .accepted)
  else (s, .refused .wrongState)

/-! ## Test Line and Test Abort (R137, R148) -/

/-- The measurements a byte names, in the order they are made (11, section 11.7). -/
def measurementsOf (m : Byte) : List Measurement :=
  (if m.getLsbD 0 then [.dc] else []) ++ (if m.getLsbD 1 then [.ac] else [])
    ++ (if m.getLsbD 2 then [.leakage] else [])

/-- The call states in which a line may be tested in the mode (R137). -/
def TestMode.allows : TestMode → CallState → Bool
  | .courteous, .idle => true
  | .forced, .idle => true
  | .forced, .lockout => true
  | .forced, .faulted => true
  | .forced, .disabled => true
  | _, _ => false

/-- Test Line (R137, R138). -/
def reqTestLine (line measurements mode : Byte) : Request := onLine line fun l s =>
  if measurements.toNat = 0 ∨ 7 < measurements.toNat ∨ 1 < mode.toNat then (s, .refused .outOfRange)
  else if s.test.session.isSome then (s, .refused .testBusy)
  else if s.supply.level = .critical then (s, .refused .supplyLow)
  else
    let m := if mode.toNat = 0 then TestMode.courteous else TestMode.forced
    if m.allows s.call[l].state then (startSession l m (measurementsOf measurements) s, .accepted)
    else (s, .refused .lineBusy)

/-- Test Abort (R148). -/
def reqTestAbort : Request := fun s =>
  match s.test.session with
  | none => (s, .refused .wrongState)
  | some x => if x.phase = .disconnect then (s, .late) else (beginDisconnect x .aborted s, .accepted)

end Sys2Proof.Machine
end

