-- ==== Sys2Proof/Machine/Settings.lean ====
section
/-! DEFINITION. The settings writes and the requests to the Supply Watch and the Unit Monitor (chapter 9;
11, section 11.4). -/

namespace Sys2Proof.Machine

/-! ## Set Profile (R22, R176) -/

/-- The ranges of the profile fields (1, section 1.9). -/
def Profile.inRange (p : Profile) : Bool :=
  decide (p.k.toNat ≤ 4) && decide (1 ≤ p.m.toNat) && decide (p.m.toNat ≤ 15)
    && decide (32 ≤ p.tOn.toNat) && decide (p.tOn.toNat ≤ 960)
    && decide (16 ≤ p.tOff.toNat) && decide (p.tOff.toNat + 16 ≤ p.tOn.toNat)
    && decide (960 ≤ p.tOver.toNat) && decide (p.tOver.toNat ≤ 1984)
    && decide (p.flags.toNat ≤ 3)

/-- The counts of every line whose line entry names profile `p` are set to 0 (R22). -/
def resetProfileCounts (p : Fin 8) (s : State) : State :=
  eachLine (fun l s => if s.entries[l].profile = p then resetCounts l s else s) s

/-- Set Profile (R176). -/
def reqSetProfile (profile : Byte) (p : Profile) : Request := fun s =>
  if h : profile.toNat < 8 then
    if p.inRange then
      let i : Fin 8 := ⟨profile.toNat, h⟩
      let s := s.setTables { s.tables with profiles := s.tables.profiles.set i p }
      (recomputeReference (resetProfileCounts i s), .accepted)
    else (s, .refused .outOfRange)
  else (s, .refused .outOfRange)

/-! ## Set Line (R78, R79, R99, R132, R175) -/

/-- A yes or no byte. -/
def yesNo (b : Byte) : Option Bool :=
  if b.toNat = 0 then some false else if b.toNat = 1 then some true else none

/-- The profile a byte names; none above 7. -/
def profileOfByte (b : Byte) : Option (Fin 8) := if h : b.toNat < 8 then some ⟨b.toNat, h⟩ else none

/-- Set Line enables a Disabled line (R7, R78). -/
def enableLine (l : Line) (s : State) : State := endQuiet (goIdle l (s.setSup l Supervision.fresh))

/-- Set Line disables a line that is not under test (R7, R79). -/
def disableLine (l : Line) (s : State) : State :=
  let abandoned := s.inHandover l
  let s := enter l { state := .disabled } (releaseUse l .disabled s)
  let s := (callTarget l .openLoop s).setSup l Supervision.fresh
  reconsiderIf abandoned s

/-- Set Line disables the line under test (R7, R52, R99, R140).
DEDUCED: notes/assumptions/12.md. -/
def disableTested (l : Line) (s : State) : State :=
  let c := s.call[l]
  let s := s.setCall l
    { c with
      prior := some .disabled, cause := none, phase := none, fault := none, retry := none, timer := none
      preemptionTone := none }
  let s := (callTarget l .openLoop s).setSup l Supervision.fresh
  dropLooks l s

/-- Set Line enables the line under test, whose prior state is Disabled (R7, R52, R99).
DEDUCED: notes/assumptions/12.md. -/
def enableTested (l : Line) (s : State) : State :=
  let s := s.setCall l { s.call[l] with prior := some .idle, fault := none }
  endQuiet ((callTarget l .standby s).setSup l Supervision.fresh)

/-- The line is enabled before and after the request: changes of profile and class act (R22, R78, R132). -/
def rewriteLine (l : Line) (old new : LineEntry) (s : State) : State :=
  let s := if old.profile ≠ new.profile then resetCounts l s else s
  if old.cls ≠ new.cls ∧ s.call[l].state = .ringing then ringClassChange l s else s

/-- The line entry has been replaced: the Call Handler acts on the change (R175). -/
def lineWritten (l : Line) (old new : LineEntry) (s : State) : State :=
  let st := s.call[l].state
  let c := if st = .testing then s.call[l].prior.getD .idle else st
  match decide (c = .disabled), new.enabled with
  | true, true => if st = .testing then enableTested l s else enableLine l s
  | false, false => if st = .testing then disableTested l s else disableLine l s
  | false, true => rewriteLine l old new s
  | true, false => s

/-- Set Line (R175). -/
def reqSetLine (line enabled profile cls preemptible : Byte) : Request := onLine line fun l s =>
  match yesNo enabled, profileOfByte profile, classOfCode cls.toNat, yesNo preemptible with
  | some e, some p, some c, some pre =>
    let new : LineEntry := { enabled := e, profile := p, cls := c, preemptible := pre }
    (lineWritten l s.entries[l] new (s.setEntry l new), .accepted)
  | _, _, _, _ => (s, .refused .outOfRange)

/-! ## The other tables (R104, R110, R155, R176) -/

/-- Set Class Map (R104); the stored set for Priority is not replaced. -/
def reqSetClassMap (priority standard economy alarm : Word16) : Request := fun s =>
  if validSet priority && validSet standard && validSet economy && validSet alarm then
    let m := { s.tables.classMap with standard := standard, economy := economy, alarm := alarm }
    let s := recomputeReference (s.setTables { s.tables with classMap := m })
    (runIdle s, if priority = 0x0FFF then .accepted else .clamped)
  else (s, .refused .outOfRange)

/-- The class codes the phase table may hold: Standard, Economy, Alarm (R110). -/
def phaseCode (b : Byte) : Bool := decide (1 ≤ b.toNat) && decide (b.toNat ≤ 3)

/-- Set Arbiter Phases (R110). -/
def reqSetArbiterPhases (t : Vector Byte 8) : Request := fun s =>
  if t.toList.all phaseCode then
    let s := s.setTables { s.tables with phaseTable := t }
    (recomputeReference (s.setArbiter { s.arbiter with pointer := 0 }), .accepted)
  else (s, .refused .outOfRange)

/-- A value clamped into a range (R176). -/
def clampByte (lo hi : Nat) (b : Byte) : Byte := byteOf (max lo (min hi b.toNat))

/-- The quiet delay clamped: 0 stays, 1 to 9 becomes 10, above 600 becomes 600 (R176). -/
def clampQuiet (w : Word16) : Word16 :=
  if w.toNat = 0 then w else if w.toNat < 10 then 10 else if 600 < w.toNat then 600 else w

/-- The timer settings clamped into their ranges (R176). -/
def Timers.clamped (t : Timers) : Timers :=
  { answer := clampByte 1 30 t.answer
    guard := clampByte 1 30 t.guard
    wait := clampByte 5 120 t.wait
    congestion := clampByte 5 120 t.congestion
    howler := clampByte 5 120 t.howler
    ringLimit := clampByte 1 60 t.ringLimit
    quietDelay := clampQuiet t.quietDelay }

/-- Set Timers (R156, R158, R176). -/
def reqSetTimers (t : Timers) : Request := fun s =>
  let old := s.tables.timers.quietDelay
  let s := recomputeReference (s.setTables { s.tables with timers := t.clamped })
  (quietDelayWritten old s, if t.clamped = t then .accepted else .clamped)

/-- The thresholds are in range and in order (R155). -/
def Thresholds.valid (t : Thresholds) : Bool :=
  decide (t.criticalEnter.toNat < t.criticalExit.toNat) && decide (t.criticalExit.toNat ≤ t.lowEnter.toNat)
    && decide (t.lowEnter.toNat < t.lowExit.toNat) && decide (t.lowExit.toNat ≤ 6553)

/-- Set Supply Thresholds (R155). -/
def reqSetSupplyThresholds (t : Thresholds) : Request := fun s =>
  if t.valid then (recomputeReference (s.setTables { s.tables with thresholds := t }), .accepted)
  else (s, .refused .outOfRange)

/-! ## Attention, supply dip, monitor (R154, R159, R175) -/

/-- The routine attention setting a byte names: Enabled 0, Disabled 1, the positions in its range (11,
section 11.2; DEDUCED, notes/assumptions/8.md). -/
def attentionOfByte (b : Byte) : Option Bool :=
  if b.toNat = 0 then some true else if b.toNat = 1 then some false else none

/-- Set Attention (R175). -/
def reqSetAttention (value : Byte) : Request := fun s =>
  match attentionOfByte value with
  | some v => (s.setReports { s.reports with routineAttention := v }, .accepted)
  | none => (s, .refused .outOfRange)

/-- Clear Supply Dip (R154). -/
def reqClearSupplyDip : Request := fun s => (s.setSupply { s.supply with dip := false }, .accepted)

/-- Arm Monitor (R159). -/
def reqArmMonitor (interval : Byte) : Request := fun s =>
  let n := interval.toNat
  if n < 2 ∨ 60 < n then (s, .refused .outOfRange)
  else
    (s.setMonitor { s.monitor with armed := true, interval := some n, countdown := some (n * 1000) }, .accepted)

end Sys2Proof.Machine
end

