-- ==== Sys2Proof/Machine/Queries.lean ====
section
/-! DEFINITION. The query requests and the byte layouts of their replies (R23, R38, R55, R72, R102, R121, R135,
R150, R162, R174; 11, section 11.7). The bytes are those after the Data code. -/

namespace Sys2Proof.Machine

/-- A line, or 255. -/
def lineByte (o : Option Line) : Byte := optByte (o.map Fin.val)

/-- A bearer, or 255. -/
def bearerByte (o : Option Bearer) : Byte := optByte (o.map Fin.val)

def Path.kind : Path → Nat
  | .none => 0 | .bearer _ => 1 | .tone _ => 2

def Path.argument : Path → Option Nat
  | .none => Option.none
  | .bearer b => some b.val
  | .tone t => some t.code

def RingPlace.code : RingPlace → Nat
  | .phase p => p.val
  | .queue position => 0x1F + position

/-- The bytes of a Line Query reply. -/
def lineQueryBytes (l : Line) (s : State) : List Byte :=
  let c := s.call[l]
  let x := s.sup[l]
  let t := s.brk[l]
  let f := s.feed[l]
  [byteOf l.val, byteOf c.state.code, bearerByte c.bearer, byteOf c.path.kind, optByte c.path.argument,
    optByte (c.cause.map LockoutCause.code), optByte (c.phase.map LockoutPhase.code),
    optByte (c.fault.map FaultKind.code), optByte (c.retry.map RetryPhase.code), byteOf c.early.length,
    boolByte c.lost, optByte (c.prior.map CallState.code), optByte (c.timer.map fun k => k.kind.code)]
  ++ optWordBytes (c.timer.map fun k => ceilUnits 100 k.left)
  ++ [byteOf x.hook.code]
  ++ int16Bytes x.f
  ++ [byteOf t.pulses, boolByte t.inDigit, byteOf f.current.code, byteOf f.target.code, boolByte f.settling,
    optByte ((s.ringPlace l).map RingPlace.code), byteOf s.ringer.counts[l]]

/-- The bytes of a Bearer Query reply (R72); the position is 1 for the oldest engagement. -/
def bearerQueryBytes (b : Bearer) (s : State) : List Byte :=
  let r := s.bearer b
  [byteOf b.val, byteOf r.state.code, lineByte r.line, lineByte r.formerLine, boolByte r.barPending,
    optByte (if b ∈ s.bearers.connection then some (s.bearers.connection.idxOf b + 1) else none)]

/-- The wait list: the entries of the arrival list that are Waiting, in its order (6, section 6.1). -/
def State.waitList (s : State) : List Arrival :=
  s.arbiter.arrivals.filter fun a => decide (a.standing = .waiting)

/-- Unit Query, section 0. -/
def unitBytes0 (s : State) : List Byte :=
  [0, boolByte s.bearers.linkUp, optByte s.bearers.inService,
    bearerByte (s.arbiter.handover.map Handover.bearer), lineByte (s.arbiter.handover.map Handover.line),
    optByte (s.arbiter.handover.map fun h => ceilUnits 10 h.left), byteOf s.arbiter.pointer.val,
    byteOf s.bearers.connection.length]
  ++ s.bearers.connection.map (fun b => byteOf b.val)
  ++ [byteOf s.waitList.length]
  ++ s.waitList.map (fun a => byteOf (a.line.val + 32 * a.cls.code))

/-- The two bytes of a phase list. -/
def phaseBytes (lines : List Line) : List Byte := [lineByte lines[0]?, lineByte lines[1]?]

/-- Unit Query, section 1. -/
def unitBytes1 (s : State) : List Byte :=
  (match s.ringer.wheel with
    | .stopped => [1, 0, optByte none]
    | .running p _ => [1, 1, byteOf p.val])
  ++ s.ringer.phases.toList.flatMap phaseBytes
  ++ [byteOf s.ringer.queue.length]
  ++ s.ringer.queue.map (fun l => byteOf l.val)

/-- Unit Query, section 2: the countdown and the Isolated mark are those at the frame's arrival, before its
reload of the monitor (R162). -/
def unitBytes2 (countdown : Option Nat) (isolated : Bool) (s : State) : List Byte :=
  [2, byteOf s.supply.level.code]
  ++ optWordBytes s.supply.average
  ++ [byteOf s.supply.history.length, boolByte s.supply.dip]
  ++ s.tables.thresholds.bytes
  ++ [boolByte s.monitor.quiet]
  ++ optWordBytes (s.monitor.quietTimer.map (ceilUnits 1000))
  ++ [boolByte s.monitor.armed, optByte s.monitor.interval]
  ++ optWordBytes (countdown.map (ceilUnits 100))
  ++ [boolByte isolated, byteOf s.reports.urgent.length, byteOf s.reports.routine.length,
    boolByte s.reports.overflow, boolByte (!s.reports.routineAttention)]

/-- The fields of a DC or AC entry; an absent entry's are 0. -/
def VoltageEntry.bytes : Option VoltageEntry → List Byte
  | some e => int32Bytes e.value ++ [byteOf e.gain.code, boolByte e.overRange]
  | none => [0, 0, 0, 0, 0, 0]

/-- The fields of a Leakage entry; an absent entry's are 0. -/
def LeakageEntry.bytes : Option LeakageEntry → List Byte
  | some e =>
    int32Bytes e.current ++ wordBytes (BitVec.ofNat 16 e.resistance) ++ [byteOf e.gain.code, boolByte e.overRange]
  | none => [0, 0, 0, 0, 0, 0, 0, 0]

/-- The bytes of a Test Result reply (R150). -/
def resultBytes (r : ResultRecord) : List Byte :=
  [lineByte r.line, optByte (r.mode.map TestMode.code), byteOf r.status.code,
    optByte (r.verdict.map Verdict.code),
    byteOf ((if r.dc.isSome then 1 else 0) + (if r.ac.isSome then 2 else 0) + (if r.leakage.isSome then 4 else 0))]
  ++ VoltageEntry.bytes r.dc ++ VoltageEntry.bytes r.ac ++ LeakageEntry.bytes r.leakage

/-! ## The requests (R174) -/

/-- Poll composes nothing at its arrival (R173). -/
def reqPoll : Request := fun s => (s, .poll)

def reqLineQuery (line : Byte) : Request := onLine line fun l s => (s, .data (lineQueryBytes l s))

def reqBearerQuery (bearer : Byte) : Request := onBearer bearer fun b s => (s, .data (bearerQueryBytes b s))

def reqUnitQuery (countdown : Option Nat) (isolated : Bool) (sect : Byte) : Request := fun s =>
  match sect.toNat with
  | 0 => (s, .data (unitBytes0 s))
  | 1 => (s, .data (unitBytes1 s))
  | 2 => (s, .data (unitBytes2 countdown isolated s))
  | _ => (s, .refused .outOfRange)

def reqTestResult : Request := fun s => (s, .data (resultBytes s.test.result))

def reqReadDigest : Request := fun s => (s, .data (wordBytes s.monitor.reference))

end Sys2Proof.Machine
end

