-- ==== Sys2Proof/Machine/Restart.lean ====
section
/-! DEFINITION. Restarts (00_scope.md, section 4.5; R178 and the rules of every chapter on restarts). -/

namespace Sys2Proof.Machine

/-- The causes of a Restarted report (11, section 11.7). -/
inductive RestartCause where
  | powerOn | busBreak | requestFull | requestCalls
  deriving DecidableEq, Repr

def RestartCause.code : RestartCause → Nat
  | .powerOn => 0 | .busBreak => 1 | .requestFull => 2 | .requestCalls => 3

/-- A full restart begins: every block takes its full-restart values. The strap pins, the receive line and the
queue of waiting commands are outside the part; the address and rate in use stand until the straps are read
(R163). -/
def beginRestart (s : State) : State :=
  { State.cold with
    bus := { State.cold.bus with
      address := s.bus.address, rate := s.bus.rate, lowTimer := s.bus.lowTimer }
    strapPins := s.strapPins
    pending := s.pending }

/-- A full restart that begins and ends at once (R178). -/
def fullRestart (c : RestartCause) (s : State) : State := (beginRestart s).endRestart c.code

/-- Power is applied with the receive line high or low (R169, R178). -/
def powerOn (pins : Straps) (lineHigh : Bool) (s : State) : State :=
  let s := s.setStrapPins pins
  fullRestart .powerOn (s.setBus { s.bus with lowTimer := if lineHigh then none else some 0 })

/-- The receive line has been low for 50 ms (R169): the restart lasts until it returns high; a break during a
restart gives no second one.
DEDUCED: notes/assumptions/16.md. -/
def busBreak (s : State) : State :=
  if s.inRestart then s
  else
    let s := beginRestart s
    { s with bus := { s.bus with lowTimer := some Config.busBreakMs }, inRestart := true }

/-- The receive line is high: the low timer stops, and the time for which the line has been high starts where the
ready mark is still Clear (R169). -/
def lineHigh (s : State) : State :=
  s.setBus { s.bus with lowTimer := none, readyTimer := if s.bus.ready then none else some Config.readyMs }

/-- The receive line returns high (R169): the restart of a bus break ends. Outside a restart the low timer
stops, and the time for which the line has been high starts where the ready mark is still Clear. -/
def receiveLineHigh (pins : Straps) (s : State) : State :=
  let s := s.setStrapPins pins
  if s.inRestart then (s.setBus { s.bus with lowTimer := none }).endRestart RestartCause.busBreak.code
  else lineHigh s

/-- The receive line has been high for 5 ms since the end of a restart (R169). -/
def readyExpiry (s : State) : State :=
  if s.bus.readyTimer.isSome ∧ s.inRestart = false then
    s.setBus { s.bus with ready := true, readyTimer := none }
  else s

/-! ## Calls restart -/

/-- The line record after a calls restart (R75): enabled lines, and the line under test, lose it. -/
def CallRecord.callsRestart (c : CallRecord) (enabled : Bool) : CallRecord :=
  if enabled then { state := .idle } else if c.state = .testing then { state := .disabled } else c

/-- The supervision state after a calls restart (R4, R6, R7). -/
def Supervision.callsRestart (x : Supervision) (enabled tested : Bool) : Supervision :=
  if enabled || tested then Supervision.fresh else x

/-- The Test Unit after a calls restart: a session ends Aborted, without verdict (R136). -/
def TestUnit.callsRestart (t : TestUnit) : TestUnit :=
  match t.session with
  | some _ => { result := { t.result with status := .aborted, verdict := none } }
  | none => { t with relay := none, source := false }

/-- The Ring Scheduler after a restart (R122). -/
def Ringer.restarted : Ringer := State.cold.ringer

/-- A calls restart (R178): the queues hold the Restarted report, and after it the TestDone report of a
session that the restart has ended (R136). -/
def callsRestart (s : State) : State :=
  let tested := s.test.session.map Session.line
  let t : State := { s with
    sup := tabulate fun l =>
      s.sup[l].callsRestart s.entries[l].enabled (decide (s.call[l].state = .testing))
    brk := Vector.replicate 32 {}
    feed := tabulate fun l => s.feed[l].callsRestart s.entries[l].enabled
    call := tabulate fun l => s.call[l].callsRestart s.entries[l].enabled
    bearers := { s.bearers with recs := tabulate fun b => (s.bearer b).callsRestart, connection := [] }
    arbiter := { s.arbiter with arrivals := [], handover := none }
    ringer := Ringer.restarted
    test := s.test.callsRestart
    monitor := { s.monitor with quiet := false, quietTimer := s.startQuietTimer }
    reports := { s.reports with
      urgent := [{ kind := .restarted, value := some RestartCause.requestCalls.code }]
      routine := [], overflow := false }
    bus := { s.bus with assembly := {}, gap := none } }
  match tested with
  | some l => t.lineReport .testDone l none (some EndingStatus.aborted.code)
  | none => t

/-- Restart with scope Calls (R178). -/
def reqRestartCalls : Request := fun s => (callsRestart s, .accepted)

end Sys2Proof.Machine
end

