-- ==== Sys2Proof/Machine/Bus.lean ====
section
/-! DEFINITION. The Bus Interface (chapter 10): frames, taking a request, replies, and the requests as the
bytes of a payload (11, section 11.7). -/

namespace Sys2Proof.Machine

/-! ## Frames (R164, R165; 10, section 10.2) -/

def leadByte : Byte := 0xA6
def broadcastAddress : Byte := 0x0F

/-- The sum of the bytes after the lead byte of a good frame, modulo 256. -/
def frameSum : Byte := 0x5A

/-- The sum of the bytes modulo 256. -/
def sumBytes (bs : List Byte) : Byte := bs.foldl (· + ·) 0

/-- The check byte of an address byte, and of the payload with its length. -/
def checkByte (address : Byte) (payload : List Byte) : Byte :=
  frameSum - sumBytes (address :: byteOf payload.length :: payload)

/-- The data bits of a byte in the order they are sent, least significant first (R163). -/
def dataBits (v : Byte) : List Bool := (List.range 8).map v.getLsbD

/-- The even parity bit of a byte: with it the number of ones is even (R163). -/
def parityBit (v : Byte) : Bool := (dataBits v).foldl xor false

/-- A byte on the cabinet bus, sent or received: one start bit, 8 data bits, the parity bit and one stop bit
(R163). A start bit is low and a stop bit high. -/
def wireBits (v : Byte) : List Bool := false :: (dataBits v ++ [parityBit v, true])

/-- The byte error of a received byte: its parity bit does not give even parity, or its stop bit is not found
high (R163). -/
def byteError (v : Byte) (parity stop : Bool) : Bool := (parity != parityBit v) || !stop

/-- A frame: lead byte, address, length, payload, check byte. -/
def frameBytes (address : Byte) (payload : List Byte) : List Byte :=
  leadByte :: address :: byteOf payload.length :: (payload ++ [checkByte address payload])

/-! ## Replies (R166 to R168, R173) -/

/-- A report is four bytes: kind, line, bearer, value. -/
def Report.bytes (r : Report) : List Byte :=
  [byteOf r.kind.code, lineByte r.line, bearerByte r.bearer, optByte r.value]

/-- The payload of a reply composed at its request's arrival. -/
def Reply.payload : Reply → List Byte
  | .accepted => [0x00]
  | .data bs => 0x01 :: bs
  | .clamped => [0x02]
  | .late => [0x03]
  | .refused c => [0x04, byteOf c.code]
  | .poll => []

/-- How many reports a Poll reply takes at most (R173). -/
def Reports.pollLimit (q : Reports) : Nat := if q.overflow then 13 else 14

/-- The reports a Poll reply takes: first the urgent ones, oldest first, then the routine ones (R173). -/
def Reports.taken (q : Reports) : List Report := (q.urgent ++ q.routine).take q.pollLimit

/-- The queues after a Poll reply has taken its reports (R173). -/
def Reports.afterPoll (q : Reports) : Reports :=
  { q with
    urgent := q.urgent.drop q.pollLimit
    routine := q.routine.drop (q.pollLimit - q.urgent.length)
    overflow := false }

/-- The payload of a Poll reply: counts left, then the reports, and the Overflow report where the overflow
mark is Set (R173). -/
def Reports.pollPayload (q : Reports) : List Byte :=
  let rs := q.taken ++ if q.overflow then [{ kind := .overflow }] else []
  [0x01, byteOf q.afterPoll.urgent.length, byteOf q.afterPoll.routine.length] ++ rs.flatMap Report.bytes

/-- Bits per second. -/
def rateOf : BusRate → Nat
  | .b9600 => 9600 | .b19200 => 19200 | .b38400 => 38400 | .b115200 => 115200

/-- The time of `n` bytes of 11 bits in ms, rounded up (R163).
DESIGN CHOICE: notes/assumptions/17.md. -/
def bytesMs (r : BusRate) (n : Nat) : Nat := (11 * n * 1000 + rateOf r - 1) / rateOf r

/-- The levels the transmit output takes, one for each bit time of the frame being sent (R163, R167). -/
def State.transmitBits (s : State) : List Bool :=
  match s.bus.pending with
  | .transmitting f _ => f.flatMap wireBits
  | _ => []

/-- The reply address: the unit address plus 0x80. -/
def replyAddress (a : Fin 4) : Byte := byteOf (0x80 + a.val)

/-- A byte whose bits are arriving when a transmission begins is ignored (R167).
DEDUCED: notes/assumptions/29.md. -/
def Reception.overrun : Reception → Reception
  | .none => .none
  | _ => .ignored

/-- The transmission of a payload begins: a partial frame is discarded (R167). -/
def transmit (payload : List Byte) (s : State) : State :=
  let f := frameBytes (replyAddress s.bus.address) payload
  s.setBus { s.bus with
    assembly := {}, gap := none, reception := s.bus.reception.overrun
    pending := .transmitting f (bytesMs s.bus.rate f.length) }

/-- A Waiting reply of this age is within its window, which begins 1 ms after the check byte (R167). -/
def inWindow (age : Nat) : Bool := decide (Config.replyEarliestMs ≤ age)

/-- The Waiting reply begins transmission, once its window has begun; a Poll reply takes its reports now
(R167, R173).
DESIGN CHOICE: notes/assumptions/17.md. -/
def transmitStart (s : State) : State :=
  match s.bus.pending with
  | .waiting r age =>
    if inWindow age then
      match r with
      | .poll => transmit s.reports.pollPayload (s.setReports s.reports.afterPoll)
      | _ => transmit r.payload s
    else s
  | _ => s

/-- The transmission ends (R167). -/
def transmitEnd (s : State) : State :=
  match s.bus.pending with
  | .transmitting _ _ => s.setBus { s.bus with pending := .none, assembly := {}, gap := none }
  | _ => s

/-! ## Taking a request (R166, R168) -/

/-- Received bytes are examined: the ready mark is Set and no reply is being sent (R167, R169). -/
def State.receives (s : State) : Bool := s.bus.ready && !s.inRestart && !s.transmitEnable

/-- A judged frame leaves the assembly Hunting, and a valid one cancels a Waiting reply (R165, R168). Its last
stop bit has ended, with the line high (R163). -/
def cancelReply (s : State) : State :=
  s.setBus { s.bus with
    assembly := {}, gap := none, reception := .none, pending := .none, lowTimer := none }

/-- A whole frame arrives while received bytes are ignored (R167, R169): it is lost, but its bytes have been low
and high on the receive line, which ends high after the last stop bit, so that the 5 ms of the ready mark count
from there. In the restart of a bus break the line stays low, and no frame can come.
DESIGN CHOICE: notes/assumptions/6.md. -/
def loseFrame (s : State) : State :=
  if s.inRestart then s else lineHigh (s.setBus { s.bus with gap := none, reception := .none })

/-- The reply becomes pending, Waiting (R166, step 5). -/
def owe (r : Reply) (s : State) : State := s.setBus { s.bus with pending := .waiting r 0 }

/-- A valid frame arrives (R166): `allowed` says whether its code may be broadcast, `request` is what it
asks. A frame that arrives while received bytes are ignored is lost.
DESIGN CHOICE: notes/assumptions/6.md. -/
def takeFrame (dest : Addressee) (allowed : Bool) (request : Request) (s : State) : State :=
  if s.receives then
    let t := reloadMonitor (cancelReply s)
    match dest with
    | .unit =>
      let (t, r) := request t
      owe r t
    | .broadcast => if allowed then (request t).1 else t
  else loseFrame s

/-- A Restart frame with scope Full arrives (R166, R169, R178): it has no reply. -/
def takeRestartFull (s : State) : State :=
  if s.receives then fullRestart .requestFull (reloadMonitor (cancelReply s)) else loseFrame s

/-! ## Requests as payloads (R171; 11, section 11.7) -/

/-- The payload length of a request code; none for a code that is not in the catalogue (R171). -/
def requestLength (code : Nat) : Option Nat :=
  match code with
  | 0x10 => some 1 | 0x11 => some 2 | 0x12 => some 2 | 0x13 => some 2 | 0x14 => some 1 | 0x15 => some 1
  | 0x20 => some 11 | 0x21 => some 6 | 0x22 => some 9 | 0x23 => some 9 | 0x24 => some 9 | 0x25 => some 9
  | 0x26 => some 2 | 0x27 => some 1 | 0x28 => some 2 | 0x2F => some 2
  | 0x30 => some 3 | 0x31 => some 3 | 0x32 => some 2 | 0x33 => some 2 | 0x34 => some 2
  | 0x40 => some 3 | 0x41 => some 3 | 0x42 => some 3 | 0x43 => some 4 | 0x44 => some 2
  | 0x50 => some 4 | 0x51 => some 1
  | _ => none

/-- The codes that may be broadcast (R166, step 3). -/
def mayBroadcast (code : Nat) : Bool :=
  [0x20, 0x22, 0x23, 0x24, 0x25, 0x27, 0x28, 0x2F].contains code

/-- What a payload of a known code and of its length asks, other than Restart with scope Full. `p` gives the
payload bytes by their index, and `before` is the state in which the frame arrived (R162). -/
def requestOf (before : State) (code : Nat) (p : List Byte) : Request :=
  let b := byteAt p
  let w := wordAt p
  match code with
  | 0x10 => reqPoll
  | 0x11 => reqLineQuery (b 1)
  | 0x12 => reqBearerQuery (b 1)
  | 0x13 => reqUnitQuery before.monitor.countdown before.monitor.isolated (b 1)
  | 0x14 => reqTestResult
  | 0x15 => reqReadDigest
  | 0x20 => reqSetProfile (b 1) (profileAt p 2)
  | 0x21 => reqSetLine (b 1) (b 2) (b 3) (b 4) (b 5)
  | 0x22 => reqSetClassMap (w 1) (w 3) (w 5) (w 7)
  | 0x23 => reqSetArbiterPhases #v[b 1, b 2, b 3, b 4, b 5, b 6, b 7, b 8]
  | 0x24 =>
    reqSetTimers
      { answer := b 1, guard := b 2, wait := b 3, congestion := b 4, howler := b 5, ringLimit := b 6
        quietDelay := w 7 }
  | 0x25 =>
    reqSetSupplyThresholds { criticalEnter := w 1, criticalExit := w 3, lowEnter := w 5, lowExit := w 7 }
  | 0x26 => reqSetAttention (b 1)
  | 0x27 => reqClearSupplyDip
  | 0x28 => reqArmMonitor (b 1)
  | 0x2F => if (b 1).toNat = 1 then reqRestartCalls else refuseWith .outOfRange
  | 0x30 =>
    if (b 1).toNat = 0 then reqLinkDown
    else if (b 1).toNat = 1 then reqLinkUp (b 2)
    else refuseWith .outOfRange
  | 0x31 => reqBearerCheck (w 1)
  | 0x32 => reqBar (b 1)
  | 0x33 => reqUnbar (b 1)
  | 0x34 => reqReleaseAcknowledge (b 1)
  | 0x40 => reqGrant (b 1) (b 2)
  | 0x41 => reqRefuse (b 1) (b 2)
  | 0x42 => reqRelease (b 1) (b 2)
  | 0x43 => reqIncoming (b 1) (b 2) (b 3)
  | 0x44 => reqFarAnswer (b 1)
  | 0x50 => reqTestLine (b 1) (b 2) (b 3)
  | 0x51 => reqTestAbort
  | _ => refuseWith .unknownRequest

/-- What a payload asks: an unknown code and a payload of another length are refused first (R171).
DEDUCED: notes/assumptions/18.md. -/
def payloadRequest (before : State) (p : List Byte) : Request :=
  let code := (byteAt p 0).toNat
  match requestLength code with
  | none => refuseWith .unknownRequest
  | some n => if p.length = n then requestOf before code p else refuseWith .badLength

/-- The payload is a Restart request with scope Full. -/
def isRestartFull (p : List Byte) : Bool := decide (p = [0x2F, 0x00])

/-- A valid frame with this payload arrives. -/
def takePayload (dest : Addressee) (p : List Byte) (s : State) : State :=
  if isRestartFull p then takeRestartFull s
  else takeFrame dest (mayBroadcast (byteAt p 0).toNat) (payloadRequest s p) s

/-! ## Frame assembly (R164, R165) -/

/-- The partial frame is discarded (R164). -/
def discardFrame (s : State) : State := s.setBus { s.bus with assembly := {}, gap := none }

/-- The gap timer runs out (R164). -/
def gapExpiry (s : State) : State := if s.bus.gap.isSome then discardFrame s else s

/-- The assembly goes on with the gap timer started afresh (R164). -/
def assemble (a : Assembly) (s : State) : State :=
  s.setBus { s.bus with assembly := a, gap := some Config.gapMs }

/-- A complete frame is judged (R165): its sum, and then its address. -/
def judgeFrame (check : Byte) (s : State) : State :=
  let a := s.bus.assembly
  let address := a.address.getD 0
  if sumBytes (address :: a.length.getD 0 :: (a.payload ++ [check])) = frameSum then
    if address = byteOf s.bus.address.val then takePayload .unit a.payload s
    else if address = broadcastAddress then takePayload .broadcast a.payload s
    else discardFrame s
  else discardFrame s

/-- A byte without byte error arrives (R164). -/
def goodByte (v : Byte) (s : State) : State :=
  let a := s.bus.assembly
  match a.state with
  | .hunting => if v = leadByte then assemble { state := .address } s else s
  | .address => assemble { a with state := .length, address := some v } s
  | .length =>
    if 1 ≤ v.toNat ∧ v.toNat ≤ 60 then assemble { a with state := .payload, length := some v } s
    else discardFrame s
  | .payload =>
    let p := a.payload ++ [v]
    let st := if (a.length.getD 0).toNat ≤ p.length then AssemblyState.check else AssemblyState.payload
    assemble { a with state := st, payload := p } s
  | .check => judgeFrame v s

/-- The start bit of a byte (R163): the line goes low, so the low timer starts, a gap timer stops before it has
run out (R164), and the time for which the line has been high is at an end (R169). The byte will be taken if
received bytes are examined now. While the line is low, and within a byte, there is no start bit. -/
def byteStart (s : State) : State :=
  if s.bus.lowTimer = none ∧ s.bus.reception = .none ∧ s.inRestart = false then
    s.setBus { s.bus with
      lowTimer := some 0, readyTimer := none, gap := none
      reception := if s.receives then .taken else .ignored }
  else s

/-- The line after the stop bit of a byte (R169): high, which begins the 5 ms where the ready mark is still
Clear, or low, where it has been low since the start bit or since a bit of this byte, so that a time for which it
was high within the byte is at an end. -/
def lineAfterByte (data : Byte) (parity stop : Bool) (s : State) : State :=
  if stop then lineHigh (s.setBus { s.bus with reception := .none })
  else
    s.setBus { s.bus with
      reception := .none, readyTimer := none
      lowTimer := if data = 0 ∧ parity = false then some (s.bus.lowTimer.getD 0) else some 0 }

/-- A byte that is taken acts on the frame assembly (R164): a byte error discards a partial frame. -/
def takeByte (v : Byte) (err : Bool) (s : State) : State :=
  if err then (if s.bus.assembly.state = .hunting then s else discardFrame s) else goodByte v s

/-- The stop bit of a byte ends (R163, R164, R167, R169). A byte is acted on if its start bit fell while
received bytes were examined, and they still are. -/
def byteRest (data : Byte) (parity stop : Bool) (s : State) : State :=
  if s.bus.reception = .none then s
  else
    let taken := decide (s.bus.reception = .taken) && s.receives
    let s := lineAfterByte data parity stop s
    if taken then takeByte data (byteError data parity stop) s else s

/-- A part of the byte `value` arrives on the receive line.
DESIGN CHOICE: notes/assumptions/29.md. -/
def bytePart (value : Byte) : BytePart → State → State
  | .start => byteStart
  | .rest parity stop => byteRest value parity stop

end Sys2Proof.Machine
end

