-- ==== Sys2Proof/Machine/Clock.lean ====
section
/-! DEFINITION. The passing of one millisecond, which is what the block does while no command waits (DESIGN
CHOICE, notes/assumptions/2.md): every running timer ages, and then the timers that have run out act. -/

namespace Sys2Proof.Machine

/-! ## Ageing -/

/-- A timer with the time left, one millisecond later. -/
def ageTimer (t : Option Nat) : Option Nat := t.map (· - 1)

def Feed.age (f : Feed) : Feed :=
  { f with
    settle := f.settle - 1
    blanking := match f.blanking with
      | .left n => .left (n - 1)
      | b => b }

/-- The line timer stands still while the line is Testing (R99). -/
def CallRecord.age (c : CallRecord) : CallRecord :=
  if c.state = .testing then c
  else
    { c with
      timer := c.timer.map fun t => { t with left := t.left - 1 }
      preemptionTone := ageTimer c.preemptionTone }

def Wheel.age : Wheel → Wheel
  | .stopped => .stopped
  | .running p t => .running p (t + 1)

def PendingReply.age : PendingReply → PendingReply
  | .none => .none
  | .waiting r n => .waiting r (n + 1)
  | .transmitting f n => .transmitting f (n - 1)

/-- Every timer of the part, one millisecond later; no timer acts here. -/
def age (s : State) : State :=
  { s with
    feed := tabulate fun l => s.feed[l].age
    call := tabulate fun l => s.call[l].age
    bearers := { s.bearers with
      recs := tabulate fun b => { s.bearer b with guard := ageTimer (s.bearer b).guard } }
    arbiter := { s.arbiter with
      handover := s.arbiter.handover.map fun h => { h with left := h.left - 1 } }
    ringer := { s.ringer with wheel := s.ringer.wheel.age }
    test := { s.test with
      session := s.test.session.map fun x => { x with timer := ageTimer x.timer } }
    monitor := { s.monitor with
      quietTimer := ageTimer s.monitor.quietTimer
      countdown := ageTimer s.monitor.countdown
      audit := ageTimer s.monitor.audit }
    bus := { s.bus with
      gap := ageTimer s.bus.gap
      pending := s.bus.pending.age
      readyTimer := ageTimer s.bus.readyTimer
      lowTimer := s.bus.lowTimer.map (· + 1) }
    toneClock := (s.toneClock + 1) % 1000 }

/-! ## Timers that have run out -/

/-- `f` where `due` holds of the state, as an event of its own. -/
def whenDue (due : State → Bool) (f : State → State) (s : State) : State :=
  if due s then event f s else s

/-- The line timer of `l` has run out, and is one of kind `k`. -/
def lineDue (l : Line) (k : TimerKind) (s : State) : Bool :=
  decide (s.call[l].timer = some { kind := k, left := 0 })

/-- The session's phase timer has run out in phase `p`. -/
def sessionDue (p : SessionPhase) (s : State) : Bool :=
  match s.test.session with
  | some x => decide (x.phase = p) && decide (x.timer = some 0)
  | none => false

/-- The timers of line `l` that have run out act (R44, R46, R82, R83a, R96, R98). -/
def lineTimers (l : Line) (s : State) : State :=
  let s := whenDue (fun s => decide (s.feed[l].blanking = .left 0)) (blankingEnd l) s
  let s := whenDue (fun s => s.feed[l].settling && decide (s.feed[l].settle = 0)) (settleEnd l) s
  let s := whenDue (lineDue l .answer) (answerExpiry l) s
  let s := whenDue (lineDue l .wait) (waitLimitExpiry l) s
  let s := whenDue (fun s => decide (s.call[l].preemptionTone = some 0)) (preemptionToneEnd l) s
  let s := whenDue (lineDue l .tonePhase) (tonePhaseEnd l) s
  let s := whenDue (lineDue l .howlerPhase) (howlerPhaseEnd l) s
  let s := whenDue (lineDue l .retryWait) (retryWaitExpiry l) s
  whenDue (lineDue l .retryLook) (retryLookExpiry l) s

/-- The guard timer of bearer `b`, if it has run out, acts (R69). -/
def bearerTimers (b : Bearer) (s : State) : State :=
  whenDue (fun s => decide ((s.bearer b).guard = some 0)) (guardExpiry b) s

/-- The timers of the whole unit that have run out act (R117, R123, R139, R140, R146, R157, R160, R177). -/
def unitTimers (s : State) : State :=
  let s := whenDue (fun s => s.arbiter.handover.any fun h => decide (h.left = 0)) handoverExpiry s
  let s := whenDue (fun s => match s.ringer.wheel with
    | .running _ t => decide (Config.ringPhaseMs ≤ t)
    | .stopped => false) phaseBoundary s
  let s := whenDue (sessionDue .connect) connectExpiry s
  let s := whenDue (sessionDue .look) lookExpiry s
  let s := whenDue (sessionDue .disconnect) disconnectExpiry s
  let s := whenDue (fun s => decide (s.monitor.countdown = some 0)) countdownExpiry s
  let s := whenDue (fun s => decide (s.monitor.audit = some 0)) auditExpiry s
  whenDue (fun s => decide (s.monitor.quietTimer = some 0)) quietExpiry s

/-- The timers of the Bus Interface that have run out act: a Waiting reply begins at the latest moment of its
window (R164, R167, R169). -/
def busTimers (s : State) : State :=
  let s := whenDue (fun s => decide (s.bus.gap = some 0)) gapExpiry s
  let s := whenDue (fun s => decide (s.bus.readyTimer = some 0)) readyExpiry s
  let s := whenDue (fun s => match s.bus.pending with
    | .transmitting _ n => decide (n = 0)
    | _ => false) transmitEnd s
  whenDue (fun s => match s.bus.pending with
    | .waiting _ n => decide (Config.replyWindowMs ≤ n)
    | _ => false) transmitStart s

/-- The line has been low for 50 ms (R169). -/
def lineTimer (s : State) : State :=
  match s.bus.lowTimer with
  | some n => if Config.busBreakMs ≤ n then busBreak s else s
  | none => s

/-- One millisecond passes. In the restart of a bus break only the low timer runs (R169). -/
def tick (s : State) : State :=
  if s.inRestart then s.setBus { s.bus with lowTimer := s.bus.lowTimer.map (· + 1) }
  else lineTimer (busTimers (unitTimers (each allBearers bearerTimers (eachLine lineTimers (age s)))))

end Sys2Proof.Machine
end

