-- ==== Sys2Proof/WellFormed.lean ====
section
/-! DEFINITION. Which commands stand for an event that the spec describes. Most operands are bytes or
indices of exactly the width the spec gives them, and every value of theirs is an event (a request with a
value out of range is refused by its owner, which is part of its meaning). Two operands need a check. -/

namespace Sys2Proof

/-- The request codes of the catalogue (11, section 11.7). -/
def requestCodes : List Nat :=
  [0x10, 0x11, 0x12, 0x13, 0x14, 0x15, 0x20, 0x21, 0x22, 0x23, 0x24, 0x25, 0x26, 0x27, 0x28, 0x2F,
   0x30, 0x31, 0x32, 0x33, 0x34, 0x40, 0x41, 0x42, 0x43, 0x44, 0x50, 0x51]

/-- The number of bytes the digest covers (R177): eight profiles of 9, and four tables of 8. -/
def coveredBytes : Nat := 104

/-- The command is well formed: an unknown request code is none of the catalogue's codes (R171), and a
disturbance of storage names a byte of a covered table (R177). -/
def Instr.wellFormed : Instr → Bool
  | .unknownRequestCode _ code => !(requestCodes.contains code.toNat)
  | .storageDisturbance index _ => decide (index < coveredBytes)
  | _ => true

end Sys2Proof
end

