-- ==== Sys2Proof/Machine/BusCommands.lean ====
section
/-! DEFINITION. The meanings of the events of the Bus Interface and of power (chapter 10; R178). -/

namespace Sys2Proof.Machine

/-- R164. -/
def execGapTimerExpiry (s : State) : Host.Outcome State Fault Refusal :=
  .next (gapExpiry s)

/-- R167, R173. -/
def execReplyTransmitStart (s : State) : Host.Outcome State Fault Refusal :=
  .next (transmitStart s)

/-- R167. -/
def execReplyTransmitEnd (s : State) : Host.Outcome State Fault Refusal :=
  .next (transmitEnd s)

/-- R169. -/
def execBusBreak (s : State) : Host.Outcome State Fault Refusal :=
  .next (busBreak s)

/-- R169, R163. -/
def execReceiveLineHigh (address : Fin 4) (rate : BusRate) (s : State) : Host.Outcome State Fault Refusal :=
  .next (receiveLineHigh ⟨address, rate⟩ s)

/-- R169. -/
def execReadyMarkSet (s : State) : Host.Outcome State Fault Refusal :=
  .next (readyExpiry s)

/-- R178. -/
def execPowerOn (straps : Straps) (lineHigh : Bool) (s : State) : Host.Outcome State Fault Refusal :=
  .next (powerOn straps lineHigh s)

/-- R163, R164, R165, and the request of a frame that the byte completes (R166). -/
def execBusByteReceived (value : Byte) (part : BytePart) (s : State) : Host.Outcome State Fault Refusal :=
  .next (event (bytePart value part) s)

/-- R171, R166. A code of the catalogue is no unknown code (the command is not well formed) and changes
nothing.
DESIGN CHOICE: notes/assumptions/20.md. -/
def execUnknownRequestCode (dest : Addressee) (code : Byte) (s : State) : Host.Outcome State Fault Refusal :=
  .next (if requestCodes.contains code.toNat then s
    else takeFrame dest false (refuseWith .unknownRequest) s)

end Sys2Proof.Machine
end

