-- ==== Sys2Proof/Machine/CallCommands.lean ====
section
/-! DEFINITION. The meanings of the requests about the link, bearers, calls and tests (chapters 4, 5 and 8). -/

namespace Sys2Proof.Machine

/-- R63. -/
def execLinkStateUp (dest : Addressee) (count : Byte) (s : State) : Host.Outcome State Fault Refusal :=
  .next (event (takeFrame dest false (reqLinkUp count)) s)

/-- R64. -/
def execLinkStateDown (dest : Addressee) (_count : Byte) (s : State) : Host.Outcome State Fault Refusal :=
  .next (event (takeFrame dest false reqLinkDown) s)

/-- R65. -/
def execBearerCheck (dest : Addressee) (bearers : Word16) (s : State) : Host.Outcome State Fault Refusal :=
  .next (event (takeFrame dest false (reqBearerCheck bearers)) s)

/-- R66. -/
def execBar (dest : Addressee) (bearer : Byte) (s : State) : Host.Outcome State Fault Refusal :=
  .next (event (takeFrame dest false (reqBar bearer)) s)

/-- R67. -/
def execUnbar (dest : Addressee) (bearer : Byte) (s : State) : Host.Outcome State Fault Refusal :=
  .next (event (takeFrame dest false (reqUnbar bearer)) s)

/-- R68. -/
def execReleaseAcknowledge (dest : Addressee) (bearer : Byte)
    (s : State) : Host.Outcome State Fault Refusal :=
  .next (event (takeFrame dest false (reqReleaseAcknowledge bearer)) s)

/-- R84, R62. -/
def execGrant (dest : Addressee) (line : Byte) (bearer : Byte)
    (s : State) : Host.Outcome State Fault Refusal :=
  .next (event (takeFrame dest false (reqGrant line bearer)) s)

/-- R85, R62. -/
def execRefuse (dest : Addressee) (line : Byte) (bearer : Byte)
    (s : State) : Host.Outcome State Fault Refusal :=
  .next (event (takeFrame dest false (reqRefuse line bearer)) s)

/-- R85, R87, R94, R62. -/
def execRelease (dest : Addressee) (line : Byte) (bearer : Byte)
    (s : State) : Host.Outcome State Fault Refusal :=
  .next (event (takeFrame dest false (reqRelease line bearer)) s)

/-- R89 to R92. -/
def execIncoming (dest : Addressee) (line : Byte) (bearer : Byte) (ring : Byte)
    (s : State) : Host.Outcome State Fault Refusal :=
  .next (event (takeFrame dest false (reqIncoming line bearer ring)) s)

/-- R88. -/
def execFarAnswer (dest : Addressee) (line : Byte) (s : State) : Host.Outcome State Fault Refusal :=
  .next (event (takeFrame dest false (reqFarAnswer line)) s)

/-- R137, R138. -/
def execTestLine (dest : Addressee) (line : Byte) (measurements : Byte) (mode : Byte)
    (s : State) : Host.Outcome State Fault Refusal :=
  .next (event (takeFrame dest false (reqTestLine line measurements mode)) s)

/-- R148. -/
def execTestAbort (dest : Addressee) (s : State) : Host.Outcome State Fault Refusal :=
  .next (event (takeFrame dest false reqTestAbort) s)

end Sys2Proof.Machine
end

