-- ==== Sys2Proof/Machine/LineCommands.lean ====
section
/-! DEFINITION. The meanings of the commands of one line: samples, decisions, and the timers of its feed and its line record
(chapters 1, 2, 3, 5 and 7). -/

namespace Sys2Proof.Machine

/-- R1 to R21: the sample is treated by the call state of its line, with the decision and the tick it brings. -/
def execSenseSample (line : Line) (current : Int) (ringTrip : Bool)
    (s : State) : Host.Outcome State Fault Refusal :=
  .next (event (visit line current ringTrip) s)

/-- R1, R2: the round begins at L0 with the scan period the Quiet state asks for. -/
def execScanRoundStart (s : State) : Host.Outcome State Fault Refusal :=
  .next (roundStart s)

/-- R13, R14: the hook state changes, and the decision goes to the Break Timer or the Call Handler. -/
def execHookDecision (line : Line) (s : State) : Host.Outcome State Fault Refusal :=
  .next (event (hookDecision line) s)

/-- R16, R18, R48, R97, R98. -/
def execOvercurrentDecision (line : Line) (s : State) : Host.Outcome State Fault Refusal :=
  .next (event (faultDecision line .overcurrent) s)

/-- R17, R18, R48, R97, R98. -/
def execForeignBatteryDecision (line : Line) (s : State) : Host.Outcome State Fault Refusal :=
  .next (event (faultDecision line .foreignBattery) s)

/-- R20, R93. -/
def execRingTripDecision (line : Line) (s : State) : Host.Outcome State Fault Refusal :=
  .next (event (ringTripDecision line) s)

/-- R28, R82, R83, R86. -/
def execClearDecision (line : Line) (s : State) : Host.Outcome State Fault Refusal :=
  .next (event (clearDecision line) s)

/-- R35, R80, R86. -/
def execDigitEnd (line : Line) (s : State) : Host.Outcome State Fault Refusal :=
  .next (event (digitEnd line) s)

/-- R44, and the signal to the Test Unit (R139, R140, R142, R146). -/
def execSettleEnd (line : Line) (s : State) : Host.Outcome State Fault Refusal :=
  .next (event (settleEnd line) s)

/-- R46. -/
def execBlankingEnd (line : Line) (s : State) : Host.Outcome State Fault Refusal :=
  .next (blankingEnd line s)

/-- R82, R95. -/
def execWaitLimitExpiry (line : Line) (s : State) : Host.Outcome State Fault Refusal :=
  .next (event (waitLimitExpiry line) s)

/-- R96. -/
def execTonePhaseExpiry (line : Line) (s : State) : Host.Outcome State Fault Refusal :=
  .next (event (tonePhaseEnd line) s)

/-- R96. -/
def execPreemptionToneEnd (line : Line) (s : State) : Host.Outcome State Fault Refusal :=
  .next (preemptionToneEnd line s)

/-- R96. -/
def execHowlerPhaseExpiry (line : Line) (s : State) : Host.Outcome State Fault Refusal :=
  .next (event (howlerPhaseEnd line) s)

/-- R98. -/
def execRetryWaitExpiry (line : Line) (s : State) : Host.Outcome State Fault Refusal :=
  .next (event (retryWaitExpiry line) s)

/-- R98, R81. -/
def execRetryLookExpiry (line : Line) (s : State) : Host.Outcome State Fault Refusal :=
  .next (event (retryLookExpiry line) s)

/-- R94, R128, R133. -/
def execRingLimitReached (line : Line) (s : State) : Host.Outcome State Fault Refusal :=
  .next (event (ringLimitReached line) s)

end Sys2Proof.Machine
end

