-- ==== Sys2Proof/Machine/QueryCommands.lean ====
section
/-! DEFINITION. The meanings of Poll and of the query requests (chapter 11). -/

namespace Sys2Proof.Machine

/-- R173: the reports are taken when the reply begins transmission. -/
def execPoll (dest : Addressee) (s : State) : Host.Outcome State Fault Refusal :=
  .next (takeFrame dest false reqPoll s)

/-- R174, R23, R38, R55, R102, R135. -/
def execLineQuery (dest : Addressee) (line : Byte) (s : State) : Host.Outcome State Fault Refusal :=
  .next (takeFrame dest false (reqLineQuery line) s)

/-- R72. -/
def execBearerQuery (dest : Addressee) (bearer : Byte) (s : State) : Host.Outcome State Fault Refusal :=
  .next (takeFrame dest false (reqBearerQuery bearer) s)

/-- R174, R72, R121, R135, R162. -/
def execUnitQuery (dest : Addressee) (sect : Byte) (s : State) : Host.Outcome State Fault Refusal :=
  .next (takeFrame dest false (reqUnitQuery s.monitor.countdown s.monitor.isolated sect) s)

/-- R150. -/
def execTestResult (dest : Addressee) (s : State) : Host.Outcome State Fault Refusal :=
  .next (takeFrame dest false reqTestResult s)

/-- R174, R177. -/
def execReadDigest (dest : Addressee) (s : State) : Host.Outcome State Fault Refusal :=
  .next (takeFrame dest false reqReadDigest s)

end Sys2Proof.Machine
end

