-- ==== Sys2Proof/Machine/SettingCommands.lean ====
section
/-! DEFINITION. The meanings of the settings writes, of Restart, and of the requests to the Supply Watch and the Unit Monitor
(chapters 9 and 11). -/

namespace Sys2Proof.Machine

/-- R176, R22. -/
def execSetProfile (dest : Addressee) (profile : Byte) (k : Byte) (m : Byte) (tOn : Word16) (tOff : Word16) (tOver : Word16) (flags : Byte)
    (s : State) : Host.Outcome State Fault Refusal :=
  .next (event (takeFrame dest true (reqSetProfile profile ⟨k, m, tOn, tOff, tOver, flags⟩)) s)

/-- R175, R78, R79, R99, R132. -/
def execSetLine (dest : Addressee) (line : Byte) (enabled : Byte) (profile : Byte) (cls : Byte) (preemptible : Byte)
    (s : State) : Host.Outcome State Fault Refusal :=
  .next (event (takeFrame dest false (reqSetLine line enabled profile cls preemptible)) s)

/-- R104. -/
def execSetClassMap (dest : Addressee) (priority : Word16) (standard : Word16) (economy : Word16) (alarm : Word16)
    (s : State) : Host.Outcome State Fault Refusal :=
  .next (event (takeFrame dest true (reqSetClassMap priority standard economy alarm)) s)

/-- R110. -/
def execSetArbiterPhases (dest : Addressee) (c0 : Byte) (c1 : Byte) (c2 : Byte) (c3 : Byte) (c4 : Byte) (c5 : Byte) (c6 : Byte) (c7 : Byte)
    (s : State) : Host.Outcome State Fault Refusal :=
  .next (event (takeFrame dest true (reqSetArbiterPhases #v[c0, c1, c2, c3, c4, c5, c6, c7])) s)

/-- R176, R156, R158. -/
def execSetTimers (dest : Addressee) (answer : Byte) (guard : Byte) (wait : Byte) (congestion : Byte) (howler : Byte) (ringLimit : Byte) (quietDelay : Word16)
    (s : State) : Host.Outcome State Fault Refusal :=
  .next (event (takeFrame dest true (reqSetTimers ⟨answer, guard, wait, congestion, howler, ringLimit, quietDelay⟩)) s)

/-- R155. -/
def execSetSupplyThresholds (dest : Addressee) (criticalEnter : Word16) (criticalExit : Word16) (lowEnter : Word16) (lowExit : Word16)
    (s : State) : Host.Outcome State Fault Refusal :=
  .next (event (takeFrame dest true (reqSetSupplyThresholds ⟨criticalEnter, criticalExit, lowEnter, lowExit⟩)) s)

/-- R175, R170. -/
def execSetAttention (dest : Addressee) (value : Byte) (s : State) : Host.Outcome State Fault Refusal :=
  .next (event (takeFrame dest false (reqSetAttention value)) s)

/-- R154. -/
def execClearSupplyDip (dest : Addressee) (s : State) : Host.Outcome State Fault Refusal :=
  .next (event (takeFrame dest true reqClearSupplyDip) s)

/-- R159. -/
def execArmMonitor (dest : Addressee) (interval : Byte) (s : State) : Host.Outcome State Fault Refusal :=
  .next (event (takeFrame dest true (reqArmMonitor interval)) s)

/-- R178, scope Full: no reply. A broadcast one restarts the unit in the same way. -/
def execRestartFull (_dest : Addressee) (address : Fin 4) (rate : BusRate)
    (s : State) : Host.Outcome State Fault Refusal :=
  .next (if s.receives then takeRestartFull (s.setStrapPins ⟨address, rate⟩) else loseFrame s)

/-- R178, scope Calls. -/
def execRestartCalls (dest : Addressee) (s : State) : Host.Outcome State Fault Refusal :=
  .next (event (takeFrame dest true reqRestartCalls) s)

end Sys2Proof.Machine
end

