-- ==== Sys2Proof/Machine/UnitCommands.lean ====
section
/-! DEFINITION. The meanings of the events of bearers, the arbiter, the wheel, the supply, the monitor, the Test Unit and the
settings in storage (chapters 4, 6, 7, 8, 9 and 11). -/

namespace Sys2Proof.Machine

/-- R69. -/
def execGuardExpiry (bearer : Bearer) (s : State) : Host.Outcome State Fault Refusal :=
  .next (event (guardExpiry bearer) s)

/-- R117, R119. -/
def execHandoverExpiry (s : State) : Host.Outcome State Fault Refusal :=
  .next (event handoverExpiry s)

/-- R124, R133. -/
def execRingPhaseBoundary (s : State) : Host.Outcome State Fault Refusal :=
  .next (event phaseBoundary s)

/-- R151 to R154. -/
def execSupplySample (value : Int) (s : State) : Host.Outcome State Fault Refusal :=
  .next (event (supplySample value) s)

/-- R157. -/
def execQuietTimerExpiry (s : State) : Host.Outcome State Fault Refusal :=
  .next (event quietExpiry s)

/-- R160, R161, R96a. -/
def execMonitorCountdownExpiry (s : State) : Host.Outcome State Fault Refusal :=
  .next (event countdownExpiry s)

/-- R177. -/
def execAuditTimerExpiry (s : State) : Host.Outcome State Fault Refusal :=
  .next (event auditExpiry s)

/-- R142, with the end of the window its 100th sample brings. -/
def execTestConverterSample (value : Int) (s : State) : Host.Outcome State Fault Refusal :=
  .next (event (converterSample value) s)

/-- R142 to R145. -/
def execMeasurementWindowEnd (s : State) : Host.Outcome State Fault Refusal :=
  .next (event windowEnd s)

/-- R139. -/
def execTestConnectExpiry (s : State) : Host.Outcome State Fault Refusal :=
  .next (event connectExpiry s)

/-- R140. -/
def execTestLookExpiry (s : State) : Host.Outcome State Fault Refusal :=
  .next (event lookExpiry s)

/-- R141. -/
def execLookOffHook (s : State) : Host.Outcome State Fault Refusal :=
  .next (event lookOffHook s)

/-- R146, R147. -/
def execTestDisconnectExpiry (s : State) : Host.Outcome State Fault Refusal :=
  .next (event disconnectExpiry s)

/-- R177. An index beyond the covered tables names no byte of theirs (the command is not well formed) and
changes nothing.
DESIGN CHOICE: notes/assumptions/20.md. -/
def execStorageDisturbance (index : Nat) (value : Byte) (s : State) : Host.Outcome State Fault Refusal :=
  .next (if index < coveredBytes then event (disturb index value) s else s)

end Sys2Proof.Machine
end

