-- ==== Sys2Proof/Machine/Dispatch.lean ====
section
/-! DEFINITION. The dispatch: one arm per command. -/

namespace Sys2Proof.Machine

def exec (i : Instr) (s : State) : Host.Outcome State Fault Refusal :=
  match i with
  | .senseSample line current ringTrip => Sys2Proof.Machine.execSenseSample line current ringTrip s
  | .scanRoundStart => Sys2Proof.Machine.execScanRoundStart s
  | .hookDecision line => Sys2Proof.Machine.execHookDecision line s
  | .overcurrentDecision line => Sys2Proof.Machine.execOvercurrentDecision line s
  | .foreignBatteryDecision line => Sys2Proof.Machine.execForeignBatteryDecision line s
  | .ringTripDecision line => Sys2Proof.Machine.execRingTripDecision line s
  | .clearDecision line => Sys2Proof.Machine.execClearDecision line s
  | .digitEnd line => Sys2Proof.Machine.execDigitEnd line s
  | .settleEnd line => Sys2Proof.Machine.execSettleEnd line s
  | .blankingEnd line => Sys2Proof.Machine.execBlankingEnd line s
  | .waitLimitExpiry line => Sys2Proof.Machine.execWaitLimitExpiry line s
  | .tonePhaseExpiry line => Sys2Proof.Machine.execTonePhaseExpiry line s
  | .preemptionToneEnd line => Sys2Proof.Machine.execPreemptionToneEnd line s
  | .howlerPhaseExpiry line => Sys2Proof.Machine.execHowlerPhaseExpiry line s
  | .retryWaitExpiry line => Sys2Proof.Machine.execRetryWaitExpiry line s
  | .retryLookExpiry line => Sys2Proof.Machine.execRetryLookExpiry line s
  | .guardExpiry bearer => Sys2Proof.Machine.execGuardExpiry bearer s
  | .handoverExpiry => Sys2Proof.Machine.execHandoverExpiry s
  | .ringPhaseBoundary => Sys2Proof.Machine.execRingPhaseBoundary s
  | .ringLimitReached line => Sys2Proof.Machine.execRingLimitReached line s
  | .supplySample value => Sys2Proof.Machine.execSupplySample value s
  | .quietTimerExpiry => Sys2Proof.Machine.execQuietTimerExpiry s
  | .monitorCountdownExpiry => Sys2Proof.Machine.execMonitorCountdownExpiry s
  | .auditTimerExpiry => Sys2Proof.Machine.execAuditTimerExpiry s
  | .testConverterSample value => Sys2Proof.Machine.execTestConverterSample value s
  | .measurementWindowEnd => Sys2Proof.Machine.execMeasurementWindowEnd s
  | .testConnectExpiry => Sys2Proof.Machine.execTestConnectExpiry s
  | .testLookExpiry => Sys2Proof.Machine.execTestLookExpiry s
  | .lookOffHook => Sys2Proof.Machine.execLookOffHook s
  | .testDisconnectExpiry => Sys2Proof.Machine.execTestDisconnectExpiry s
  | .gapTimerExpiry => Sys2Proof.Machine.execGapTimerExpiry s
  | .replyTransmitStart => Sys2Proof.Machine.execReplyTransmitStart s
  | .replyTransmitEnd => Sys2Proof.Machine.execReplyTransmitEnd s
  | .busBreak => Sys2Proof.Machine.execBusBreak s
  | .receiveLineHigh address rate => Sys2Proof.Machine.execReceiveLineHigh address rate s
  | .readyMarkSet => Sys2Proof.Machine.execReadyMarkSet s
  | .powerOn straps lineHigh => Sys2Proof.Machine.execPowerOn straps lineHigh s
  | .poll dest => Sys2Proof.Machine.execPoll dest s
  | .lineQuery dest line => Sys2Proof.Machine.execLineQuery dest line s
  | .bearerQuery dest bearer => Sys2Proof.Machine.execBearerQuery dest bearer s
  | .unitQuery dest sect => Sys2Proof.Machine.execUnitQuery dest sect s
  | .testResult dest => Sys2Proof.Machine.execTestResult dest s
  | .readDigest dest => Sys2Proof.Machine.execReadDigest dest s
  | .setProfile dest profile k m tOn tOff tOver flags => Sys2Proof.Machine.execSetProfile dest profile k m tOn tOff tOver flags s
  | .setLine dest line enabled profile cls preemptible => Sys2Proof.Machine.execSetLine dest line enabled profile cls preemptible s
  | .setClassMap dest priority standard economy alarm => Sys2Proof.Machine.execSetClassMap dest priority standard economy alarm s
  | .setArbiterPhases dest c0 c1 c2 c3 c4 c5 c6 c7 => Sys2Proof.Machine.execSetArbiterPhases dest c0 c1 c2 c3 c4 c5 c6 c7 s
  | .setTimers dest answer guard wait congestion howler ringLimit quietDelay => Sys2Proof.Machine.execSetTimers dest answer guard wait congestion howler ringLimit quietDelay s
  | .setSupplyThresholds dest criticalEnter criticalExit lowEnter lowExit => Sys2Proof.Machine.execSetSupplyThresholds dest criticalEnter criticalExit lowEnter lowExit s
  | .setAttention dest value => Sys2Proof.Machine.execSetAttention dest value s
  | .clearSupplyDip dest => Sys2Proof.Machine.execClearSupplyDip dest s
  | .armMonitor dest interval => Sys2Proof.Machine.execArmMonitor dest interval s
  | .restartFull dest address rate => Sys2Proof.Machine.execRestartFull dest address rate s
  | .restartCalls dest => Sys2Proof.Machine.execRestartCalls dest s
  | .linkStateUp dest count => Sys2Proof.Machine.execLinkStateUp dest count s
  | .linkStateDown dest count => Sys2Proof.Machine.execLinkStateDown dest count s
  | .bearerCheck dest bearers => Sys2Proof.Machine.execBearerCheck dest bearers s
  | .bar dest bearer => Sys2Proof.Machine.execBar dest bearer s
  | .unbar dest bearer => Sys2Proof.Machine.execUnbar dest bearer s
  | .releaseAcknowledge dest bearer => Sys2Proof.Machine.execReleaseAcknowledge dest bearer s
  | .grant dest line bearer => Sys2Proof.Machine.execGrant dest line bearer s
  | .refuse dest line bearer => Sys2Proof.Machine.execRefuse dest line bearer s
  | .release dest line bearer => Sys2Proof.Machine.execRelease dest line bearer s
  | .incoming dest line bearer ring => Sys2Proof.Machine.execIncoming dest line bearer ring s
  | .farAnswer dest line => Sys2Proof.Machine.execFarAnswer dest line s
  | .testLine dest line measurements mode => Sys2Proof.Machine.execTestLine dest line measurements mode s
  | .testAbort dest => Sys2Proof.Machine.execTestAbort dest s
  | .busByteReceived value part => Sys2Proof.Machine.execBusByteReceived value part s
  | .unknownRequestCode dest code => Sys2Proof.Machine.execUnknownRequestCode dest code s
  | .storageDisturbance index value => Sys2Proof.Machine.execStorageDisturbance index value s

end Sys2Proof.Machine
end

