-- ==== Sys2Proof/Safety.lean ====
section
/-! DEFINITION. What counts as a safe state, and the terms in which the statements speak of what a command
leaves unchanged, of the request it answers and of the bearers and lines it touches. -/

namespace Sys2Proof.Machine

/-! ## What a command leaves unchanged -/

/-- The parts of the state. The Unit Monitor is two parts: `quietRun` is its Quiet state with the quiet timer,
which every event may run (R156, R158), and `watch` is the rest of it. -/
inductive Part where
  | entries | tables | scanner | sup | brk | feed | call | bearers | arbiter | ringer | test | supply
  | quietRun | watch | reports | bus | strapPins | toneClock | inRestart | pending
  deriving DecidableEq, Repr

/-- The monitor without its Quiet state and quiet timer. -/
def Monitor.watch (m : Monitor) : Monitor := { m with quiet := false, quietTimer := none }

/-- The part is the same in both states. -/
def Part.same (s t : State) : Part → Prop
  | .entries => t.entries = s.entries
  | .tables => t.tables = s.tables
  | .scanner => t.scanner = s.scanner
  | .sup => t.sup = s.sup
  | .brk => t.brk = s.brk
  | .feed => t.feed = s.feed
  | .call => t.call = s.call
  | .bearers => t.bearers = s.bearers
  | .arbiter => t.arbiter = s.arbiter
  | .ringer => t.ringer = s.ringer
  | .test => t.test = s.test
  | .supply => t.supply = s.supply
  | .quietRun => t.monitor.quiet = s.monitor.quiet ∧ t.monitor.quietTimer = s.monitor.quietTimer
  | .watch => t.monitor.watch = s.monitor.watch
  | .reports => t.reports = s.reports
  | .bus => t.bus = s.bus
  | .strapPins => t.strapPins = s.strapPins
  | .toneClock => t.toneClock = s.toneClock
  | .inRestart => t.inRestart = s.inRestart
  | .pending => t.pending = s.pending

/-- `t` differs from `s` in the listed parts at most. -/
def SameBut (parts : List Part) (s t : State) : Prop := ∀ p : Part, p ∉ parts → p.same s t

/-- Every line but `l` has the same line entry, supervision, break timing, feed state and line record. -/
def OtherLines (l : Line) (s t : State) : Prop :=
  ∀ m : Line, m ≠ l →
    t.entries[m] = s.entries[m] ∧ t.sup[m] = s.sup[m] ∧ t.brk[m] = s.brk[m] ∧ t.feed[m] = s.feed[m] ∧
      t.call[m] = s.call[m]

/-- Every bearer but `b` has the same record. -/
def OtherBearers (b : Bearer) (s t : State) : Prop := ∀ c : Bearer, c ≠ b → t.bearer c = s.bearer c

/-- The link state and the in-service count are the same. -/
def SameLink (s t : State) : Prop :=
  t.bearers.linkUp = s.bearers.linkUp ∧ t.bearers.inService = s.bearers.inService

/-! ## Requests -/

/-- The state in which the owner of a request meets it: a Waiting reply has been cancelled and the control
monitor has been reloaded (R166, steps 1 and 2). -/
def State.atRequest (s : State) : State := reloadMonitor (cancelReply s)

/-- The reply `r` is pending, Waiting, with its window beginning now, the frame assembly is Hunting, and the
receive line is high between two bytes (R166, step 5; R165). -/
def Replied (r : Reply) (s t : State) : Prop :=
  t.bus =
    { s.bus with assembly := {}, gap := none, reception := .none, pending := .waiting r 0, lowTimer := none }

/-- Received bytes are examined, no frame is in assembly, and the receive line is high between two bytes, as it
has been since the ready mark was set. -/
def State.listening (s : State) : Prop :=
  s.receives = true ∧ s.bus.assembly = {} ∧ s.bus.reception = .none ∧ s.bus.lowTimer = none ∧
    s.bus.readyTimer = none

/-- What a whole frame leaves that comes while received bytes are ignored: in the restart of a bus break nothing,
and else a receive line that is high after the frame's last stop bit, which begins the 5 ms of the ready mark where
it is Clear (R163, R169). -/
def State.lostFrame (s : State) : State :=
  if s.inRestart = true then s
  else
    { s with
      bus := { s.bus with
        gap := none, reception := .none, lowTimer := none
        readyTimer := if s.bus.ready = true then none else some 5 } }

/-! ## Calls -/

/-- Reports of line `l`'s call or test are meant for the urgent queue (R101, R146). -/
def State.urgentFor (s : State) (l : Line) : Bool := decide (s.classOf l = .priority)

/-- No line stands in the wait list. -/
def State.noWaiters (s : State) : Prop := ∀ a ∈ s.arbiter.arrivals, a.standing = .seizing

/-- The step a transition from `current` towards a different `target` takes (R43). -/
def routeStep (current target : FeedMode) : FeedMode :=
  if (current = .ring ∧ target ≠ .standby) ∨ (target = .ring ∧ current ≠ .standby) then .standby else target

/-- The record of a bearer of line `l` that the part gives back now (R60). -/
def State.clearingRecord (s : State) (b : Bearer) (l : Line) : BearerRecord :=
  { s.bearer b with
    state := .clearing, line := none, formerLine := some l
    guard := some (1000 * s.tables.timers.guard.toNat) }

/-- The record of a bearer of line `l` that the exchange has freed (R61). -/
def State.freedRecord (s : State) (b : Bearer) (l : Line) : BearerRecord :=
  { s.bearer b with
    state := if (s.bearer b).barPending then BearerState.barred else BearerState.idle
    line := none, formerLine := some l, barPending := false, guard := none }

/-- The line record of a line that has just entered Lockout (R95). -/
def State.lockedOut (s : State) (c : LockoutCause) : CallRecord :=
  { state := .lockout
    path := .tone (match c with
      | .congestion => .congestion
      | .released => .congestion
      | .preempted => .preemption
      | .isolated => .isolation)
    cause := some c, phase := some .tone
    timer := some { kind := .tonePhase, left := 1000 * s.tables.timers.congestion.toNat }
    preemptionTone := match c with
      | .preempted => some 2000
      | _ => none }

/-! ## Ringing -/

/-- How many lines the supply level allows in a phase (R125). -/
def State.ringRoom (s : State) : Nat :=
  match s.supply.level with
  | .normal => 2
  | .low => 1
  | .critical => 1

/-- The supply level permits line `l` in a phase (R125). -/
abbrev State.permits (s : State) (l : Line) : Prop := s.supply.level = .critical → s.classOf l = .priority

/-- Phase `p` is the one the next line is placed in: it has room, no phase holds fewer lines, and each phase before
it holds more (R126, R129). -/
def nextPhase (ph : Vector (List Line) 4) (room : Nat) (p : Fin 4) : Prop :=
  ph[p].length < room ∧ ∀ q : Fin 4, ph[p].length ≤ ph[q].length ∧ (q < p → ph[p].length < ph[q].length)

/-- The Ring Scheduler's state after line `l` has left Ringing (R123, R128): `l` is out of the collections with its
count at 0, a fill is made if it was in a phase, and the wheel stops if no other line is Ringing. -/
def State.ringerWithout (s : State) (l : Line) : Ringer :=
  let others (lines : List Line) : List Line := lines.filter fun x => x ≠ l
  let phases : Vector (List Line) 4 :=
    #v[others s.ringer.phases[0], others s.ringer.phases[1], others s.ringer.phases[2], others s.ringer.phases[3]]
  let queue := others s.ringer.queue
  let filled :=
    if ∃ p : Fin 4, l ∈ s.ringer.phases[p] then
      fillWalk (fun x => decide (s.permits x)) s.ringRoom queue phases
    else (phases, queue)
  { wheel := if ∃ m : Line, m ≠ l ∧ s.call[m].state = .ringing then s.ringer.wheel else .stopped
    phases := filled.1, queue := filled.2, counts := s.ringer.counts.set l 0 }

/-! ## Timers that do not run out within the next millisecond -/

/-- No timer of line `l` runs out. -/
def State.lineTimersRun (s : State) (l : Line) : Prop :=
  (s.feed[l].settling = true → 2 ≤ s.feed[l].settle) ∧ s.feed[l].blanking ≠ .left 0 ∧
    s.feed[l].blanking ≠ .left 1 ∧
    (∀ t, s.call[l].timer = some t → t.left ≠ 0 ∧ (s.call[l].state ≠ .testing → t.left ≠ 1)) ∧
    s.call[l].preemptionTone ≠ some 0 ∧ (s.call[l].state ≠ .testing → s.call[l].preemptionTone ≠ some 1)

/-- A timer with the time left does not run out. -/
def runsOn (t : Option Nat) : Prop := t ≠ some 0 ∧ t ≠ some 1

/-- No timer of a bearer, the arbiter, the wheel, the Test Unit or the Unit Monitor runs out. -/
def State.unitTimersRun (s : State) : Prop :=
  (∀ b : Bearer, runsOn (s.bearer b).guard) ∧ runsOn (s.arbiter.handover.map Handover.left) ∧
    (∀ p n, s.ringer.wheel = .running p n → n < 999) ∧ runsOn (s.test.session.bind Session.timer) ∧
    runsOn s.monitor.countdown ∧ runsOn s.monitor.audit ∧ runsOn s.monitor.quietTimer

/-- No timer of the Bus Interface runs out, no reply reaches the end of its window or of its transmission, and
the receive line does not become low for 50 ms. -/
def State.busTimersRun (s : State) : Prop :=
  runsOn s.bus.gap ∧ runsOn s.bus.readyTimer ∧ (∀ r n, s.bus.pending = .waiting r n → n < 7) ∧
    (∀ f n, s.bus.pending = .transmitting f n → 2 ≤ n) ∧ (∀ n, s.bus.lowTimer = some n → n < 49)

/-! ## Safe states -/

/-- The report queues are within their capacities (R172). -/
def ReportsBounded (s : State) : Prop := s.reports.urgent.length ≤ 16 ∧ s.reports.routine.length ≤ 48

/-- Every filtered current is within its range (R9). -/
def FilterInRange (s : State) : Prop := ∀ l : Line, -32768 ≤ s.sup[l].f ∧ s.sup[l].f ≤ 32752

/-- The early-digit buffers hold at most 8 digits, and are empty with the lost mark Clear on a line that is
neither Waiting nor Seizing (R80). -/
def EarlyDigitsBounded (s : State) : Prop :=
  ∀ l : Line, s.call[l].early.length ≤ 8 ∧
    (s.call[l].state ≠ .waiting → s.call[l].state ≠ .seizing → s.call[l].early = [] ∧ s.call[l].lost = false)

/-- No ring phase holds more lines than the capacity of the supply level (R125). -/
def PhasesInCapacity (s : State) : Prop := ∀ p : Fin 4, s.ringer.phases[p].length ≤ s.ringRoom

/-- The ring collections and the wheel follow the Ringing lines and the supply level. -/
structure RingsTied (s : State) : Prop where
  /-- A Ringing line has one place, in one phase or in the queue, and no other line has any (7, section 7.1). -/
  placed : ∀ l : Line,
    (s.ringer.phases[0] ++ s.ringer.phases[1] ++ s.ringer.phases[2] ++ s.ringer.phases[3] ++
      s.ringer.queue).count l = if s.call[l].state = .ringing then 1 else 0
  /-- While the level is Critical, no phase holds a line whose class is not Priority (R125). -/
  atCritical : s.supply.level = .critical → ∀ (p : Fin 4) (l : Line), l ∈ s.ringer.phases[p] →
    s.classOf l = .priority
  /-- The wheel is Stopped exactly while no line is Ringing (R123). -/
  wheel : s.ringer.wheel = .stopped ↔ ∀ l : Line, s.call[l].state ≠ .ringing

/-- Quiet operation is in force only while the quiet condition holds (R156, R158). -/
def QuietOnlyWhenIdle (s : State) : Prop := s.monitor.quiet = true → s.quietCondition = true

/-- The call state of a line, and the state of the bearer it names, agree (R58). -/
def useAgrees : CallState → BearerState → Prop
  | .seizing, .held => True
  | .seizing, .handover => True
  | .connected, .engaged => True
  | .ringing, .reserved => True
  | _, _ => False

/-- The line records, the bearer records, the connection list, the handover record, the arrival list and the
session record tell one story. -/
structure CallsTied (s : State) : Prop where
  /-- A line names a bearer exactly if the bearer's line is that line (R56, R58). -/
  named : ∀ (l : Line) (b : Bearer), s.call[l].bearer = some b ↔ (s.bearer b).line = some l
  /-- A named bearer is Held or in Handover for a Seizing line, Engaged for a Connected, Reserved for a
  Ringing. -/
  agree : ∀ (l : Line) (b : Bearer), s.call[l].bearer = some b → useAgrees s.call[l].state (s.bearer b).state
  /-- Every Seizing, Connected or Ringing line names a bearer. -/
  lineNames : ∀ l : Line, s.call[l].bearer = none →
    s.call[l].state ≠ .seizing ∧ s.call[l].state ≠ .connected ∧ s.call[l].state ≠ .ringing
  /-- Every Held, Reserved, Engaged or Handover bearer has a line. -/
  bearerNames : ∀ b : Bearer, (s.bearer b).line = none → (s.bearer b).state.busy = true →
    (s.bearer b).state = .clearing
  /-- The connection list holds each Engaged bearer once and no other (R70). -/
  connectionOnce : s.bearers.connection.Nodup
  connected : ∀ b : Bearer, b ∈ s.bearers.connection ↔ (s.bearer b).state = .engaged
  /-- The handover record names the one bearer in Handover, and its line (R116). -/
  handed : ∀ b : Bearer, (s.bearer b).state = .handover ↔ s.arbiter.handover.map Handover.bearer = some b
  handedLine : ∀ h, s.arbiter.handover = some h → (s.bearer h.bearer).line = some h.line
  /-- The arrival list holds each Waiting or Seizing line once, with its standing, and no other (R106, R108). -/
  arrivedOnce : (s.arbiter.arrivals.map Arrival.line).Nodup
  stands : ∀ a ∈ s.arbiter.arrivals, s.call[a.line].state = (match a.standing with
    | .waiting => .waiting
    | .seizing => .seizing)
  arrived : ∀ l : Line, s.call[l].state.joined = true → ∃ a ∈ s.arbiter.arrivals, a.line = l
  /-- While the unit is Isolated no line is Waiting or Seizing (R96a, R120, R161). -/
  isolated : s.monitor.isolated = true → ∀ l : Line, s.call[l].state.joined = false
  /-- A line is Disabled, or will be once its test ends, exactly if its entry is not enabled (R79, R99). -/
  disabled : ∀ l : Line, s.entries[l].enabled = false ↔
    s.call[l].state = .disabled ∨ s.call[l].state = .testing ∧ s.call[l].prior = some .disabled
  /-- The line under test is the session's, and looks are made for an enabled line alone, before a measurement
  (R99, R137, R140). -/
  tested : ∀ l : Line, s.call[l].state = .testing ↔ s.test.session.map Session.line = some l
  looks : ∀ x, s.test.session = some x →
    (x.mode = .courteous → s.entries[x.line].enabled = true) ∧
    (x.phase = .look → s.entries[x.line].enabled = true ∧ x.remaining ≠ [])
  /-- While the link is Down every bearer is Absent (R64). -/
  linkDown : s.bearers.linkUp = false → ∀ b : Bearer, (s.bearer b).state = .absent

/-- The 5 ms for which the receive line must be high before the ready mark is set run only while it is high
(R169). -/
def ReadyWhileHigh (s : State) : Prop := s.bus.readyTimer ≠ none → s.bus.lowTimer = none

/-- A safe state. -/
def Safe (s : State) : Prop :=
  ReportsBounded s ∧ FilterInRange s ∧ EarlyDigitsBounded s ∧ PhasesInCapacity s ∧ QuietOnlyWhenIdle s ∧
    CallsTied s ∧ ReadyWhileHigh s ∧ RingsTied s

end Sys2Proof.Machine
end

