-- ==== Sys2Proof/Certificates/Slice0/Obligations.lean ====
section
/-! DEFINITION. The statements for the provers, in the order of OBLIGATIONS.json. In all of them `exec c s = .next t`
says that command `c` completes on `s`; what it leaves unchanged is said by `SameBut`, `OtherLines` and
`OtherBearers` (Sys2Proof/Safety.lean). Numbers of assumption-log entries are those of notes/assumptions. -/

open Sys2Proof Sys2Proof.Machine

/-! ## The block as a whole -/

/-- A step with command `c` at the front of the queue is `exec c` on the state with the queue's rest. The
queue itself is the model's (log entry 7). -/
def Obligations.StepRunsFrontCommand : Prop :=
  ∀ (c : Instr) (s : State) (rest : List Instr),
    step (s.setPending (c :: rest)) = exec c (s.setPending rest)

/-- Every command answers a next state: none ends in a fault or a refusal, on any state and any operands. It
leaves the queue of the commands that wait behind it as it was. With an empty queue a step is one millisecond
(the model's choice: log entry 2): where no timer runs out in it, every running timer is 1 ms further on, the
line timers and Preemption tone of a Testing line standing still (R99), the tone source's cadences go on (R100),
and nothing else changes. In the restart of a bus break only the time for which the line has been low runs
(R169). -/
def Obligations.EveryCommandAnswersNext : Prop :=
  (∀ (c : Instr) (s : State), ∃ t, exec c s = .next t ∧ t.pending = s.pending) ∧
  (∀ s : State, s.pending = [] → s.inRestart = false → (∀ l : Line, s.lineTimersRun l) → s.unitTimersRun →
    s.busTimersRun →
    let less (t : Option Nat) : Option Nat := t.map (· - 1)
    ∃ t, step s = .next t ∧
      SameBut [.feed, .call, .bearers, .arbiter, .ringer, .test, .quietRun, .watch, .bus, .toneClock] s t ∧
      (∀ l : Line,
        t.feed[l] =
          { s.feed[l] with
            settle := s.feed[l].settle - 1
            blanking := match s.feed[l].blanking with
              | .left n => .left (n - 1)
              | b => b } ∧
        (s.call[l].state = .testing → t.call[l] = s.call[l]) ∧
        (s.call[l].state ≠ .testing → t.call[l] =
          { s.call[l] with
            timer := s.call[l].timer.map fun k => { k with left := k.left - 1 }
            preemptionTone := less s.call[l].preemptionTone })) ∧
      SameLink s t ∧ t.bearers.connection = s.bearers.connection ∧
      (∀ b : Bearer, t.bearer b = { s.bearer b with guard := less (s.bearer b).guard }) ∧
      t.arbiter =
        { s.arbiter with handover := s.arbiter.handover.map fun h => { h with left := h.left - 1 } } ∧
      t.ringer =
        { s.ringer with
          wheel := match s.ringer.wheel with
            | .stopped => .stopped
            | .running p n => .running p (n + 1) } ∧
      t.test = { s.test with session := s.test.session.map fun x => { x with timer := less x.timer } } ∧
      t.monitor =
        { s.monitor with
          quietTimer := less s.monitor.quietTimer, countdown := less s.monitor.countdown
          audit := less s.monitor.audit } ∧
      t.bus =
        { s.bus with
          gap := less s.bus.gap, readyTimer := less s.bus.readyTimer, lowTimer := s.bus.lowTimer.map (· + 1)
          pending := match s.bus.pending with
            | .none => .none
            | .waiting r n => .waiting r (n + 1)
            | .transmitting f n => .transmitting f (n - 1) } ∧
      t.toneClock = (s.toneClock + 1) % 1000) ∧
  (∀ s : State, s.pending = [] → s.inRestart = true →
    ∃ t, step s = .next t ∧ SameBut [.bus] s t ∧
      t.bus = { s.bus with lowTimer := s.bus.lowTimer.map (· + 1) })

/-- A full restart leaves the same values whatever went before it (R178), with its cause in the Restarted
report and the straps read as it ends (R163). The ready mark then needs 5 ms of high receive line: they begin
at once where the line is high, and where it is low the time for which it has been low runs instead (R169). A
bus break, on its command or once the line has been low for 50 ms, holds the part in restart, with the
attention output released, until the receive line returns high; a second break during it gives no second
restart (R169, R170; the 50 ms are those of steps with an empty queue: log entry 2, and what holds during the
break: log entry 16). The values are those of the spec's state tables; State.reset is the restart with cause
PowerOn of a part whose straps give address 0 and 9600 bit/s and whose receive line is high (the model's
choice: log entry 1). The digest is 0x12BF (11, section 11.5), the tone source starts at the first on-interval
of each cadence (R100), and the reset state is safe. -/
def Obligations.FullRestartLeavesResetValues : Prop :=
  (let restarted (a : Fin 4) (r : BusRate) (cause : Nat) (s : State) : State :=
      { State.reset with
        bus := { State.reset.bus with address := a, rate := r }
        strapPins := { address := a, rate := r }
        reports := { urgent := [{ kind := .restarted, value := some cause }] }
        pending := s.pending }
    ∀ (s : State) (a : Fin 4) (r : BusRate),
      let held (t : State) : Prop :=
        t.inRestart = true ∧ t.attention = false ∧ t.pending = s.pending ∧ exec .busBreak t = .next t ∧
          exec (.receiveLineHigh a r) t = .next (restarted a r 1 s)
      exec (.powerOn { address := a, rate := r } true) s = .next (restarted a r 0 s) ∧
      exec (.powerOn { address := a, rate := r } false) s = .next ((restarted a r 0 s).setBus
        { (restarted a r 0 s).bus with readyTimer := none, lowTimer := some 0 }) ∧
      (∀ d : Addressee, s.receives = true → exec (.restartFull d a r) s = .next (restarted a r 2 s)) ∧
      (s.inRestart = false → ∃ t, exec .busBreak s = .next t ∧ held t) ∧
      (∀ n, s.inRestart = false → s.pending = [] → s.bus.lowTimer = some n → 49 ≤ n →
        ∃ t, step s = .next t ∧ held t)) ∧
  ((∀ l : Line, State.reset.entries[l] = { enabled := false, profile := 0, cls := .standard, preemptible := false } ∧
        State.reset.sup[l] = {} ∧ State.reset.brk[l] = {} ∧ State.reset.feed[l] = {} ∧
        State.reset.call[l] = { state := .disabled }) ∧
      (∀ b : Bearer, State.reset.bearer b = {}) ∧ State.reset.bearers.linkUp = false ∧
      State.reset.monitor.quietTimer = some 60000 ∧ State.reset.monitor.audit = some 10000 ∧
      State.reset.monitor.reference = digest State.reset.tables ∧ digest State.reset.tables = 0x12BF ∧
      State.reset.reports.urgent = [{ kind := .restarted, value := some 0 }] ∧ State.reset.attention = true ∧
      State.reset.toneClock = 0 ∧ (∀ t : Tone, t.isOn 0 = true) ∧
      State.reset.bus.ready = false ∧ State.reset.bus.readyTimer = some 5 ∧ Safe State.reset)

/-! ## Invariants that every step keeps -/

/-- No step takes a report queue beyond its capacity (R172). -/
def Obligations.StepKeepsReportsBounded : Prop :=
  ∀ s t : State, ReportsBounded s → step s = .next t → ReportsBounded t

/-- No step takes a filtered current out of its range (R9), whatever a disturbance of storage has made of the
profiles. -/
def Obligations.StepKeepsFilterInRange : Prop :=
  ∀ s t : State, FilterInRange s → step s = .next t → FilterInRange t

/-- No step puts a ninth digit into an early-digit buffer, or leaves digits or a lost mark on a line that is
neither Waiting nor Seizing (R80). And no step unties the call records of the blocks from one another: lines
and bearers name each other in states that agree (R56, R58), the connection list is the Engaged bearers (R70),
the handover record is the bearer in Handover (R116), the arrival list is the Waiting and Seizing lines with
their standings (R106, R108), in Isolated service there is no such line (R96a, R120, R161), a line without an
enabled entry is Disabled or will be (R79, R99), the line under test is the session's (R99, R137), and with the
link Down every bearer is Absent (R64). -/
def Obligations.StepKeepsEarlyDigitsBounded : Prop :=
  ∀ s t : State,
    (EarlyDigitsBounded s → step s = .next t → EarlyDigitsBounded t) ∧
    (CallsTied s → step s = .next t → CallsTied t)

/-- No step puts more lines into a ring phase than the supply level's capacity (R125). And no step unties the ring
collections from the call states and the supply level, where the call records are tied (CallsTied): a Ringing line
has one place and no other line has any (7, section 7.1), at Critical no phase holds a line whose class is not
Priority (R125), and the wheel is Stopped exactly while no line is Ringing (R123). -/
def Obligations.StepKeepsPhasesInCapacity : Prop :=
  ∀ s t : State,
    (PhasesInCapacity s → step s = .next t → PhasesInCapacity t) ∧
    (CallsTied s → RingsTied s → step s = .next t → RingsTied t)

/-- No step leaves Quiet operation in force with the quiet condition failing (R158: an event that ends the
quiet condition also ends Quiet at that event). -/
def Obligations.StepKeepsQuietOnlyWhenIdle : Prop :=
  ∀ s t : State, QuietOnlyWhenIdle s → step s = .next t → QuietOnlyWhenIdle t

/-! ## Chapter 1: samples and decisions -/

/-- R8: on each sample that is not discarded, F moves by floor(D / 2^k) with D = 16·S − F, where S is the
converted current and k the filter shift of the line's profile as they stand at the sample's arrival. No other
line's supervision state changes. (Lean's division of integers by a positive number rounds toward minus
infinity.) -/
def Obligations.SampleMovesFilteredCurrent : Prop :=
  ∀ (s : State) (l : Line) (current : Int) (ringTrip : Bool),
    s.inRestart = false → s.call[l].state ≠ .disabled →
    ∃ t, exec (.senseSample l current ringTrip) s = .next t ∧
      (let S := max (-2048) (min 2047 current)
       t.sup[l].f = s.sup[l].f + (16 * S - s.sup[l].f) / ((2 ^ (s.profileOf l).k.toNat : Nat) : Int)) ∧
      ∀ m : Line, m ≠ l → t.sup[m] = s.sup[m]

/-- R9: the updated F lies between the old F and 16·S, both included; from above it falls by at least 1 until
it equals 16·S; from below it rises until it is less than 2^k below and then stays; with k = 0 it equals 16·S
after every sample; and it stays within −32768 to +32752. -/
def Obligations.FilterApproachesSample : Prop :=
  ∀ (k : Nat) (f S : Int),
    let g := filterUpdate k f S
    (f ≤ 16 * S → f ≤ g ∧ g ≤ 16 * S) ∧ (16 * S ≤ f → 16 * S ≤ g ∧ g ≤ f) ∧
    (16 * S < f → g + 1 ≤ f) ∧ (f + ((2 ^ k : Nat) : Int) ≤ 16 * S → f + 1 ≤ g) ∧
    (f ≤ 16 * S → 16 * S < f + ((2 ^ k : Nat) : Int) → g = f) ∧ (k = 0 → g = 16 * S) ∧
    (-2048 ≤ S → S ≤ 2047 → -32768 ≤ f → f ≤ 32752 → -32768 ≤ g ∧ g ≤ 32752)

/-- R4: a sample of a Disabled line is discarded. R12, R15, R27, R34: a sample of a timed line that arrives
while the line is blanked (its feed not presenting Ring) sets the three counts to 0 and keeps the hook state,
and its tick still advances the break count on-hook and the make count off-hook (what a count does that reaches
its end is in HookStateIsDebounced). R4, R140: a sample of a line under test moves the filter, keeps the hook
state and sets every count to 0 (the taken mark is Clear unless the line presents Ring: log entry 14). In a look
proper a converted current of at least T_on advances the look count, any other sets it to 0, and the second in
succession is the look's off-hook. -/
def Obligations.DiscardedAndBlankedSamples : Prop :=
  ∀ (s : State) (l : Line) (current : Int) (ringTrip : Bool), s.inRestart = false →
    (s.call[l].state = .disabled →
      ∃ t, exec (.senseSample l current ringTrip) s = .next t ∧ SameBut [.scanner, .quietRun] s t ∧
        t.scanner = { s.scanner with position := l + 1 }) ∧
    ((s.call[l].state = .waiting ∨ s.call[l].state = .seizing ∨ s.call[l].state = .connected) →
      s.feed[l].blanking ≠ .none → s.feed[l].current ≠ .ring →
      (∀ b, s.brk[l].breakCount = some b → b < 400) → (∀ m, s.brk[l].makeCount = some m → m < 149) →
      ∃ t, exec (.senseSample l current ringTrip) s = .next t ∧
        SameBut [.scanner, .sup, .brk, .quietRun] s t ∧ OtherLines l s t ∧
        t.sup[l].hook = s.sup[l].hook ∧ t.sup[l].hookCount = 0 ∧ t.sup[l].overCount = 0 ∧
        t.sup[l].foreignCount = 0 ∧ t.sup[l].ringTripCount = 0 ∧ t.sup[l].ringTripTaken = false ∧
        t.brk[l].pulses = s.brk[l].pulses ∧ t.brk[l].inDigit = s.brk[l].inDigit ∧
        (s.sup[l].hook = .onHook → t.brk[l].breakCount = s.brk[l].breakCount.map (· + 1) ∧
          t.brk[l].makeCount = s.brk[l].makeCount) ∧
        (s.sup[l].hook = .offHook → t.brk[l].makeCount = s.brk[l].makeCount.map (· + 1) ∧
          t.brk[l].breakCount = s.brk[l].breakCount)) ∧
    (s.call[l].state = .testing →
      let S := max (-2048) (min 2047 current)
      let p := s.profileOf l
      let v : State :=
        { s with
          scanner := { s.scanner with position := l + 1 }
          sup := s.sup.set l
            { f := s.sup[l].f + (16 * S - s.sup[l].f) / ((2 ^ p.k.toNat : Nat) : Int), hook := s.sup[l].hook
              ringTripTaken := s.sup[l].ringTripTaken && decide (s.feed[l].current = .ring) } }
      let counted (x : Session) (n : Nat) : Prop :=
        ∃ t, exec (.senseSample l current ringTrip) s = .next t ∧
          SameBut [.quietRun] { v with test := { s.test with session := some { x with lookCount := n } } } t
      (∀ x, s.test.session = some x → x.line = l → x.phase = .look → x.timer ≠ none →
        (S < (p.tOn.toNat : Int) → counted x 0) ∧
        ((p.tOn.toNat : Int) ≤ S → x.lookCount = 0 → counted x 1) ∧
        ((p.tOn.toNat : Int) ≤ S → x.lookCount ≠ 0 →
          exec (.senseSample l current ringTrip) s = exec .lookOffHook v)) ∧
      ((∀ x, s.test.session = some x → x.line = l → x.phase = .look → x.timer = none) →
        ∃ t, exec (.senseSample l current ringTrip) s = .next t ∧ SameBut [.quietRun] v t))

/-- R10, R11, R13: on a sample with indications formed outside blanking and no fault indication, an indication
that opposes the hook state advances the hook count, and changes the hook state and returns the count to 0
when the count reaches M; any other indication sets the count to 0. Thresholds with T_off below T_on, as every
profile that Set Profile accepts has them. R10 to R20, R27, R28, R34, R35: the whole treatment of a sample with
full supervision. The hook count and both fault counts advance by their indications and are 0 where none is
formed (blanked, or in Open or Ring feed); the ring-trip count advances on an Asserted reading in settled Ring
with the taken mark Clear. One decision at most follows: Overcurrent where its count has reached M (a count
beyond M has: log entry 13), else Foreign Battery, else the hook decision, else the ring-trip decision at 2. On a
timed line the tick comes after a hook or ring-trip decision and carries the new hook state: a break count that
reaches 401 is a clear, a make count that reaches 150 ends the digit. No tick follows a fault decision (the
model's choice: log entry 26). -/
def Obligations.HookStateIsDebounced : Prop :=
  (∀ (s : State) (l : Line) (current : Int) (ringTrip : Bool) (sigma : Int),
    s.inRestart = false → s.call[l].state ≠ .disabled → s.call[l].state ≠ .testing →
    s.feed[l].blanking = .none →
    ((s.feed[l].current = .standby ∨ s.feed[l].current = .active) ∧ sigma = 1 ∨
      s.feed[l].current = .reverse ∧ sigma = -1) →
    (s.profileOf l).tOff.toNat < (s.profileOf l).tOn.toNat →
    let p := s.profileOf l
    let F := filterUpdate p.k.toNat s.sup[l].f (max (-2048) (min 2047 current))
    let opposed : Prop :=
      s.sup[l].hook = .onHook ∧ 16 * (p.tOn.toNat : Int) ≤ sigma * F ∨
        s.sup[l].hook = .offHook ∧ sigma * F ≤ 16 * (p.tOff.toNat : Int)
    F.natAbs < 16 * p.tOver.toNat → -(16 * (p.tOn.toNat : Int)) < sigma * F →
    ∃ t, exec (.senseSample l current ringTrip) s = .next t ∧
      (¬opposed → t.sup[l].hook = s.sup[l].hook ∧ t.sup[l].hookCount = 0) ∧
      (opposed → s.sup[l].hookCount + 1 < p.m.toNat →
        t.sup[l].hook = s.sup[l].hook ∧ t.sup[l].hookCount = s.sup[l].hookCount + 1) ∧
      (opposed → s.sup[l].hookCount + 1 = p.m.toNat →
        t.sup[l].hook ≠ s.sup[l].hook ∧ t.sup[l].hookCount = 0)) ∧
  (∀ (s : State) (l : Line) (current : Int) (ringTrip : Bool),
    s.inRestart = false → s.call[l].state ≠ .disabled → s.call[l].state ≠ .testing →
    (s.profileOf l).tOff.toNat < (s.profileOf l).tOn.toNat → 1 ≤ (s.profileOf l).m.toNat →
    let p := s.profileOf l
    let x := s.sup[l]
    let feed := s.feed[l]
    let F := filterUpdate p.k.toNat x.f (max (-2048) (min 2047 current))
    let E := (if feed.current = .reverse then -1 else 1) * F
    let formed : Bool := decide (feed.blanking = .none ∧ feed.current ≠ .openLoop ∧ feed.current ≠ .ring)
    let opposed : Bool := decide
      (x.hook = .onHook ∧ 16 * (p.tOn.toNat : Int) ≤ E ∨ x.hook = .offHook ∧ E ≤ 16 * (p.tOff.toNat : Int))
    let hooks := if formed = true ∧ opposed = true then x.hookCount + 1 else 0
    let overs := if formed = true ∧ 16 * p.tOver.toNat ≤ F.natAbs then x.overCount + 1 else 0
    let foreigns := if formed = true ∧ E ≤ -(16 * (p.tOn.toNat : Int)) then x.foreignCount + 1 else 0
    let trips :=
      if feed.current = .ring ∧ feed.settling = false ∧ x.ringTripTaken = false ∧ ringTrip = true then
        x.ringTripCount + 1
      else 0
    let v : State :=
      { s with
        scanner := { s.scanner with position := l + 1 }
        sup := s.sup.set l
          { f := F, hook := x.hook, hookCount := hooks, overCount := overs, foreignCount := foreigns
            ringTripCount := trips, ringTripTaken := x.ringTripTaken && decide (feed.current = .ring) } }
    let sampled := exec (.senseSample l current ringTrip) s
    let timed : Prop :=
      s.call[l].state = .waiting ∨ s.call[l].state = .seizing ∨ s.call[l].state = .connected
    let ticked (w t : State) : Prop :=
      let b := w.brk[l]
      let ends (limit : Nat) (count : Option Nat) (c : Instr) (y : State) : Prop :=
        (∀ n, count = some n → limit ≤ n + 1 → ∃ z, exec c y = .next z ∧ SameBut [.quietRun] z t) ∧
          ((∀ n, count = some n → n + 1 < limit) → SameBut [.quietRun] y t)
      (w.sup[l].hook = .onHook → ends 401 b.breakCount (.clearDecision l)
        { w with brk := w.brk.set l { b with breakCount := b.breakCount.map (· + 1) } }) ∧
      (w.sup[l].hook = .offHook → ends 150 b.makeCount (.digitEnd l)
        { w with brk := w.brk.set l { b with makeCount := b.makeCount.map (· + 1) } })
    let decides (c : Instr) : Prop :=
      (¬timed → sampled = exec c v) ∧
        (timed → ∃ w, exec c v = .next w ∧ ∃ t, sampled = .next t ∧ ticked w t)
    (p.m.toNat ≤ overs → sampled = exec (.overcurrentDecision l) v) ∧
    (overs < p.m.toNat → p.m.toNat ≤ foreigns → sampled = exec (.foreignBatteryDecision l) v) ∧
    (overs < p.m.toNat → foreigns < p.m.toNat →
      (p.m.toNat ≤ hooks → decides (.hookDecision l)) ∧
      (hooks < p.m.toNat → 2 ≤ trips → decides (.ringTripDecision l)) ∧
      (hooks < p.m.toNat → trips < 2 →
        ∃ t, sampled = .next t ∧ (timed → ticked v t) ∧ (¬timed → SameBut [.quietRun] v t))))

/-! ## Chapter 2: hook decisions on a timed line, clears and digits -/

/-- R26, R29 to R33: an OnHook decision on a timed line begins a break; an OffHook decision ends it, and the
break is a glitch, a pulse, invalid or a flash by its count. Only a flash of a Connected line, on a profile
that allows flashes, is reported (R86). An OffHook decision where no break is timed leaves the break timing as it
is (R24, R29). R14, R94, R158: a hook decision that means nothing in the line's state
(OnHook on an Idle or Ringing line, OffHook on a line in Lockout, either on a Faulted line) changes the hook
state and ends Quiet operation, and does nothing else. (OffHook on an Idle line is in OffHookJoins, on a Ringing
line in RingingEnds, OnHook in Lockout in LockoutRunsItsCourse; on a Disabled line or one under test no decision
is taken: log entry 4.) -/
def Obligations.HookDecisionTimesBreaks : Prop :=
  (∀ (s : State) (l : Line),
    (s.call[l].state = .waiting ∨ s.call[l].state = .seizing ∨ s.call[l].state = .connected) →
    (s.sup[l].hook = .offHook →
      ∃ t, exec (.hookDecision l) s = .next t ∧ SameBut [.sup, .brk, .quietRun] s t ∧ OtherLines l s t ∧
        t.monitor.quiet = false ∧ t.sup[l] = { s.sup[l] with hook := .onHook, hookCount := 0 } ∧
        t.brk[l] = { s.brk[l] with breakCount := some 0 }) ∧
    (∀ b, s.sup[l].hook = .onHook → s.brk[l].breakCount = some b → b ≤ 400 →
      ∃ t, exec (.hookDecision l) s = .next t ∧ SameBut [.sup, .brk, .reports, .quietRun] s t ∧
        OtherLines l s t ∧ t.monitor.quiet = false ∧
        t.sup[l] = { s.sup[l] with hook := .offHook, hookCount := 0 } ∧
        (b ≤ 9 → t.brk[l] = { s.brk[l] with breakCount := none }) ∧
        (10 ≤ b → b ≤ 60 → t.brk[l] =
          { breakCount := none, makeCount := some 0, inDigit := true
            pulses := if s.brk[l].pulses < 11 then s.brk[l].pulses + 1 else s.brk[l].pulses }) ∧
        (61 ≤ b → t.brk[l] = {}) ∧
        t.reports =
          if 125 ≤ b ∧ (s.profileOf l).flags.getLsbD 0 = true ∧ s.call[l].state = .connected then
            s.reports.append (s.urgentFor l) { kind := .flash, line := some l, bearer := s.call[l].bearer }
          else s.reports) ∧
    (s.sup[l].hook = .onHook → s.brk[l].breakCount = none →
      ∃ t, exec (.hookDecision l) s = .next t ∧ SameBut [.sup, .quietRun] s t ∧ OtherLines l s t ∧
        t.monitor.quiet = false ∧ t.sup[l] = { s.sup[l] with hook := .offHook, hookCount := 0 })) ∧
  (∀ (s : State) (l : Line),
    (s.call[l].state = .faulted ∨
        (s.call[l].state = .idle ∨ s.call[l].state = .ringing) ∧ s.sup[l].hook = .offHook ∨
        s.call[l].state = .lockout ∧ s.sup[l].hook = .onHook →
      ∃ t, exec (.hookDecision l) s = .next t ∧ SameBut [.sup, .quietRun] s t ∧ OtherLines l s t ∧
        t.monitor.quiet = false ∧ t.sup[l].hook ≠ s.sup[l].hook ∧
        t.sup[l] = { s.sup[l] with hook := t.sup[l].hook, hookCount := 0 }) ∧
    (s.call[l].state = .disabled ∨ s.call[l].state = .testing →
      ∃ t, exec (.hookDecision l) s = .next t ∧ SameBut [.quietRun] s t))

/-- R28, R82, R83, R86, R60, R118: a clear on a Waiting line leaves no trace; on a Seizing or Connected line
the bearer goes to Clearing with its guard, and a Withdraw or Clear report is queued; during a handover the
report is Release with cause Preempted, the handover ends, and the Priority reconsideration is made (R119;
HandoverEndsInSeize says what it does), which does nothing where no other Priority line waits. The line
becomes Idle, heads for Standby, leaves the arrival list, and its break timing is at rest. -/
def Obligations.ClearEndsCall : Prop :=
  ∀ (s : State) (l : Line), s.brk[l].breakCount ≠ none →
    (s.call[l].state = .waiting →
      ∃ t, exec (.clearDecision l) s = .next t ∧ SameBut [.brk, .feed, .call, .arbiter, .quietRun] s t ∧
        OtherLines l s t ∧ t.call[l] = { state := .idle } ∧ t.brk[l] = {} ∧
        t.feed[l] = s.feed[l].callTarget .standby ∧
        t.arbiter = { s.arbiter with arrivals := s.arbiter.arrivals.filter fun a => a.line ≠ l }) ∧
    (∀ b, s.call[l].bearer = some b → (s.bearer b).line = some l →
      (s.call[l].state = .seizing ∧ (s.bearer b).state = .held ∨
        s.call[l].state = .connected ∧ (s.bearer b).state = .engaged) →
      s.arbiter.handover.map Handover.bearer ≠ some b →
      ∃ t, exec (.clearDecision l) s = .next t ∧
        SameBut [.brk, .feed, .call, .bearers, .arbiter, .reports, .quietRun] s t ∧ OtherLines l s t ∧
        OtherBearers b s t ∧ SameLink s t ∧ t.call[l] = { state := .idle } ∧ t.brk[l] = {} ∧
        t.feed[l] = s.feed[l].callTarget .standby ∧ t.bearer b = s.clearingRecord b l ∧
        t.bearers.connection = s.bearers.connection.filter (fun x => x ≠ b) ∧
        t.arbiter = { s.arbiter with arrivals := s.arbiter.arrivals.filter fun a => a.line ≠ l } ∧
        t.reports = s.reports.append (s.urgentFor l)
          { kind := if s.call[l].state = .seizing then .withdraw else .clear, line := some l, bearer := some b }) ∧
    (∀ b left, s.call[l].state = .seizing → s.call[l].bearer = some b → (s.bearer b).line = some l →
      (s.bearer b).state = .handover → s.arbiter.handover = some { bearer := b, line := l, left := left } →
      let v : State :=
        { s with
          call := s.call.set l { state := .idle }
          brk := s.brk.set l {}
          feed := s.feed.set l (s.feed[l].callTarget .standby)
          bearers :=
            { s.bearers with
              recs := s.bearers.recs.set b (s.clearingRecord b l)
              connection := s.bearers.connection.filter fun x => x ≠ b }
          arbiter :=
            { s.arbiter with
              arrivals := s.arbiter.arrivals.filter fun a => a.line ≠ l
              handover := none }
          reports := s.reports.append (s.urgentFor l)
            { kind := .release, line := some l, bearer := some b, value := some 3 } }
      ∃ t, exec (.clearDecision l) s = .next t ∧ SameBut [.quietRun] (reconsider v) t ∧
        ((∀ a ∈ s.arbiter.arrivals, a.line ≠ l → a.standing = .waiting → a.cls ≠ .priority) →
          SameBut [.quietRun] v t))

/-- R35, R80, R86: at digit end the pulses give a digit of 1 to 9, or 0 for ten, or nothing for more than ten;
a Connected line's digit is reported, a Waiting or Seizing line's is appended to the early-digit buffer, or
lost once the buffer holds 8. -/
def Obligations.DigitEndHandsDigit : Prop :=
  ∀ (s : State) (l : Line),
    (s.call[l].state = .waiting ∨ s.call[l].state = .seizing ∨ s.call[l].state = .connected) →
    s.brk[l].makeCount ≠ none → 1 ≤ s.brk[l].pulses →
    ∃ t, exec (.digitEnd l) s = .next t ∧ SameBut [.brk, .call, .reports, .quietRun] s t ∧ OtherLines l s t ∧
      t.brk[l] = { s.brk[l] with makeCount := none, pulses := 0, inDigit := false } ∧
      (11 ≤ s.brk[l].pulses → t.call[l] = s.call[l] ∧ t.reports = s.reports) ∧
      (s.brk[l].pulses ≤ 10 →
        let v := s.brk[l].pulses % 10
        (s.call[l].state = .connected → t.call[l] = s.call[l] ∧
          t.reports = s.reports.append (s.urgentFor l)
            { kind := .digit, line := some l, bearer := s.call[l].bearer, value := some v }) ∧
        (s.call[l].state ≠ .connected → t.reports = s.reports ∧
          t.call[l] =
            if s.call[l].early.length < 8 then { s.call[l] with early := s.call[l].early ++ [v] }
            else { s.call[l] with lost := true }))

/-! ## Chapters 1 and 6: off-hook, joining and preemption -/

/-- R81, R107, R82a, R105: an OffHook decision on an Idle line outside Isolated service joins the line and
grants it the lowest-numbered bearer it is eligible for, in the same event: the bearer is Held for it, the
Seize report carries its class, and the answer timer starts. With no bearer it is eligible for, a line waits,
hearing the Wait tone, at the tail of the wait list, if it is not of class Priority, or if a handover is in flight
or no call may be preempted (R113; otherwise PriorityLinePreempts). While the unit is Isolated
the line goes to Lockout with the Isolation tone and joins nothing (R95, R120). -/
def Obligations.OffHookJoins : Prop :=
  (∀ (s : State) (l : Line) (b : Bearer),
      s.call[l].state = .idle → s.sup[l].hook = .onHook → s.monitor.isolated = false →
      (∀ a ∈ s.arbiter.arrivals, a.line ≠ l) → (s.bearer b).line = none →
      (s.bearer b).state = .idle → inSet (s.tables.classMap.set (s.classOf l)) b = true →
      s.supply.level.admits (s.classOf l) = true →
      (∀ c : Bearer, c < b → (s.bearer c).state ≠ .idle ∨ inSet (s.tables.classMap.set (s.classOf l)) c = false) →
      ∃ t, exec (.hookDecision l) s = .next t ∧
        SameBut [.sup, .brk, .feed, .call, .bearers, .arbiter, .reports, .quietRun] s t ∧ OtherLines l s t ∧
        OtherBearers b s t ∧ SameLink s t ∧ t.bearers.connection = s.bearers.connection ∧
        t.sup[l] = { s.sup[l] with hook := .offHook, hookCount := 0 } ∧ t.brk[l] = {} ∧
        t.feed[l] = s.feed[l].callTarget .active ∧
        t.call[l] =
          { state := .seizing, bearer := some b, early := s.call[l].early, lost := s.call[l].lost
            timer := some { kind := .answer, left := 1000 * s.tables.timers.answer.toNat } } ∧
        t.bearer b = { s.bearer b with state := .held, line := some l } ∧
        t.arbiter =
          { s.arbiter with
            arrivals := s.arbiter.arrivals ++ [{ line := l, cls := s.classOf l, standing := .seizing }] } ∧
        t.reports = s.reports.append (s.urgentFor l)
          { kind := .seize, line := some l, bearer := some b, value := some (s.classOf l).code }) ∧
  (∀ (s : State) (l : Line),
      s.call[l].state = .idle → s.sup[l].hook = .onHook →
      (s.monitor.isolated = false → (∀ b : Bearer, s.eligible (s.classOf l) b = false) →
        s.classOf l ≠ .priority ∨ s.arbiter.handover ≠ none ∨
          (∀ c ∈ s.bearers.connection, ∀ m, (s.bearer c).line = some m →
            s.entries[m].preemptible = false ∨ s.classOf m = .priority) →
        ∃ t, exec (.hookDecision l) s = .next t ∧ SameBut [.sup, .brk, .feed, .call, .arbiter, .quietRun] s t ∧
          OtherLines l s t ∧ t.sup[l] = { s.sup[l] with hook := .offHook, hookCount := 0 } ∧
          t.feed[l] = s.feed[l].callTarget .active ∧
          t.call[l] =
            { state := .waiting, path := .tone .wait, early := s.call[l].early, lost := s.call[l].lost
              timer := some { kind := .wait, left := 1000 * s.tables.timers.wait.toNat } } ∧
          t.arbiter =
            { s.arbiter with
              arrivals := s.arbiter.arrivals ++ [{ line := l, cls := s.classOf l, standing := .waiting }] }) ∧
      (s.monitor.isolated = true →
        ∃ t, exec (.hookDecision l) s = .next t ∧ SameBut [.sup, .brk, .feed, .call, .arbiter, .quietRun] s t ∧
          OtherLines l s t ∧ t.sup[l] = { s.sup[l] with hook := .offHook, hookCount := 0 } ∧
          t.feed[l] = s.feed[l].callTarget .active ∧ t.call[l] = s.lockedOut .isolated ∧
          t.arbiter = { s.arbiter with arrivals := s.arbiter.arrivals.filter fun a => a.line ≠ l }))

/-- R113 to R115, R95: a Priority line that goes off-hook with no eligible Idle bearer, no handover being in
flight, takes the bearer of the first call of the connection list that may be preempted. The victim goes to
Lockout with the Preemption tone and an urgent Preempted report, and goes on to Idle in the same event if it is
on-hook, with the report standing (the two targets of its feed: log entry 9). The bearer passes to the Priority
line in Handover, with 500 ms to run, and neither Seize report nor answer timer yet. -/
def Obligations.PriorityLinePreempts : Prop :=
  ∀ (s : State) (p v : Line) (b : Bearer) (older younger : List Bearer),
    s.call[p].state = .idle → s.sup[p].hook = .onHook → s.monitor.isolated = false →
    s.classOf p = .priority → (∀ c : Bearer, s.eligible .priority c = false) → s.arbiter.handover = none →
    s.bearers.connection = older ++ b :: younger → b ∉ older →
    (∀ c ∈ older, ∀ m, (s.bearer c).line = some m → s.entries[m].preemptible = false ∨ s.classOf m = .priority) →
    (s.bearer b).line = some v → s.entries[v].preemptible = true → s.classOf v ≠ .priority →
    s.call[v].state = .connected →
    let joined : List Arrival := s.arbiter.arrivals ++ [{ line := p, cls := .priority, standing := .waiting }]
    ∃ t, exec (.hookDecision p) s = .next t ∧
      SameBut [.sup, .brk, .feed, .call, .bearers, .arbiter, .reports, .quietRun] s t ∧
      (∀ m : Line, m ≠ p → m ≠ v → t.call[m] = s.call[m] ∧ t.feed[m] = s.feed[m] ∧ t.brk[m] = s.brk[m]) ∧
      (∀ m : Line, m ≠ p → t.sup[m] = s.sup[m]) ∧ OtherBearers b s t ∧ SameLink s t ∧
      t.sup[p] = { s.sup[p] with hook := .offHook, hookCount := 0 } ∧ t.brk[p] = {} ∧ t.brk[v] = {} ∧
      (s.sup[v].hook = .offHook →
        t.call[v] = s.lockedOut .preempted ∧ t.feed[v] = s.feed[v].callTarget .active) ∧
      (s.sup[v].hook = .onHook →
        t.call[v] = { state := .idle } ∧ t.feed[v] = (s.feed[v].callTarget .active).callTarget .standby) ∧
      t.reports = s.reports.append true { kind := .preempted, line := some v, bearer := some b } ∧
      t.bearer b = { s.bearer b with state := .handover, line := some p, formerLine := some v } ∧
      t.bearers.connection = s.bearers.connection.filter (fun c => c ≠ b) ∧
      t.call[p] = { state := .seizing, bearer := some b, early := s.call[p].early, lost := s.call[p].lost } ∧
      t.feed[p] = s.feed[p].callTarget .active ∧
      t.arbiter =
        { s.arbiter with
          arrivals := (joined.map fun a =>
            if a.line = p then { a with standing := .seizing } else a).filter fun a => a.line ≠ v
          handover := some { bearer := b, line := p, left := 500 } }

/-- R117, R82a: when the handover's time runs out its bearer becomes Held for the Priority line, whose Seize
report is queued and whose answer timer starts at that moment; the handover record becomes none, and the
Priority reconsideration is made. R119: the reconsideration serves the waiting Priority lines in turn. With no
such line it does nothing. As long as the first of them has an eligible bearer it is granted the
lowest-numbered one and the reconsideration goes on from there. Once none is eligible, the first line takes the
Priority step (R113): a handover in flight, or no call that may be preempted, leaves it waiting; otherwise it
takes the bearer of the first call of the connection list that may be preempted into Handover (R114, R115); a victim
that is on-hook goes on to Idle (R95; the two targets of its feed: log entry 9). -/
def Obligations.HandoverEndsInSeize : Prop :=
  (∀ (s : State) (p : Line) (b : Bearer) (left : Nat),
    s.arbiter.handover = some { bearer := b, line := p, left := left } →
    s.call[p].state = .seizing → s.call[p].bearer = some b → (s.bearer b).state = .handover →
    (s.bearer b).line = some p →
    let v : State :=
      { s with
        call := s.call.set p
          { state := .seizing, bearer := some b, early := s.call[p].early, lost := s.call[p].lost
            timer := some { kind := .answer, left := 1000 * s.tables.timers.answer.toNat } }
        bearers := { s.bearers with recs := s.bearers.recs.set b { s.bearer b with state := .held } }
        arbiter := { s.arbiter with handover := none }
        reports := s.reports.append (s.urgentFor p)
          { kind := .seize, line := some p, bearer := some b, value := some (s.classOf p).code } }
    ∃ t, exec .handoverExpiry s = .next t ∧ SameBut [.quietRun] (reconsider v) t ∧
      ((∀ a ∈ s.arbiter.arrivals, a.standing = .waiting → a.cls ≠ .priority) → SameBut [.quietRun] v t)) ∧
  (∀ s : State, (s.arbiter.arrivals.map Arrival.line).Nodup →
    let first : Option Line :=
      (s.arbiter.arrivals.find? fun a => decide (a.standing = .waiting ∧ a.cls = .priority)).map Arrival.line
    (first = none → reconsider s = s) ∧
    (∀ p, first = some p →
      (∀ b : Bearer, s.eligible .priority b = true → (∀ c : Bearer, c < b → s.eligible .priority c = false) →
        reconsider s = reconsider (grantBearer p b s)) ∧
      ((∀ c : Bearer, s.eligible .priority c = false) →
        (s.arbiter.handover ≠ none → reconsider s = s) ∧
        ((∀ c ∈ s.bearers.connection, ∀ m, (s.bearer c).line = some m →
            s.entries[m].preemptible = false ∨ s.classOf m = .priority) → reconsider s = s) ∧
        (∀ (older younger : List Bearer) (b : Bearer) (v : Line), s.arbiter.handover = none →
          s.bearers.connection = older ++ b :: younger → b ∉ older →
          (∀ c ∈ older, ∀ m, (s.bearer c).line = some m →
            s.entries[m].preemptible = false ∨ s.classOf m = .priority) →
          (s.bearer b).line = some v → s.entries[v].preemptible = true → s.classOf v ≠ .priority →
          s.call[v].state = .connected → s.call[p].state = .waiting →
          let t := reconsider s
          SameBut [.brk, .feed, .call, .bearers, .arbiter, .reports] s t ∧
            (∀ m : Line, m ≠ p → m ≠ v → t.call[m] = s.call[m]) ∧
            (∀ m : Line, m ≠ v → t.feed[m] = s.feed[m] ∧ t.brk[m] = s.brk[m]) ∧
            OtherBearers b s t ∧ SameLink s t ∧ t.brk[v] = {} ∧
            (s.sup[v].hook = .offHook →
              t.call[v] = s.lockedOut .preempted ∧ t.feed[v] = s.feed[v].callTarget .active) ∧
            (s.sup[v].hook = .onHook →
              t.call[v] = { state := .idle } ∧
                t.feed[v] = (s.feed[v].callTarget .active).callTarget .standby) ∧
            t.reports = s.reports.append true { kind := .preempted, line := some v, bearer := some b } ∧
            t.bearer b = { s.bearer b with state := .handover, line := some p, formerLine := some v } ∧
            t.bearers.connection = s.bearers.connection.filter (fun c => c ≠ b) ∧
            t.call[p] =
              { state := .seizing, bearer := some b, early := s.call[p].early, lost := s.call[p].lost } ∧
            t.arbiter =
              { s.arbiter with
                arrivals := (s.arbiter.arrivals.map fun a =>
                  if a.line = p then { a with standing := .seizing } else a).filter fun a => a.line ≠ v
                handover := some { bearer := b, line := p, left := 500 } }))))

/-- R109: the choice for a freed bearer. The oldest eligible Priority waiter takes it and the pointer stays;
otherwise the phases are walked from the pointer, and at the first whose class has an eligible waiter the
oldest of them takes it and the pointer becomes the phase after; otherwise nothing changes. A phase whose byte
names no class, as only a disturbance of storage leaves one, is passed over (the model's choice: log entry 13).
The bearer that a request frees is handed to this choice in the same event, with whatever lines wait: R68
(Release Acknowledge), R67 (Unbar), R65 (Bearer Check, the confirmed bearers in ascending order), R85, R87 and
R94 (Refuse and Release, after the line's own change), R104 (Set Class Map, every Idle bearer). What a supply
rise does is in SupplySampleSetsLevel. -/
def Obligations.FreedBearerGoesByTurns : Prop :=
  (∀ (s : State) (b : Bearer),
    let oldest (c : Machine.Class) : Option Line :=
      if s.eligible c b = true then
        (s.arbiter.arrivals.find? fun a => decide (a.standing = .waiting ∧ a.cls = c)).map Arrival.line
      else none
    let turn (k : Nat) : Option Line :=
      match classOfCode (s.tables.phaseTable[s.arbiter.pointer + Fin.ofNat 8 k]).toNat with
      | some c => oldest c
      | none => none
    (∀ l, oldest .priority = some l → freedRun b s = grantBearer l b s) ∧
    (∀ k l, oldest .priority = none → k < 8 → (∀ j, j < k → turn j = none) → turn k = some l →
      freedRun b s =
        grantBearer l b (s.setArbiter { s.arbiter with pointer := s.arbiter.pointer + Fin.ofNat 8 k + 1 })) ∧
    (oldest .priority = none → (∀ k, k < 8 → turn k = none) → freedRun b s = s)) ∧
  (∀ s : State, s.receives = true →
    let u := s.atRequest
    let gives (c : Instr) (r : Reply) (v : State) : Prop :=
      ∃ t, exec c s = .next t ∧ SameBut [.bus, .quietRun] v t ∧ Replied r s t
    (∀ b : Bearer,
      let bearer : Byte := BitVec.ofNat 8 b.val
      ((s.bearer b).state = .clearing → (s.bearer b).line = none → (s.bearer b).barPending = false →
        gives (.releaseAcknowledge .unit bearer) .accepted
          (freedRun b (u.setBearer b { s.bearer b with state := .idle, guard := none }))) ∧
      ((s.bearer b).state = .barred →
        gives (.unbar .unit bearer) .accepted (freedRun b (u.setBearer b { s.bearer b with state := .idle }))) ∧
      ∀ l : Line, s.call[l].bearer = some b → (s.bearer b).line = some l → (s.bearer b).barPending = false →
        let line : Byte := BitVec.ofNat 8 l.val
        let free := (u.setBearer b (s.freedRecord b l)).setConnection
          (s.bearers.connection.filter fun x => x ≠ b)
        (s.call[l].state = .seizing → (s.bearer b).state = .held →
          gives (.refuse .unit line bearer) .accepted (freedRun b (enterLockout l .congestion free)) ∧
          gives (.release .unit line bearer) .accepted (freedRun b (enterLockout l .congestion free))) ∧
        (s.call[l].state = .connected → (s.bearer b).state = .engaged →
          gives (.release .unit line bearer) .accepted (freedRun b (match s.sup[l].hook with
            | .offHook => enterLockout l .released free
            | .onHook => goIdle l free))) ∧
        (s.call[l].state = .ringing → (s.bearer b).state = .reserved →
          gives (.release .unit line bearer) .accepted (freedRun b (goIdle l free)))) ∧
    (∀ set : Word16, set.toNat < 4096 → s.bearers.linkUp = true →
      (∀ b : Bearer, set.getLsbD b = true → (s.bearer b).state = .unchecked →
        (s.bearer b).line = none ∧ (s.bearer b).barPending = false ∧ (s.bearer b).guard = none) →
      let confirmed := allBearers.filter fun b : Bearer =>
        set.getLsbD b.val && decide ((s.bearer b).state = .unchecked)
      gives (.bearerCheck .unit set) (.data [BitVec.ofNat 8 confirmed.length])
        (confirmed.foldl (fun v b => freedRun b v)
          (confirmed.foldl (fun v b => v.setBearer b { s.bearer b with state := .idle }) u))) ∧
    (∀ a b c e : Word16, a.toNat < 4096 → b.toNat < 4096 → c.toNat < 4096 → e.toNat < 4096 →
      let tables : Tables :=
        { s.tables with classMap := { s.tables.classMap with standard := b, economy := c, alarm := e } }
      gives (.setClassMap .unit a b c e) (if a = 0x0FFF then .accepted else .clamped)
        ((allBearers.filter fun b : Bearer => decide ((s.bearer b).state = .idle)).foldl
          (fun v b => freedRun b v)
          { u with tables := tables, monitor := { u.monitor with reference := digest tables } })))

/-! ## Chapter 3: the feed -/

/-- R44, R43, R46: when the settle of a line on the call side runs out, the transition ends with 10 ms of
blanking if the target is reached, and otherwise the next step is driven with a new 20 ms settle. The end of
the blanking remainder makes it None. -/
def Obligations.SettleEndsOrSteps : Prop :=
  ∀ (s : State) (l : Line),
    (s.feed[l].settling = true → s.feed[l].control = .callSide →
      ∃ t, exec (.settleEnd l) s = .next t ∧ SameBut [.feed, .quietRun] s t ∧ OtherLines l s t ∧
        (s.feed[l].current = s.feed[l].target →
          t.feed[l] = { s.feed[l] with settling := false, settle := 0, blanking := .left 10 }) ∧
        (s.feed[l].current ≠ s.feed[l].target →
          t.feed[l] =
            { s.feed[l] with
              current := routeStep s.feed[l].current s.feed[l].target
              settling := true, settle := 20, blanking := .inTransition })) ∧
    (∀ n, s.feed[l].blanking = .left n →
      ∃ t, exec (.blankingEnd l) s = .next t ∧ SameBut [.feed] s t ∧ OtherLines l s t ∧
        t.feed[l] = { s.feed[l] with blanking := .none })

/-- R42, R43, R45: a target taken while a step settles only replaces the target; a Steady line whose feed
already presents it is left alone; otherwise the line reaches the target by one settle, or by two with
Standby between when the target or the present mode, but not the other end, is Ring, so that ringing is never
switched directly onto or off a talking feed. R39, R54: the feed mode output of a line carries the code of its
current feed mode, 0 for Open to 4 for Ring, and the ring generator enable output is asserted exactly while
some line presents Ring. R42, R50: a target of the call side is taken so while control is Call side, and only
recorded as the held target while the Test Unit has control; a Ring target is taken only for a Ringing line whose
control is Call side, and otherwise ignored. -/
def Obligations.TargetIsReachedByItsRoute : Prop :=
  (∀ (f : Feed) (m : FeedMode),
    (f.settling = true → f.take m = { f with target := m }) ∧
    (f.settling = false → f.current = m → f.take m = { f with target := m }) ∧
    (f.settling = false → f.current ≠ m →
      let g := f.take m
      g.settling = true ∧ g.settle = 20 ∧ g.blanking = .inTransition ∧ g.target = m ∧
        (g.current = m → ((f.current = .ring ∨ m = .ring) → f.current = .standby ∨ m = .standby) ∧
          g.settleEnd.settling = false ∧ g.settleEnd.current = m) ∧
        (g.current ≠ m → g.current = .standby ∧ (f.current = .ring ∨ m = .ring) ∧
          g.settleEnd.settling = true ∧ g.settleEnd.settle = 20 ∧ g.settleEnd.current = m ∧
          g.settleEnd.settleEnd.settling = false ∧ g.settleEnd.settleEnd.current = m)) ∧
    (f.control = .callSide → f.callTarget m = f.take m) ∧
    (f.control = .testUnit → f.callTarget m = { f with held := some m }) ∧
    ∀ st : CallState,
      (f.control = .callSide → st = .ringing → f.ringTarget st = f.take .ring) ∧
      (f.control = .testUnit ∨ st ≠ .ringing → f.ringTarget st = f)) ∧
  (∀ s : State,
    (s.ringEnable = true ↔ ∃ l : Line, s.feed[l].current = .ring) ∧
    ∀ l : Line, s.feedPins l = (match s.feed[l].current with
      | .openLoop => 0
      | .standby => 1
      | .active => 2
      | .reverse => 3
      | .ring => 4))

/-! ## Chapter 4: the link and the bearers -/

/-- R63: Link State Up. -/
def Obligations.LinkUpBringsBearersIn : Prop :=
  ∀ (s : State) (count : Byte), s.receives = true →
    let u := s.atRequest
    ∃ t, exec (.linkStateUp .unit count) s = .next t ∧ SameBut [.bearers, .bus, .quietRun] u t ∧
      (count.toNat < 1 ∨ 12 < count.toNat → t.bearers = s.bearers ∧ Replied (.refused .outOfRange) s t) ∧
      (1 ≤ count.toNat → count.toNat ≤ 12 → s.bearers.linkUp = true →
        t.bearers = s.bearers ∧ Replied (.refused .wrongState) s t) ∧
      (1 ≤ count.toNat → count.toNat ≤ 12 → s.bearers.linkUp = false →
        Replied .accepted s t ∧ t.bearers.linkUp = true ∧ t.bearers.inService = some count.toNat ∧
          t.bearers.connection = s.bearers.connection ∧
          ∀ b : Bearer,
            (b.val < count.toNat →
              t.bearer b = { state := .unchecked, formerLine := (s.bearer b).formerLine }) ∧
            (count.toNat ≤ b.val → t.bearer b = s.bearer b))

/-- R64: Link State Down. -/
def Obligations.LinkDownEndsItsCalls : Prop :=
  ∀ (s : State) (count : Byte), s.receives = true →
    let u := s.atRequest
    (s.bearers.linkUp = false →
      ∃ t, exec (.linkStateDown .unit count) s = .next t ∧ SameBut [.bus, .quietRun] u t ∧
        Replied .accepted s t) ∧
    (s.bearers.linkUp = true →
      ∃ t, exec (.linkStateDown .unit count) s = .next t ∧ Replied .accepted s t ∧
        SameBut [.brk, .feed, .call, .bearers, .arbiter, .ringer, .bus, .quietRun] u t ∧
        t.bearers.linkUp = false ∧ t.bearers.inService = none ∧ t.bearers.connection = [] ∧
        (∀ b : Bearer, t.bearer b =
          { state := .absent
            formerLine := match (s.bearer b).line with
              | some l => some l
              | none => (s.bearer b).formerLine }) ∧
        t.arbiter.handover = none ∧ t.arbiter.pointer = s.arbiter.pointer ∧
        ∀ l : Line,
          (s.call[l].state = .connected → s.sup[l].hook = .offHook → t.call[l] = s.lockedOut .released) ∧
          (s.call[l].state = .connected → s.sup[l].hook = .onHook → t.call[l] = { state := .idle }) ∧
          (s.call[l].state = .seizing → s.sup[l].hook = .offHook → t.call[l] = s.lockedOut .congestion) ∧
          (s.call[l].state = .ringing → t.call[l] = { state := .idle } ∧ t.ringPlace l = none) ∧
          (s.call[l].state ≠ .connected → s.call[l].state ≠ .seizing → s.call[l].state ≠ .ringing →
            t.call[l] = s.call[l] ∧ t.feed[l] = s.feed[l] ∧ t.brk[l] = s.brk[l]))

/-- R65: Bearer Check, with no line in the wait list. -/
def Obligations.BearerCheckConfirms : Prop :=
  ∀ (s : State) (set : Word16), s.receives = true →
    let u := s.atRequest
    ∃ t, exec (.bearerCheck .unit set) s = .next t ∧
      (4096 ≤ set.toNat → SameBut [.bus, .quietRun] u t ∧ Replied (.refused .outOfRange) s t) ∧
      (set.toNat < 4096 → s.bearers.linkUp = false →
        SameBut [.bus, .quietRun] u t ∧ Replied (.refused .wrongState) s t) ∧
      (set.toNat < 4096 → s.bearers.linkUp = true → s.noWaiters →
        SameBut [.bearers, .bus, .quietRun] u t ∧ SameLink s t ∧
          t.bearers.connection = s.bearers.connection ∧
          (∀ b : Bearer,
            (set.getLsbD b = true → (s.bearer b).state = .unchecked →
              (t.bearer b).state = (if (s.bearer b).barPending = true then BearerState.barred else .idle) ∧
                (t.bearer b).barPending = false) ∧
            (set.getLsbD b = false ∨ (s.bearer b).state ≠ .unchecked → t.bearer b = s.bearer b)) ∧
          Replied
            (.data [BitVec.ofNat 8 (allBearers.filter fun b : Bearer =>
              set.getLsbD b.val && decide ((s.bearer b).state = .unchecked)).length]) s t)

/-- R66 and R67: Bar and Unbar of a bearer the link carries, Unbar with no line in the wait list. -/
def Obligations.BarAndUnbar : Prop :=
  ∀ (s : State) (bearer : Byte), s.receives = true →
    let u := s.atRequest
    (12 ≤ bearer.toNat →
      (∃ t, exec (.bar .unit bearer) s = .next t ∧ SameBut [.bus, .quietRun] u t ∧
        Replied (.refused .outOfRange) s t) ∧
      (∃ t, exec (.unbar .unit bearer) s = .next t ∧ SameBut [.bus, .quietRun] u t ∧
        Replied (.refused .outOfRange) s t)) ∧
    (∀ b : Bearer, b.val = bearer.toNat → (s.bearer b).state = .absent →
      (∃ t, exec (.bar .unit bearer) s = .next t ∧ SameBut [.bus, .quietRun] u t ∧
        Replied (.refused .wrongState) s t) ∧
      (∃ t, exec (.unbar .unit bearer) s = .next t ∧ SameBut [.bus, .quietRun] u t ∧
        Replied (.refused .wrongState) s t)) ∧
    (∀ b : Bearer, b.val = bearer.toNat → (s.bearer b).state ≠ .absent →
      (∃ t, exec (.bar .unit bearer) s = .next t ∧ SameBut [.bearers, .bus, .quietRun] u t ∧ SameLink s t ∧
        OtherBearers b s t ∧ t.bearers.connection = s.bearers.connection ∧ Replied .accepted s t ∧
        ((s.bearer b).state = .idle → t.bearer b = { s.bearer b with state := .barred }) ∧
        ((s.bearer b).state = .unchecked →
          t.bearer b = { s.bearer b with state := .barred, barPending := false }) ∧
        ((s.bearer b).state = .barred → t.bearer b = s.bearer b) ∧
        ((s.bearer b).state.busy = true → t.bearer b = { s.bearer b with barPending := true })) ∧
      (s.noWaiters →
        ∃ t, exec (.unbar .unit bearer) s = .next t ∧ SameBut [.bearers, .bus, .quietRun] u t ∧ SameLink s t ∧
          OtherBearers b s t ∧ t.bearers.connection = s.bearers.connection ∧ Replied .accepted s t ∧
          ((s.bearer b).state = .barred → t.bearer b = { s.bearer b with state := .idle }) ∧
          ((s.bearer b).state ≠ .barred → t.bearer b = { s.bearer b with barPending := false })))

/-- R68 and R69: Release Acknowledge (with no line in the wait list) and the expiry of the clearing guard. -/
def Obligations.ClearingEnds : Prop :=
  ∀ (s : State) (b : Bearer),
    let u := s.atRequest
    (s.receives = true → (s.bearer b).state = .clearing → s.noWaiters →
      ∃ t, exec (.releaseAcknowledge .unit (BitVec.ofNat 8 b.val)) s = .next t ∧
        SameBut [.bearers, .bus, .quietRun] u t ∧ SameLink s t ∧ OtherBearers b s t ∧
        t.bearers.connection = s.bearers.connection ∧ Replied .accepted s t ∧
        (t.bearer b).guard = none ∧ (t.bearer b).barPending = false ∧
        (t.bearer b).state = (if (s.bearer b).barPending = true then BearerState.barred else .idle)) ∧
    (s.receives = true → (s.bearer b).state ≠ .clearing →
      ∃ t, exec (.releaseAcknowledge .unit (BitVec.ofNat 8 b.val)) s = .next t ∧
        SameBut [.bus, .quietRun] u t ∧ Replied .late s t) ∧
    ((s.bearer b).state = .clearing → (s.bearer b).guard ≠ none →
      ∃ t, exec (.guardExpiry b) s = .next t ∧ SameBut [.bearers, .quietRun] s t ∧ SameLink s t ∧
        OtherBearers b s t ∧ t.bearers.connection = s.bearers.connection ∧
        t.bearer b = { s.bearer b with state := .unchecked, guard := none })

/-- R62: a Grant, Refuse or Release outside the pairings in which it applies is answered Late if the named line
is the bearer's line or former line and refused WrongState otherwise, and changes nothing. -/
def Obligations.LateAnswersChangeNothing : Prop :=
  ∀ (s : State) (l : Line) (b : Bearer), s.receives = true →
    let u := s.atRequest
    let reply : Reply :=
      if (s.bearer b).line = some l ∨ (s.bearer b).formerLine = some l then .late else .refused .wrongState
    let outside (st : CallState) (bst : BearerState) : Prop :=
      ¬(s.call[l].state = st ∧ s.call[l].bearer = some b ∧ (s.bearer b).state = bst)
    let line : Byte := BitVec.ofNat 8 l.val
    let bearer : Byte := BitVec.ofNat 8 b.val
    (outside .seizing .held →
      (∃ t, exec (.grant .unit line bearer) s = .next t ∧ SameBut [.bus, .quietRun] u t ∧ Replied reply s t) ∧
      (∃ t, exec (.refuse .unit line bearer) s = .next t ∧ SameBut [.bus, .quietRun] u t ∧ Replied reply s t)) ∧
    (outside .seizing .held → outside .connected .engaged → outside .ringing .reserved →
      ∃ t, exec (.release .unit line bearer) s = .next t ∧ SameBut [.bus, .quietRun] u t ∧ Replied reply s t)

/-! ## Chapter 5: call control -/

/-- R84, R80, R59: a Grant in its pairing connects the line: the bearer becomes Engaged at the tail of the
connection list, and the buffered digits are queued in order, and after them the Lost report if any was lost.
R88: a Far Answer for a Connected line reverses its feed if its profile says so, and is refused WrongState in
every other state. R100: a line's receive slot carries silence, its bearer's downstream slot or its tone by its
path; the upstream slot of a bearer that is not Engaged carries the idle pattern, and that of an Engaged one
the samples of the one line whose path it is, as after a Grant. -/
def Obligations.GrantAndFarAnswer : Prop :=
  (∀ (s : State) (l : Line) (b : Bearer), s.receives = true →
      s.call[l].state = .seizing → s.call[l].bearer = some b → (s.bearer b).state = .held →
      (s.bearer b).line = some l →
      let u := s.atRequest
      let digit (v : Nat) : Report := { kind := .digit, line := some l, bearer := some b, value := some v }
      ∃ t, exec (.grant .unit (BitVec.ofNat 8 l.val) (BitVec.ofNat 8 b.val)) s = .next t ∧
        SameBut [.call, .bearers, .arbiter, .reports, .bus, .quietRun] u t ∧ OtherLines l s t ∧
        OtherBearers b s t ∧ SameLink s t ∧ Replied .accepted s t ∧
        t.call[l] = { state := .connected, bearer := some b, path := .bearer b } ∧
        t.bearer b = { s.bearer b with state := .engaged } ∧
        t.bearers.connection = s.bearers.connection ++ [b] ∧
        t.arbiter = { s.arbiter with arrivals := s.arbiter.arrivals.filter fun a => a.line ≠ l } ∧
        t.reports =
          ((s.call[l].early ++ if s.call[l].lost = true then [10] else []).map digit).foldl
            (fun q r => q.append (s.urgentFor l) r) u.reports ∧
        t.receiveSlot l = .trunk b ∧
        ((∀ m : Line, m ≠ l → s.call[m].path ≠ .bearer b) → t.upstreamSlot b = .line l)) ∧
  (∀ (s : State) (l : Line), s.receives = true →
      let u := s.atRequest
      (s.call[l].state = .connected →
        ∃ t, exec (.farAnswer .unit (BitVec.ofNat 8 l.val)) s = .next t ∧ SameBut [.feed, .bus, .quietRun] u t ∧
          OtherLines l s t ∧ Replied .accepted s t ∧
          t.feed[l] =
            if (s.profileOf l).flags.getLsbD 1 = true then s.feed[l].callTarget .reverse else s.feed[l]) ∧
      (s.call[l].state ≠ .connected →
        ∃ t, exec (.farAnswer .unit (BitVec.ofNat 8 l.val)) s = .next t ∧ SameBut [.bus, .quietRun] u t ∧
          Replied (.refused .wrongState) s t)) ∧
  (∀ (s : State) (l : Line) (b : Bearer),
      (s.call[l].path = .none → s.receiveSlot l = .silence) ∧
      (s.call[l].path = .bearer b → s.receiveSlot l = .trunk b) ∧
      (∀ k : Tone, s.call[l].path = .tone k → s.receiveSlot l = .tone k) ∧
      ((s.bearer b).state ≠ .engaged → s.upstreamSlot b = .idlePattern) ∧
      ((s.bearer b).state = .engaged → s.call[l].path = .bearer b →
        (∀ m : Line, m ≠ l → s.call[m].path ≠ .bearer b) → s.upstreamSlot b = .line l))

/-- R85, R87, R94, R61: the exchange ends a call. A refused or released seize goes to Lockout with the
Congestion tone, a released Connected line to Lockout if off-hook and to Idle if on-hook, a released Ringing
line to Idle and out of the ring collections. The bearer is free at once, Idle or, where a bar is pending,
Barred, and no report is queued. With no other line in the wait list. -/
def Obligations.ExchangeEndsCalls : Prop :=
  ∀ (s : State) (l : Line) (b : Bearer), s.receives = true →
    s.call[l].bearer = some b → (s.bearer b).line = some l →
    (∀ a ∈ s.arbiter.arrivals, a.line = l ∨ a.standing = .seizing) →
    let u := s.atRequest
    let line : Byte := BitVec.ofNat 8 l.val
    let bearer : Byte := BitVec.ofNat 8 b.val
    let ended (t : State) : Prop :=
      SameBut [.brk, .feed, .call, .bearers, .arbiter, .ringer, .bus, .quietRun] u t ∧ OtherLines l s t ∧
        OtherBearers b s t ∧ SameLink s t ∧ Replied .accepted s t ∧ t.bearer b = s.freedRecord b l ∧
        t.bearers.connection = s.bearers.connection.filter (fun x => x ≠ b) ∧
        t.arbiter = { s.arbiter with arrivals := s.arbiter.arrivals.filter fun a => a.line ≠ l }
    (s.call[l].state = .seizing → (s.bearer b).state = .held → s.sup[l].hook = .offHook →
      (∃ t, exec (.refuse .unit line bearer) s = .next t ∧ ended t ∧ t.ringer = s.ringer ∧
        t.call[l] = s.lockedOut .congestion) ∧
      (∃ t, exec (.release .unit line bearer) s = .next t ∧ ended t ∧ t.ringer = s.ringer ∧
        t.call[l] = s.lockedOut .congestion)) ∧
    (s.call[l].state = .connected → (s.bearer b).state = .engaged →
      ∃ t, exec (.release .unit line bearer) s = .next t ∧ ended t ∧ t.ringer = s.ringer ∧
        t.call[l] = match s.sup[l].hook with
          | .offHook => s.lockedOut .released
          | .onHook => { state := .idle }) ∧
    (s.call[l].state = .ringing → (s.bearer b).state = .reserved →
      ∃ t, exec (.release .unit line bearer) s = .next t ∧ ended t ∧ t.call[l] = { state := .idle } ∧
        t.ringPlace l = none ∧ t.ringer.counts[l] = 0)

/-- R89, R90, R126, R123: an Incoming with ringing for an Idle line and an Idle bearer reserves the bearer and
rings the line: its ring count is 0, and it is placed in the phase with the fewest lines, the lowest-numbered
among equals, or at the tail of the ring queue where no phase has room or the level does not permit it. It rests
in Standby, unless the wheel was Stopped: then the wheel starts at phase 0, whose lines are given Ring at once
(R124); a Running wheel is not moved. R90, R91: without ringing it connects the Idle line on its bearer. For a
Waiting or Seizing line, whatever the ring flag, the call is in speech at once, with an Answer report; a Seizing
line's own seize is withdrawn before, and with it a handover to the line is abandoned (a Release report with cause
Preempted, and a Priority reconsideration, R118). R92, R112: a bearer Held for another line is yielded: that line
is placed on the lowest-numbered bearer it is eligible for, as the frame has left the unit (R160), with a Seize
report and a full answer time, or else it waits in its place with a full wait time, and if it is of class Priority
the reconsideration is made. (The order of the two lines' changes: log entry 10.) -/
def Obligations.IncomingIsCarriedOut : Prop :=
  (∀ (s : State) (l : Line) (b : Bearer), s.receives = true →
      s.call[l].state = .idle → (s.bearer b).state = .idle → (s.bearer b).line = none →
      s.arbiter.handover.map Handover.line ≠ some l →
      let u := s.atRequest
      ∃ t, exec (.incoming .unit (BitVec.ofNat 8 l.val) (BitVec.ofNat 8 b.val) 1) s = .next t ∧
        SameBut [.brk, .feed, .call, .bearers, .arbiter, .ringer, .bus, .quietRun] u t ∧
        OtherBearers b s t ∧ SameLink s t ∧ t.bearers.connection = s.bearers.connection ∧
        Replied .accepted s t ∧ t.monitor.quiet = false ∧
        (∀ m : Line, m ≠ l → t.call[m] = s.call[m] ∧ t.brk[m] = s.brk[m]) ∧
        t.call[l] = { state := .ringing, bearer := some b } ∧
        t.bearer b = { s.bearer b with state := .reserved, line := some l } ∧
        t.ringer.wheel ≠ .stopped ∧ t.ringer.counts = s.ringer.counts.set l 0 ∧ t.ringPlace l ≠ none ∧
        (∀ p : Fin 4, s.permits l → nextPhase s.ringer.phases s.ringRoom p →
          t.ringer.phases = s.ringer.phases.set p (s.ringer.phases[p] ++ [l]) ∧ t.ringer.queue = s.ringer.queue) ∧
        (¬s.permits l ∨ (∀ p : Fin 4, s.ringRoom ≤ s.ringer.phases[p].length) →
          t.ringer.phases = s.ringer.phases ∧ t.ringer.queue = s.ringer.queue ++ [l]) ∧
        (∀ (q : Fin 4) (time : Nat), s.ringer.wheel = .running q time → t.ringer.wheel = .running q time ∧
          (∀ m : Line, m ≠ l → t.feed[m] = s.feed[m]) ∧ t.feed[l] = s.feed[l].callTarget .standby) ∧
        (s.ringer.wheel = .stopped → t.ringer.wheel = .running 0 0 ∧
          ∀ m : Line,
            let rests := if m = l then s.feed[m].callTarget .standby else s.feed[m]
            t.feed[m] = if m ∈ t.ringer.phases[(0 : Fin 4)] then rests.ringTarget t.call[m].state else rests) ∧
        t.arbiter = { s.arbiter with arrivals := s.arbiter.arrivals.filter fun a => a.line ≠ l }) ∧
  (∀ (s : State) (l : Line) (b : Bearer), s.receives = true →
      (s.bearer b).state = .idle → (s.bearer b).line = none →
      let u := s.atRequest
      let connected : CallRecord := { state := .connected, bearer := some b, path := .bearer b }
      let answer : Report := { kind := .answer, line := some l, bearer := some b }
      let asked (ring : Byte) : Instr := .incoming .unit (BitVec.ofNat 8 l.val) (BitVec.ofNat 8 b.val) ring
      (s.call[l].state = .idle → s.arbiter.handover.map Handover.line ≠ some l →
        ∃ t, exec (asked 0) s = .next t ∧
          SameBut [.brk, .feed, .call, .bearers, .arbiter, .bus, .quietRun] u t ∧ OtherLines l s t ∧
          OtherBearers b s t ∧ SameLink s t ∧ Replied .accepted s t ∧ t.call[l] = connected ∧
          t.feed[l] = s.feed[l].callTarget .active ∧
          t.bearer b = { s.bearer b with state := .engaged, line := some l } ∧
          t.bearers.connection = s.bearers.connection ++ [b]) ∧
      (∀ ring : Byte, ring.toNat ≤ 1 → s.call[l].state = .waiting → s.call[l].bearer = none →
        s.arbiter.handover.map Handover.line ≠ some l →
        ∃ t, exec (asked ring) s = .next t ∧
          SameBut [.call, .bearers, .arbiter, .reports, .bus, .quietRun] u t ∧ OtherLines l s t ∧
          OtherBearers b s t ∧ SameLink s t ∧ Replied .accepted s t ∧ t.call[l] = connected ∧
          t.bearer b = { s.bearer b with state := .engaged, line := some l } ∧
          t.bearers.connection = s.bearers.connection ++ [b] ∧
          t.arbiter = { s.arbiter with arrivals := s.arbiter.arrivals.filter fun a => a.line ≠ l } ∧
          t.reports = u.reports.append (s.urgentFor l) answer) ∧
      (∀ (c : Bearer) (ring : Byte), ring.toNat ≤ 1 → s.call[l].state = .seizing → s.call[l].bearer = some c →
        (s.bearer c).line = some l →
        let withdrawn (r : Report) : State :=
          { u with
            call := s.call.set l connected
            bearers :=
              { s.bearers with
                recs := (s.bearers.recs.set c (s.clearingRecord c l)).set b
                  { s.bearer b with state := .engaged, line := some l }
                connection := s.bearers.connection.filter (fun x => x ≠ c) ++ [b] }
            arbiter :=
              { s.arbiter with
                arrivals := s.arbiter.arrivals.filter fun a => a.line ≠ l
                handover := if (s.bearer c).state = .handover then none else s.arbiter.handover }
            reports := (u.reports.append (s.urgentFor l) r).append (s.urgentFor l) answer }
        ((s.bearer c).state = .held → s.arbiter.handover.map Handover.bearer ≠ some c →
          s.arbiter.handover.map Handover.line ≠ some l →
          ∃ t, exec (asked ring) s = .next t ∧ Replied .accepted s t ∧
            SameBut [.bus, .quietRun]
              (withdrawn { kind := .withdraw, line := some l, bearer := some c }) t) ∧
        (∀ left, (s.bearer c).state = .handover →
          s.arbiter.handover = some { bearer := c, line := l, left := left } →
          ∃ t, exec (asked ring) s = .next t ∧ Replied .accepted s t ∧
            SameBut [.bus, .quietRun]
              (reconsider (withdrawn { kind := .release, line := some l, bearer := some c, value := some 3 }))
              t))) ∧
  (∀ (s : State) (l m : Line) (b : Bearer) (a : Arrival), s.receives = true →
      (s.bearer b).state = .held → (s.bearer b).line = some m → m ≠ l → s.call[m].state = .seizing →
      (s.arbiter.arrivals.find? fun x => x.line = m) = some a → s.arbiter.handover.map Handover.line ≠ some l →
      let u := s.atRequest
      let asked (ring : Byte) : Instr := .incoming .unit (BitVec.ofNat 8 l.val) (BitVec.ofNat 8 b.val) ring
      let yielded (state : CallState) (st : Standing) (c : Option Bearer) (path : Path) (k : LineTimer) : State :=
        { u with
          call := s.call.set m
            { state := state, bearer := c, path := path, early := s.call[m].early, lost := s.call[m].lost
              timer := some k }
          arbiter :=
            { s.arbiter with
              arrivals := s.arbiter.arrivals.map fun x => if x.line = m then { x with standing := st } else x } }
      let outcome (v : State) (again : Bool) : Prop :=
        let w (st : BearerState) : BearerRecord :=
          { s.bearer b with state := st, line := some l, formerLine := some m }
        let arbiter : Arbiter :=
          { v.arbiter with arrivals := v.arbiter.arrivals.filter fun x => x.line ≠ l }
        let connected : State :=
          { v with
            call := v.call.set l { state := .connected, bearer := some b, path := .bearer b }
            bearers :=
              { v.bearers with recs := v.bearers.recs.set b (w .engaged)
                               connection := v.bearers.connection ++ [b] }
            arbiter := arbiter }
        let after (x : State) : State := if again = true then reconsider x else x
        (s.call[l].state = .idle →
          ∃ t, exec (asked 0) s = .next t ∧ Replied .accepted s t ∧
            SameBut [.bus, .quietRun]
              (after
                { connected with
                  brk := s.brk.set l {}, feed := s.feed.set l (s.feed[l].callTarget .active) }) t) ∧
        (∀ ring : Byte, ring.toNat ≤ 1 → s.call[l].state = .waiting → s.call[l].bearer = none →
          ∃ t, exec (asked ring) s = .next t ∧ Replied .accepted s t ∧
            SameBut [.bus, .quietRun]
              (after
                { connected with
                  reports := v.reports.append (s.urgentFor l)
                    { kind := .answer, line := some l, bearer := some b } }) t) ∧
        (s.call[l].state = .idle → again = false →
          ∃ t, exec (asked 1) s = .next t ∧ Replied .accepted s t ∧
            SameBut [.brk, .feed, .call, .bearers, .ringer, .bus, .quietRun] { v with arbiter := arbiter } t ∧
            (∀ x : Line, x ≠ l → t.call[x] = v.call[x]) ∧
            t.call[l] = { state := .ringing, bearer := some b } ∧
            t.bearers = { v.bearers with recs := v.bearers.recs.set b (w .reserved) } ∧
            t.ringer.wheel ≠ .stopped ∧ t.ringer.counts[l] = 0 ∧ t.ringPlace l ≠ none)
      (∀ c : Bearer, u.eligible a.cls c = true → (∀ x : Bearer, x < c → u.eligible a.cls x = false) →
        (s.bearer c).line = none →
        let v := yielded .seizing .seizing (some c) .none
          { kind := .answer, left := 1000 * s.tables.timers.answer.toNat }
        outcome
          { v with
            bearers :=
              { s.bearers with recs := s.bearers.recs.set c { s.bearer c with state := .held, line := some m } }
            reports := u.reports.append (s.urgentFor m)
              { kind := .seize, line := some m, bearer := some c, value := some (s.classOf m).code } } false) ∧
      ((∀ c : Bearer, u.eligible a.cls c = false) →
        outcome
          (yielded .waiting .waiting none (.tone .wait)
            { kind := .wait, left := 1000 * s.tables.timers.wait.toNat })
          (decide (a.cls = .priority))))

/-- R89: the checks of Incoming, in their order; a refused Incoming changes nothing but that it ends Quiet
operation (R158). -/
def Obligations.IncomingIsChecked : Prop :=
  ∀ (s : State) (line bearer ring : Byte), s.receives = true →
    let u := s.atRequest
    let refusedWith (c : Cause) : Prop :=
      ∃ t, exec (.incoming .unit line bearer ring) s = .next t ∧ SameBut [.bus, .quietRun] u t ∧
        t.monitor.quiet = false ∧ Replied (.refused c) s t
    (32 ≤ line.toNat ∨ 12 ≤ bearer.toNat ∨ 2 ≤ ring.toNat → refusedWith .outOfRange) ∧
    (∀ (l : Line) (b : Bearer), l.val = line.toNat → b.val = bearer.toNat → ring.toNat ≤ 1 →
      (s.call[l].state ≠ .idle → s.call[l].state ≠ .waiting → s.call[l].state ≠ .seizing →
        refusedWith .lineBusy) ∧
      ((s.call[l].state = .idle ∨ s.call[l].state = .waiting ∨ s.call[l].state = .seizing) →
        (s.bearer b).state ≠ .idle →
        ((s.bearer b).state = .held → (s.bearer b).line = none ∨ (s.bearer b).line = some l) →
        refusedWith .bearerUnavailable))

/-- R82, R95, R96: the wait limit takes a Waiting line to Lockout with the Congestion tone; the Tone phase goes
on to the howler, the howler to Parked in Standby; a preempted line's tone becomes Congestion after 2 s. R96: an
OnHook decision takes a line in Lockout, in any phase, to Idle and heads it for Standby. R83a:
when the answer timer of a Seizing line runs out, which happens in a step with an empty queue alone (log entry
2), the line goes to Lockout with the Congestion tone, and its bearer to Clearing with a Release report of cause
AnswerTimeout (here with no other timer running out in that millisecond). R100: the cadences of the five
tones. -/
def Obligations.LockoutRunsItsCourse : Prop :=
  (∀ (s : State) (l : Line),
    (∀ left, s.call[l].state = .waiting → s.call[l].timer = some { kind := .wait, left := left } →
      s.sup[l].hook = .offHook →
      ∃ t, exec (.waitLimitExpiry l) s = .next t ∧ SameBut [.brk, .feed, .call, .arbiter, .quietRun] s t ∧
        OtherLines l s t ∧ t.call[l] = s.lockedOut .congestion ∧ t.brk[l] = {} ∧
        t.feed[l] = s.feed[l].callTarget .active ∧
        t.arbiter = { s.arbiter with arrivals := s.arbiter.arrivals.filter fun a => a.line ≠ l }) ∧
    (s.call[l].state = .lockout → s.call[l].phase = some .tone →
      (∃ t, exec (.tonePhaseExpiry l) s = .next t ∧ SameBut [.feed, .call, .quietRun] s t ∧ OtherLines l s t ∧
        t.feed[l] = s.feed[l].callTarget .active ∧
        t.call[l] =
          { s.call[l] with
            path := .tone .howler, phase := some .howler, preemptionTone := none
            timer := some { kind := .howlerPhase, left := 1000 * s.tables.timers.howler.toNat } }) ∧
      (s.call[l].preemptionTone ≠ none →
        ∃ t, exec (.preemptionToneEnd l) s = .next t ∧ SameBut [.call] s t ∧ OtherLines l s t ∧
          t.call[l] = { s.call[l] with path := .tone .congestion, preemptionTone := none })) ∧
    (s.call[l].state = .lockout → s.call[l].phase = some .howler →
      ∃ t, exec (.howlerPhaseExpiry l) s = .next t ∧ SameBut [.feed, .call, .quietRun] s t ∧
        OtherLines l s t ∧ t.feed[l] = s.feed[l].callTarget .standby ∧
        t.call[l] = { s.call[l] with path := .none, phase := some .parked, timer := none }) ∧
    (s.call[l].state = .lockout → s.sup[l].hook = .offHook →
      ∃ t, exec (.hookDecision l) s = .next t ∧ SameBut [.sup, .brk, .feed, .call, .arbiter, .quietRun] s t ∧
        OtherLines l s t ∧ t.monitor.quiet = false ∧
        t.sup[l] = { s.sup[l] with hook := .onHook, hookCount := 0 } ∧ t.call[l] = { state := .idle } ∧
        t.brk[l] = {} ∧ t.feed[l] = s.feed[l].callTarget .standby ∧
        t.arbiter = { s.arbiter with arrivals := s.arbiter.arrivals.filter fun a => a.line ≠ l })) ∧
  (∀ (s : State) (l : Line) (b : Bearer) (left : Nat), s.pending = [] → s.inRestart = false →
    s.call[l].state = .seizing → s.call[l].timer = some { kind := .answer, left := left } → left ≤ 1 →
    s.call[l].bearer = some b → (s.bearer b).line = some l → s.sup[l].hook = .offHook →
    s.arbiter.handover.map Handover.bearer ≠ some b → s.call[l].preemptionTone = none →
    (s.feed[l].settling = true → 2 ≤ s.feed[l].settle) → s.feed[l].blanking = .none →
    (∀ m : Line, m ≠ l → s.lineTimersRun m) → s.unitTimersRun → s.busTimersRun →
    1 ≤ s.tables.timers.congestion.toNat → 1 ≤ s.tables.timers.guard.toNat →
    ∃ t, step s = .next t ∧ t.call[l] = s.lockedOut .congestion ∧ t.bearer b = s.clearingRecord b l ∧
      t.feed[l].target = (if s.feed[l].control = .callSide then FeedMode.active else s.feed[l].target) ∧
      t.brk[l] = {} ∧ t.arbiter.arrivals = (s.arbiter.arrivals.filter fun a => a.line ≠ l) ∧
      t.reports = s.reports.append (s.urgentFor l)
        { kind := .release, line := some l, bearer := some b, value := some 0 } ∧
      (∀ m : Line, m ≠ l → t.call[m].state = s.call[m].state ∧ t.call[m].bearer = s.call[m].bearer) ∧
      ∀ c : Bearer, c ≠ b → (t.bearer c).state = (s.bearer c).state ∧ (t.bearer c).line = (s.bearer c).line) ∧
  (∀ clock : Nat,
    Tone.isOn .wait clock = true ∧ Tone.isOn .howler clock = true ∧
    (Tone.isOn .congestion clock = true ↔ clock % 500 < 250) ∧
    (Tone.isOn .isolation clock = true ↔
      clock % 1000 < 150 ∨ 300 ≤ clock % 1000 ∧ clock % 1000 < 450) ∧
    (Tone.isOn .preemption clock = true ↔ clock % 200 < 100))

/-- R97, R48, R60, R18: a fault decision takes an Idle, Waiting, Seizing, Connected, Ringing or Lockout line to
Faulted: its counts go to 0, Open is driven at once, the Fault report is queued, and after it, where the line names
a bearer, the Release report of the bearer that goes to Clearing; a retry wait of 10 s begins. A Ringing line leaves
the ring collections (R127, R128). R118: a handover to the line is abandoned so, and the Priority reconsideration is
made (HandoverEndsInSeize says what it does). -/
def Obligations.FaultEntry : Prop :=
  ∀ (s : State) (l : Line), s.feed[l].control = .callSide →
    let counts : Supervision := { s.sup[l] with hookCount := 0, overCount := 0, foreignCount := 0 }
    let feed : Feed :=
      if s.feed[l].current = .openLoop then { s.feed[l] with target := .openLoop }
      else
        { s.feed[l] with
          current := .openLoop, target := .openLoop, settling := true, settle := 20, blanking := .inTransition }
    let faulted (kind : FaultKind) : CallRecord :=
      { state := .faulted, fault := some kind, retry := some .wait
        timer := some { kind := .retryWait, left := 10000 } }
    let entered (kind : FaultKind) (t : State) : Prop :=
      SameBut [.sup, .brk, .feed, .call, .bearers, .arbiter, .ringer, .reports, .quietRun] s t ∧
        OtherLines l s t ∧ SameLink s t ∧ t.monitor.quiet = false ∧ t.sup[l] = counts ∧ t.brk[l] = {} ∧
        t.feed[l] = feed ∧ t.call[l] = faulted kind ∧
        t.ringer = (if s.call[l].state = .ringing then s.ringerWithout l else s.ringer) ∧
        t.arbiter = { s.arbiter with arrivals := s.arbiter.arrivals.filter fun a => a.line ≠ l } ∧
        (let fault := s.reports.append true
          { kind := .fault, line := some l, bearer := s.call[l].bearer, value := some kind.code }
        match s.call[l].bearer with
          | none => t.bearers = s.bearers ∧ t.reports = fault
          | some b => OtherBearers b s t ∧ t.bearer b = s.clearingRecord b l ∧
            t.bearers.connection = s.bearers.connection.filter (fun x => x ≠ b) ∧
            t.reports = fault.append (s.urgentFor l)
              { kind := .release, line := some l, bearer := some b, value := some 1 })
    let abandoned (b : Bearer) (kind : FaultKind) : State :=
      { s with
        sup := s.sup.set l counts, brk := s.brk.set l {}, feed := s.feed.set l feed
        call := s.call.set l (faulted kind)
        bearers :=
          { s.bearers with
            recs := s.bearers.recs.set b (s.clearingRecord b l)
            connection := s.bearers.connection.filter fun x => x ≠ b }
        arbiter :=
          { s.arbiter with arrivals := s.arbiter.arrivals.filter fun a => a.line ≠ l, handover := none }
        reports :=
          (s.reports.append true
              { kind := .fault, line := some l, bearer := some b, value := some kind.code }).append (s.urgentFor l)
            { kind := .release, line := some l, bearer := some b, value := some 1 } }
    ((s.call[l].state = .idle ∨ s.call[l].state = .waiting ∨ s.call[l].state = .seizing ∨
        s.call[l].state = .connected ∨ s.call[l].state = .ringing ∨ s.call[l].state = .lockout) →
      s.arbiter.handover.map Handover.line ≠ some l →
      (∀ b, s.call[l].bearer = some b → (s.bearer b).line = some l ∧
        s.arbiter.handover.map Handover.bearer ≠ some b) →
      (∃ t, exec (.overcurrentDecision l) s = .next t ∧ entered .overcurrent t) ∧
        ∃ t, exec (.foreignBatteryDecision l) s = .next t ∧ entered .foreignBattery t) ∧
    (∀ (b : Bearer) (left : Nat), s.call[l].state = .seizing → s.call[l].bearer = some b →
      (s.bearer b).line = some l → (s.bearer b).state = .handover →
      s.arbiter.handover = some { bearer := b, line := l, left := left } →
      (∃ t, exec (.overcurrentDecision l) s = .next t ∧
        SameBut [.quietRun] (reconsider (abandoned b .overcurrent)) t ∧ t.monitor.quiet = false) ∧
        ∃ t, exec (.foreignBatteryDecision l) s = .next t ∧
          SameBut [.quietRun] (reconsider (abandoned b .foreignBattery)) t ∧ t.monitor.quiet = false)

/-- R98: the retry wait leads to a look of 1 s in Standby; the end of the look clears the fault with a
FaultCleared report, and the line is Idle. If it is off-hook, off-hook handling follows in the same event: all is
as if an OffHook decision came on the Idle line (R81; OffHookJoins and PriorityLinePreempts say what that does).
An Overcurrent or Foreign Battery decision during the look returns the line to its retry wait, with the kind of
that decision and without a second Fault report. -/
def Obligations.FaultIsRetried : Prop :=
  ∀ (s : State) (l : Line), s.call[l].state = .faulted →
    (∀ left, s.call[l].timer = some { kind := .retryWait, left := left } →
      ∃ t, exec (.retryWaitExpiry l) s = .next t ∧ SameBut [.feed, .call, .quietRun] s t ∧ OtherLines l s t ∧
        t.feed[l] = s.feed[l].callTarget .standby ∧
        t.call[l] =
          { s.call[l] with retry := some .look, timer := some { kind := .retryLook, left := 1000 } }) ∧
    (∀ left, s.call[l].timer = some { kind := .retryLook, left := left } → s.sup[l].hook = .onHook →
      ∃ t, exec (.retryLookExpiry l) s = .next t ∧
        SameBut [.brk, .feed, .call, .arbiter, .reports, .quietRun] s t ∧ OtherLines l s t ∧
        t.feed[l] = s.feed[l].callTarget .standby ∧ t.call[l] = { state := .idle } ∧
        t.reports = s.reports.append true { kind := .faultCleared, line := some l }) ∧
    (∀ left, s.call[l].timer = some { kind := .retryLook, left := left } → s.sup[l].hook = .offHook →
      let cleared : State :=
        { s with
          call := s.call.set l { state := .idle }
          brk := s.brk.set l {}
          feed := s.feed.set l (s.feed[l].callTarget .standby)
          arbiter := { s.arbiter with arrivals := s.arbiter.arrivals.filter fun a => a.line ≠ l }
          reports := s.reports.append true { kind := .faultCleared, line := some l } }
      ∃ t u, exec (.retryLookExpiry l) s = .next t ∧
        exec (.hookDecision l) { cleared with sup := s.sup.set l { s.sup[l] with hook := .onHook } } = .next u ∧
        SameBut [.sup, .quietRun] u t ∧ t.sup = s.sup) ∧
    (s.call[l].retry = some .look → s.feed[l].control = .callSide →
      let returned (kind : FaultKind) (t : State) : Prop :=
        SameBut [.sup, .feed, .call, .quietRun] s t ∧ OtherLines l s t ∧ t.monitor.quiet = false ∧
          t.sup[l] = { s.sup[l] with hookCount := 0, overCount := 0, foreignCount := 0 } ∧
          t.feed[l].target = .openLoop ∧ t.feed[l].current = .openLoop ∧
          t.call[l] =
            { s.call[l] with
              fault := some kind, retry := some .wait, timer := some { kind := .retryWait, left := 10000 } }
      (∃ t, exec (.overcurrentDecision l) s = .next t ∧ returned .overcurrent t) ∧
        ∃ t, exec (.foreignBatteryDecision l) s = .next t ∧ returned .foreignBattery t)

/-- R20, R93, R94: a ring-trip decision answers a Ringing line: it is off-hook, its bearer is Engaged and an
Answer report is queued. So does an OffHook decision, as one is taken in an off-interval of the cadence or in the
ring queue. The ring limit ends the call with a RingTimeout report and its bearer in Clearing. In each case the
line leaves the ring collections (R128). R20: a ring-trip decision on a line that is not Ringing sets the taken mark
and the hook state, and does what an OffHook decision does (R14; the statements on hook decisions say what that is);
on a Disabled line or one under test no decision is taken (log entry 4). -/
def Obligations.RingingEnds : Prop :=
  (∀ (s : State) (l : Line) (b : Bearer),
    s.call[l].state = .ringing → s.call[l].bearer = some b → (s.bearer b).line = some l →
    let answered (t : State) : Prop :=
      SameBut [.sup, .brk, .feed, .call, .bearers, .arbiter, .ringer, .reports, .quietRun] s t ∧
        OtherLines l s t ∧ OtherBearers b s t ∧ SameLink s t ∧ t.monitor.quiet = false ∧
        t.call[l] = { state := .connected, bearer := some b, path := .bearer b } ∧
        t.feed[l] = s.feed[l].callTarget .active ∧ t.bearer b = { s.bearer b with state := .engaged } ∧
        t.bearers.connection = s.bearers.connection ++ [b] ∧ t.ringPlace l = none ∧ t.ringer = s.ringerWithout l ∧
        t.reports = s.reports.append (s.urgentFor l) { kind := .answer, line := some l, bearer := some b }
    (∃ t, exec (.ringTripDecision l) s = .next t ∧ answered t ∧
      t.sup[l] =
        { s.sup[l] with hook := .offHook, hookCount := 0, ringTripCount := 0, ringTripTaken := true }) ∧
    (s.sup[l].hook = .onHook →
      ∃ t, exec (.hookDecision l) s = .next t ∧ answered t ∧
        t.sup[l] = { s.sup[l] with hook := .offHook, hookCount := 0 }) ∧
    (s.arbiter.handover.map Handover.bearer ≠ some b →
      ∃ t, exec (.ringLimitReached l) s = .next t ∧
        SameBut [.brk, .feed, .call, .bearers, .arbiter, .ringer, .reports, .quietRun] s t ∧
        OtherLines l s t ∧ OtherBearers b s t ∧ SameLink s t ∧ t.call[l] = { state := .idle } ∧
        t.feed[l] = s.feed[l].callTarget .standby ∧ t.bearer b = s.clearingRecord b l ∧
        t.ringPlace l = none ∧ t.ringer = s.ringerWithout l ∧
        t.reports = s.reports.append (s.urgentFor l) { kind := .ringTimeout, line := some l, bearer := some b })) ∧
  (∀ (s : State) (l : Line),
    (s.call[l].state ≠ .ringing → s.call[l].state ≠ .disabled → s.call[l].state ≠ .testing →
      let trip : Supervision := { s.sup[l] with hook := .onHook, ringTripCount := 0, ringTripTaken := true }
      ∃ t u, exec (.ringTripDecision l) s = .next t ∧
        exec (.hookDecision l) { s with sup := s.sup.set l trip } = .next u ∧ SameBut [.quietRun] u t ∧
        t.monitor.quiet = false ∧ t.sup[l] = { trip with hook := .offHook, hookCount := 0 }) ∧
    (s.call[l].state = .disabled ∨ s.call[l].state = .testing →
      ∃ t, exec (.ringTripDecision l) s = .next t ∧ SameBut [.quietRun] s t))

/-! ## Chapter 7: the wheel and the ring phases -/

/-- R124, R133: at a phase boundary the wheel moves to the next phase at time 0. Between phases 0 and 3 no ring
count changes, the lines of the phase that ends are given Standby and those of the phase that begins Ring. At
the start of phase 0 each Ringing line's count advances by 1, and a line whose count reaches the ring limit
leaves Ringing; the lines of phase 3 and those that leave are given Standby, and those that the leaving lines
have left in phase 0 are given Ring; the wheel stops if they were the last Ringing lines (R123). -/
def Obligations.WheelTurns : Prop :=
  ∀ (s : State) (p : Fin 4) (time : Nat), s.ringer.wheel = .running p time →
    (p ≠ 3 → s.ringer.phases[p].Nodup → s.ringer.phases[p + 1].Nodup →
      ∃ t, exec .ringPhaseBoundary s = .next t ∧ SameBut [.feed, .ringer, .quietRun] s t ∧
        t.ringer = { s.ringer with wheel := .running (p + 1) 0 } ∧
        ∀ l : Line,
          (l ∉ s.ringer.phases[p] → l ∉ s.ringer.phases[p + 1] → t.feed[l] = s.feed[l]) ∧
          (l ∈ s.ringer.phases[p] → l ∉ s.ringer.phases[p + 1] →
            t.feed[l] = s.feed[l].callTarget .standby) ∧
          (l ∉ s.ringer.phases[p] → l ∈ s.ringer.phases[p + 1] →
            t.feed[l] = s.feed[l].ringTarget s.call[l].state)) ∧
    (p = 3 →
      let limit := s.tables.timers.ringLimit.toNat
      ∃ t, exec .ringPhaseBoundary s = .next t ∧ t.sup = s.sup ∧ t.entries = s.entries ∧
        t.tables = s.tables ∧ t.bus = s.bus ∧
        ((∀ l : Line, s.call[l].state ≠ .ringing) ∨
            (∃ l : Line, s.call[l].state = .ringing ∧ s.ringer.counts[l] + 1 < limit) →
          t.ringer.wheel = .running 0 0) ∧
        ((∃ l : Line, s.call[l].state = .ringing) →
          (∀ l : Line, s.call[l].state = .ringing → limit ≤ s.ringer.counts[l] + 1) →
          t.ringer.wheel = .stopped) ∧
        ∀ l : Line,
          (s.call[l].state = .ringing → limit ≤ s.ringer.counts[l] + 1 →
            t.call[l] = { state := .idle } ∧ t.ringer.counts[l] = 0 ∧ t.ringPlace l = none ∧
              t.feed[l] = s.feed[l].callTarget .standby) ∧
          (s.call[l].state ≠ .ringing ∨ s.ringer.counts[l] + 1 < limit →
            t.call[l] = s.call[l] ∧
            t.ringer.counts[l] =
              (if s.call[l].state = .ringing then s.ringer.counts[l] + 1 else s.ringer.counts[l]) ∧
            (l ∉ s.ringer.phases[p] → l ∉ t.ringer.phases[(0 : Fin 4)] → t.feed[l] = s.feed[l]) ∧
            (l ∈ s.ringer.phases[p] → l ∉ t.ringer.phases[(0 : Fin 4)] →
              t.feed[l] = s.feed[l].callTarget .standby) ∧
            (l ∉ s.ringer.phases[p] → l ∈ t.ringer.phases[(0 : Fin 4)] →
              t.feed[l] = s.feed[l].ringTarget s.call[l].state)))

/-- R129, R125: a fill of phases within the capacity keeps them within it, loses and invents no line, leaves
the lines it does not place in their order, places only permitted lines, and ends with no permitted line
queued unless every phase is full. It walks the queue from its head: a permitted line goes to the tail of the phase
with the fewest lines, the lowest-numbered among equals; at one for which no phase has room the fill ends; a line
that is not permitted keeps its place. -/
def Obligations.FillKeepsCapacityAndLines : Prop :=
  ∀ (permitted : Line → Bool) (capacity : Nat) (queue : List Line) (ph : Vector (List Line) 4),
    (∀ p : Fin 4, ph[p].length ≤ capacity) →
    let r := fillWalk permitted capacity queue ph
    (∀ p : Fin 4, r.1[p].length ≤ capacity) ∧ r.2.Sublist queue ∧
      (r.1[0] ++ r.1[1] ++ r.1[2] ++ r.1[3] ++ r.2).Perm (ph[0] ++ ph[1] ++ ph[2] ++ ph[3] ++ queue) ∧
      (∀ l ∈ queue, permitted l = false → queue.count l ≤ r.2.count l) ∧
      ((∃ l ∈ r.2, permitted l = true) → ∀ p : Fin 4, r.1[p].length = capacity) ∧
      ∀ (l : Line) (rest : List Line), queue = l :: rest →
        (∀ p : Fin 4, permitted l = true → nextPhase ph capacity p →
          r = fillWalk permitted capacity rest (ph.set p (ph[p] ++ [l]))) ∧
        (permitted l = true → (∀ p : Fin 4, ph[p].length = capacity) → r = (ph, queue)) ∧
        (permitted l = false →
          r.1 = (fillWalk permitted capacity rest ph).1 ∧ r.2 = l :: (fillWalk permitted capacity rest ph).2)

/-! ## Chapter 8: tests -/

/-- R137, R138, R139, R49, R99: an accepted Test Line forms the session in its Connect phase and a fresh result
record, makes the line Testing with its prior state recorded and its path None, takes over its feed and sets
Open, and selects the line on the relay. (The session's gain, window count, sums, clipped mark and look count, for
which R138 states no value, are those of log entry 30, by the model's choice.) The checks before it, in their order,
refuse without a change. -/
def Obligations.TestLineStartsOrRefuses : Prop :=
  ∀ (s : State) (l : Line) (measurements mode : Byte), s.receives = true →
    let u := s.atRequest
    let command : Instr := .testLine .unit (BitVec.ofNat 8 l.val) measurements mode
    let inRange : Prop := 1 ≤ measurements.toNat ∧ measurements.toNat ≤ 7 ∧ mode.toNat ≤ 1
    let allowed : Prop :=
      s.call[l].state = .idle ∨ mode.toNat = 1 ∧
        (s.call[l].state = .lockout ∨ s.call[l].state = .faulted ∨ s.call[l].state = .disabled)
    let m : TestMode := if mode.toNat = 0 then .courteous else .forced
    let ms := measurementsOf measurements
    let refusedWith (c : Cause) : Prop :=
      ∃ t, exec command s = .next t ∧ SameBut [.bus, .quietRun] u t ∧ Replied (.refused c) s t
    (¬inRange → refusedWith .outOfRange) ∧
    (inRange → s.test.session ≠ none → refusedWith .testBusy) ∧
    (inRange → s.test.session = none → s.supply.level = .critical → refusedWith .supplyLow) ∧
    (inRange → s.test.session = none → s.supply.level ≠ .critical → ¬allowed → refusedWith .lineBusy) ∧
    (inRange → s.test.session = none → s.supply.level ≠ .critical → allowed →
      ∃ t, exec command s = .next t ∧ SameBut [.brk, .feed, .call, .arbiter, .test, .bus, .quietRun] u t ∧
        OtherLines l s t ∧ Replied .accepted s t ∧ t.monitor.quiet = false ∧
        t.test.relay = some l ∧ t.test.source = false ∧
        t.test.result = { line := some l, mode := some m, status := .inProgress } ∧
        t.test.session = some
          { line := l, mode := m, measurements := ms, remaining := ms, phase := .connect, timer := some 50 } ∧
        t.call[l].state = .testing ∧ t.call[l].prior = some s.call[l].state ∧ t.call[l].path = .none ∧
        (s.call[l].retry ≠ some .look → t.call[l].timer = s.call[l].timer ∧ t.call[l].retry = s.call[l].retry) ∧
        (s.call[l].retry = some .look → t.call[l].retry = some .wait ∧
          t.call[l].timer = some { kind := .retryWait, left := 10000 }) ∧
        t.feed[l].control = .testUnit ∧ t.feed[l].held = some s.feed[l].target ∧ t.feed[l].target = .openLoop)

/-- R139, R140, R142, R44: what ends the Connect phase and a look, and what the Feed Controller's signal that
the line has reached its target does. In forced mode, and after a look that ends clear on a line already in
Open, the next measurement begins at gain ×25 with an empty window and the test source asserted for Leakage
alone; in courteous mode the Connect phase leads to a look in Standby, and a look that ends clear sets Open.
The signal that Open is reached, when it comes after the Connect phase's timer has run out, ends that phase in
the same way; after a look it begins the measurement; in the Disconnect phase it ends the session. The signal
that Standby is reached begins the look proper of 30 ms. Where the phase's timer still runs it only ends the
transition. (From the end of a look to the moment Open is reached the present measurement is none, by the model's
choice: log entry 28.) -/
def Obligations.SessionGoesOn : Prop :=
  ∀ (s : State) (x : Session) (m : Measurement) (rest : List Measurement),
    s.test.session = some x → x.remaining = m :: rest →
    let begun (looks : Nat) : TestUnit :=
      { s.test with
        source := decide (m = .leakage)
        session := some
          { x with
            phase := .measure, present := some m, gain := .x25, window := 0, sum := 0, squares := 0
            clipped := false, lookCount := looks, timer := none } }
    let looking : TestUnit :=
      { s.test with session := some { x with phase := .look, present := none, lookCount := 0, timer := none } }
    let goes (c : Instr) (f : Feed) (test : TestUnit) : Prop :=
      ∃ t, exec c s = .next t ∧ SameBut [.feed, .test, .quietRun] s t ∧ OtherLines x.line s t ∧
        t.feed[x.line] = f ∧ t.test = test
    (x.timer ≠ none → s.feed[x.line].settling = false →
      (x.phase = .connect → s.feed[x.line].current = .openLoop →
        (x.mode = .forced →
          goes .testConnectExpiry { s.feed[x.line] with target := .openLoop } (begun x.lookCount)) ∧
        (x.mode = .courteous → goes .testConnectExpiry (s.feed[x.line].take .standby) looking)) ∧
      (x.phase = .look → s.feed[x.line].current = .openLoop →
        goes .testLookExpiry { s.feed[x.line] with target := .openLoop } (begun 0)) ∧
      (x.phase = .look → s.feed[x.line].current = .standby →
        goes .testLookExpiry (s.feed[x.line].take .openLoop)
          { s.test with
            session := some { x with phase := .measure, present := none, lookCount := 0, timer := none } })) ∧
    (s.feed[x.line].settling = true → s.feed[x.line].control = .testUnit →
      s.feed[x.line].current = s.feed[x.line].target →
      let f : Feed := { s.feed[x.line] with settling := false, settle := 0, blanking := .left 10 }
      (x.timer ≠ none → goes (.settleEnd x.line) f s.test) ∧
      (x.timer = none →
        (x.phase = .connect → f.current = .openLoop → x.mode = .forced →
          goes (.settleEnd x.line) f (begun x.lookCount)) ∧
        (x.phase = .connect → f.current = .openLoop → x.mode = .courteous →
          goes (.settleEnd x.line) (f.take .standby) looking) ∧
        (x.phase = .look → f.current = .standby →
          goes (.settleEnd x.line) f { s.test with session := some { x with timer := some 30 } }) ∧
        (x.phase = .measure → x.present = none → f.current = .openLoop →
          goes (.settleEnd x.line) f (begun x.lookCount)) ∧
        (x.phase = .disconnect → f.current = .openLoop →
          ∃ t, exec (.settleEnd x.line) s = .next t ∧ t.test.session = none ∧
            t.test.result =
              { s.test.result with
                status := match x.ending with
                  | .none => .complete
                  | .yielded => .yielded
                  | .aborted => .aborted
                  | .supply => .supply } ∧
            t.feed[x.line].control = .callSide)))

/-- R141: a look that sees the subscriber off-hook ends the session Yielded at once: relay and source off, no
verdict, a TestDone report, the hook state OffHook, and the feed back on the call side. While the unit is
Isolated the line goes to Lockout; otherwise, of a class other than Priority and with no bearer it is
eligible for, it waits. -/
def Obligations.LookYieldsToSubscriber : Prop :=
  ∀ (s : State) (x : Session),
    s.test.session = some x → x.phase = .look → x.timer ≠ none → s.call[x.line].state = .testing →
    s.feed[x.line].control = .testUnit → s.classOf x.line ≠ .priority →
    (∀ b : Bearer, s.eligible (s.classOf x.line) b = false) →
    ∃ t, exec .lookOffHook s = .next t ∧
      SameBut [.sup, .brk, .feed, .call, .arbiter, .test, .reports, .quietRun] s t ∧ OtherLines x.line s t ∧
      t.test.session = none ∧ t.test.relay = none ∧ t.test.source = false ∧
      t.test.result = { s.test.result with status := .yielded, verdict := none } ∧
      t.reports = s.reports.append (s.urgentFor x.line)
        { kind := .testDone, line := some x.line, value := some 1 } ∧
      t.sup[x.line] = { s.sup[x.line] with hook := .offHook, hookCount := 0 } ∧
      t.feed[x.line].control = .callSide ∧ t.feed[x.line].held = none ∧ t.feed[x.line].target = .active ∧
      t.call[x.line].state = (if s.monitor.isolated = true then CallState.lockout else .waiting)

/-- R142: a converter sample is taken as the nearer end value where it lies beyond the range, and is added to
the window; one at an end value sets the clipped mark. The hundredth sample brings the window's end. There a
clipped window below gain ×1 is abandoned for a new one at the next lower gain; any other is completed, its entry
written at its gain with the over-range mark as clipped. R139: after it the next measurement is a look away in
courteous mode and begins at once in forced mode (a window's values stand until the next begins: log entry 30).
After the last measurement the verdict is formed and the Disconnect phase begins, with the test source deasserted
and the relay released (R145, R146); the result record shows the verdict from then on, with its status as it was
(the model's choice: log entry 27). -/
def Obligations.WindowsRangeDown : Prop :=
  ∀ (s : State) (x : Session) (m : Measurement),
    s.test.session = some x → x.phase = .measure → x.present = some m →
    (∀ value : Int,
      let v := max (-2048) (min 2047 value)
      let after : TestUnit :=
        { s.test with
          session := some
            { x with
              window := x.window + 1, sum := x.sum + v, squares := x.squares + v.natAbs ^ 2
              clipped := x.clipped || decide (v = -2048 ∨ v = 2047) } }
      (x.window < 99 →
        ∃ t, exec (.testConverterSample value) s = .next t ∧ SameBut [.test, .quietRun] s t ∧
          t.test = after) ∧
      (99 ≤ x.window →
        exec (.testConverterSample value) s = exec .measurementWindowEnd { s with test := after })) ∧
    (x.clipped = true → x.gain ≠ .x1 →
      ∃ t, exec .measurementWindowEnd s = .next t ∧ SameBut [.test, .quietRun] s t ∧
        t.test =
          { s.test with
            session := some
              { x with
                gain := (match x.gain with
                  | .x25 => .x5
                  | _ => .x1)
                window := 0, sum := 0, squares := 0, clipped := false } }) ∧
    (x.clipped = false ∨ x.gain = .x1 →
      ∃ t, exec .measurementWindowEnd s = .next t ∧ SameBut [.feed, .test, .quietRun] s t ∧
        OtherLines x.line s t ∧
        t.test.result.line = s.test.result.line ∧ t.test.result.mode = s.test.result.mode ∧
        t.test.result.status = s.test.result.status ∧
        (m = .dc → t.test.result.dc =
          some { value := dcResult x.gain x.sum, gain := x.gain, overRange := x.clipped }) ∧
        (m = .ac → t.test.result.ac =
          some { value := acResult x.gain x.sum x.squares, gain := x.gain, overRange := x.clipped }) ∧
        (m = .leakage → t.test.result.leakage =
          some
            { current := leakageCurrent x.gain x.sum
              resistance := leakageResistance (leakageCurrent x.gain x.sum)
              gain := x.gain, overRange := x.clipped }) ∧
        (m ≠ .dc → t.test.result.dc = s.test.result.dc) ∧ (m ≠ .ac → t.test.result.ac = s.test.result.ac) ∧
        (m ≠ .leakage → t.test.result.leakage = s.test.result.leakage) ∧
        (∀ (n : Measurement) (rest : List Measurement), x.remaining.tail = n :: rest →
          s.feed[x.line].settling = false → s.feed[x.line].current = .openLoop →
          t.test.relay = s.test.relay ∧ t.test.result.verdict = s.test.result.verdict ∧
          (x.mode = .courteous →
            t.feed[x.line] = s.feed[x.line].take .standby ∧ t.test.source = false ∧
              t.test.session = some
                { x with
                  remaining := n :: rest, phase := .look, present := none, lookCount := 0, timer := none }) ∧
          (x.mode = .forced →
            t.feed[x.line] = { s.feed[x.line] with target := .openLoop } ∧
              t.test.source = decide (n = .leakage) ∧
              t.test.session = some
                { x with
                  remaining := n :: rest, phase := .measure, present := some n, gain := .x25, window := 0
                  sum := 0, squares := 0, clipped := false, timer := none })) ∧
        (x.remaining.tail = [] →
          t.test.result.verdict = some (verdictOf { t.test.result with verdict := none }) ∧
            t.test.relay = none ∧ t.test.source = false ∧ t.feed[x.line] = s.feed[x.line].take .openLoop ∧
            ∃ y, t.test.session = some y ∧ y.phase = .disconnect ∧ y.timer = some 50 ∧ y.ending = .none))

/-- R143, R144, R145: the foreign DC voltage is q·Σs/100 to the nearest integer, halves away from zero; the AC
voltage is the floor of q·isqrt(100·Σs² − (Σs)²)/100; the leakage current is q_I·Σs/100 rounded as the DC
voltage is; the insulation resistance is the floor of 50000 over the current, at most 65535, and 65535 for a
current of 0 or less. (Rounding and the square root are said by what they satisfy.) The verdict is Hazard if the
DC entry exceeds 10000 mV in magnitude, or the AC entry 25000 mV, or either is over range; otherwise Leaky if
the Leakage entry is below 100 kΩ; otherwise Clean. -/
def Obligations.MeasurementsAndVerdict : Prop :=
  (∀ (g : Gain) (sum : Int) (squares : Nat),
      let q : Int := match g with
        | .x25 => 4
        | .x5 => 20
        | .x1 => 100
      let qI : Int := match g with
        | .x25 => 2
        | .x5 => 10
        | .x1 => 50
      let nearest (n r : Int) : Prop :=
        -100 ≤ 2 * n - 200 * r ∧ 2 * n - 200 * r ≤ 100 ∧
          (2 * n - 200 * r = 100 → n < 0) ∧ (2 * n - 200 * r = -100 → 0 < n)
      nearest (q * sum) (dcResult g sum) ∧ nearest (qI * sum) (leakageCurrent g sum) ∧
      (sum * sum ≤ 100 * squares → ∃ root : Nat,
        ((root ^ 2 : Nat) : Int) ≤ 100 * squares - sum * sum ∧
          100 * squares - sum * sum < (((root + 1) ^ 2 : Nat) : Int) ∧
          acResult g sum squares = (q * root / 100).toNat) ∧
      (∀ i : Int,
        (1 ≤ i → leakageResistance i = min 65535 (50000 / i).toNat) ∧
          (i ≤ 0 → leakageResistance i = 65535))) ∧
  (∀ r : ResultRecord,
      let hazard : Prop :=
        (∃ e, r.dc = some e ∧ (10000 < e.value.natAbs ∨ e.overRange = true)) ∨
          (∃ e, r.ac = some e ∧ (25000 < e.value.natAbs ∨ e.overRange = true))
      let leaky : Prop := ∃ e, r.leakage = some e ∧ e.resistance < 100
      (hazard → verdictOf r = .hazard) ∧ (¬hazard → leaky → verdictOf r = .leaky) ∧
        (¬hazard → ¬leaky → verdictOf r = .clean))

/-- R146, R147, R148: a Test Abort without a session is refused WrongState, one outside the Disconnect phase
begins it with ending status Aborted (the session's window and look fields at 0 and its gain kept, which no rule
states: log entry 30, the model's choice), and one in it is late. The Disconnect phase of a session whose line is
Steady in Open ends it with the status and a TestDone report, the line's counts at 0 (log entry 25), and hands the
line back. A line whose prior state is Disabled is Disabled, whatever the verdict, with fresh supervision (the
filtered current 0 and OnHook, by the model's reading of R7: log entry 12). On a
Hazard verdict any other line becomes Faulted with a Fault report. On a Clean verdict a line that was Faulted for
ForeignVoltage becomes Idle with a FaultCleared report, and off-hook handling follows if it is off-hook (here in
Isolated service, or for a class other than Priority with no bearer it is eligible for). In every other case the
line returns to its prior state: Idle, a Lockout in its phase with the tone and feed of that phase, or Faulted in
Open. -/
def Obligations.SessionEnds : Prop :=
  (∀ s : State, s.receives = true → s.test.session = none →
    ∃ t, exec (.testAbort .unit) s = .next t ∧ SameBut [.bus, .quietRun] s.atRequest t ∧
      Replied (.refused .wrongState) s t) ∧
  (∀ (s : State) (x : Session), s.test.session = some x →
    let u := s.atRequest
    (s.receives = true → x.phase ≠ .disconnect →
      ∃ t, exec (.testAbort .unit) s = .next t ∧ SameBut [.feed, .test, .bus, .quietRun] u t ∧
        OtherLines x.line s t ∧ Replied .accepted s t ∧ t.feed[x.line] = s.feed[x.line].take .openLoop ∧
        t.test =
          { result := s.test.result, relay := none, source := false
            session := some
              { x with
                phase := .disconnect, present := none, window := 0, sum := 0, squares := 0, clipped := false
                lookCount := 0, timer := some 50, ending := .aborted } }) ∧
    (s.receives = true → x.phase = .disconnect →
      ∃ t, exec (.testAbort .unit) s = .next t ∧ SameBut [.bus, .quietRun] u t ∧ Replied .late s t) ∧
    (∀ prior : CallState, s.call[x.line].prior = some prior →
      (prior = .idle ∨ prior = .lockout ∨ prior = .faulted ∨ prior = .disabled) →
      x.phase = .disconnect → x.timer ≠ none → s.call[x.line].state = .testing →
      s.call[x.line].bearer = none → s.feed[x.line].settling = false →
      s.feed[x.line].current = .openLoop → s.feed[x.line].control = .testUnit →
      let c := s.call[x.line]
      let hazard : Prop := x.ending = .none ∧ s.test.result.verdict = some .hazard
      let cured : Prop :=
        x.ending = .none ∧ s.test.result.verdict = some .clean ∧ prior = .faulted ∧
          c.fault = some .foreignVoltage
      let done := s.reports.append (s.urgentFor x.line)
        { kind := .testDone, line := some x.line, value := some x.ending.code }
      let cleared := done.append true { kind := .faultCleared, line := some x.line }
      let counts : Supervision :=
        { s.sup[x.line] with hookCount := 0, overCount := 0, foreignCount := 0, ringTripCount := 0 }
      let ended (t : State) : Prop :=
        exec .testDisconnectExpiry s = .next t ∧
          SameBut [.sup, .brk, .feed, .call, .arbiter, .test, .reports, .quietRun] s t ∧
          OtherLines x.line s t ∧ t.test.session = none ∧
          t.test.result =
            { s.test.result with
              status := match x.ending with
                | .none => .complete
                | .yielded => .yielded
                | .aborted => .aborted
                | .supply => .supply } ∧
          t.feed[x.line].control = .callSide ∧ t.feed[x.line].held = none
      let gives (sup : Supervision) (call : CallRecord) (target : FeedMode) (reports : Reports) : Prop :=
        ∃ t, ended t ∧ t.sup[x.line] = sup ∧ t.call[x.line] = call ∧ t.feed[x.line].target = target ∧
          t.reports = reports
      (prior = .disabled → gives {} { state := .disabled } .openLoop done) ∧
      (prior ≠ .disabled → hazard →
        gives counts { state := .faulted, fault := some .foreignVoltage } .openLoop
          (done.append true { kind := .fault, line := some x.line, value := some 2 })) ∧
      (prior = .idle → ¬hazard → gives counts { state := .idle } .standby done) ∧
      (prior = .lockout → ¬hazard →
        gives counts
          { c with
            state := .lockout, prior := none, early := [], lost := false
            path := match c.phase, c.cause with
              | some .tone, some .preempted =>
                .tone (if c.preemptionTone = none then .congestion else .preemption)
              | some .tone, some .isolated => .tone .isolation
              | some .tone, some _ => .tone .congestion
              | some .howler, _ => .tone .howler
              | _, _ => .none }
          (if c.phase = some .parked then .standby else .active) done) ∧
      (prior = .faulted → ¬hazard → ¬cured →
        gives counts { c with state := .faulted, path := .none, prior := none, early := [], lost := false }
          .openLoop done) ∧
      (cured → s.sup[x.line].hook = .onHook → gives counts { state := .idle } .standby cleared) ∧
      (cured → s.sup[x.line].hook = .offHook →
        s.monitor.isolated = true ∨
          s.classOf x.line ≠ .priority ∧ (∀ b : Bearer, s.eligible (s.classOf x.line) b = false) →
        ∃ t, ended t ∧ t.sup[x.line] = counts ∧ t.reports = cleared ∧ t.feed[x.line].target = .active ∧
          (s.monitor.isolated = true → t.call[x.line] = s.lockedOut .isolated) ∧
          (s.monitor.isolated = false → t.call[x.line] =
            { state := .waiting, path := .tone .wait
              timer := some { kind := .wait, left := 1000 * s.tables.timers.wait.toNat } }))))

/-! ## Chapter 9: supply, Quiet operation, the control monitor -/

/-- R151, R152, R154: a supply sample, taken as the nearer end value where it lies beyond 0 to 6553, sets the dip
mark when below CriticalEnter and joins the history of eight; a full history gives the average, and the average
the level by the table of R152: the new level is one whose row, of the level in force, holds of the average, which
under thresholds in their order is one level alone (R155; otherwise which of two is free: log entry 31). A level
that stays changes nothing else. A change queues the Supply report before all else (R153). A fall moves the lines
that no longer fit to the head of the ring queue, phase by phase, gives them Standby, and makes a fill (R130); one
to Critical sends a session that is not in its Disconnect phase there, with ending status Supply (R149; the
session's window and look fields at 0, which no rule states: log entry 30, the model's choice). A rise makes a
fill, and hands every Idle bearer to the arbiter in ascending order, with whatever lines wait (R111, R131). -/
def Obligations.SupplySampleSetsLevel : Prop :=
  ∀ (s : State) (value : Int), s.inRestart = false →
    let v := (max 0 (min 6553 value)).toNat
    let th := s.tables.thresholds
    let history :=
      if s.supply.history.length < 8 then s.supply.history ++ [v] else s.supply.history.tail ++ [v]
    let dip := s.supply.dip || decide (v < th.criticalEnter.toNat)
    let average := history.sum / 8
    let old := s.supply.level
    let lower := match old with
      | .critical => th.criticalExit.toNat
      | _ => th.criticalEnter.toNat
    let upper := match old with
      | .normal => th.lowEnter.toNat
      | _ => th.lowExit.toNat
    (s.supply.history.length < 7 →
      ∃ t, exec (.supplySample value) s = .next t ∧ SameBut [.supply, .quietRun] s t ∧
        t.supply = { s.supply with history := history, dip := dip }) ∧
    (s.supply.history.length = 7 ∨ s.supply.history.length = 8 →
      ∃ level : Level,
        let supply : Supply := { history := history, dip := dip, average := some average, level := level }
        let reports := s.reports.append true
          { kind := .supply, value := some (level.code + if dip = true then 128 else 0) }
        (level = .critical → average < lower) ∧ (level = .low → lower ≤ average ∧ average < upper) ∧
        (level = .normal → upper ≤ average) ∧
        ∃ t, exec (.supplySample value) s = .next t ∧ t.supply = supply ∧
          (level = old → SameBut [.supply, .quietRun] s t) ∧
          (old.code < level.code →
            let permits (l : Line) : Bool := decide (level = .critical → s.classOf l = .priority)
            let kept (k : Fin 4) : List Line := (s.ringer.phases[k].filter permits).take 1
            let moved : List Line :=
              ([0, 1, 2, 3] : List (Fin 4)).flatMap fun k =>
                s.ringer.phases[k].filter fun l => decide (l ∉ kept k)
            let filled := fillWalk permits 1 (moved ++ s.ringer.queue) #v[kept 0, kept 1, kept 2, kept 3]
            SameBut [.feed, .ringer, .supply, .test, .reports, .quietRun] s t ∧ t.reports = reports ∧
              t.ringer = { s.ringer with phases := filled.1, queue := filled.2 } ∧
              (∀ l : Line,
                (∀ x, s.test.session = some x → level = .critical → x.phase ≠ .disconnect → x.line ≠ l) →
                t.feed[l] = if l ∈ moved then s.feed[l].callTarget .standby else s.feed[l]) ∧
              ((∀ x, s.test.session = some x → level = .critical → x.phase = .disconnect) →
                t.test = s.test) ∧
              ∀ x, s.test.session = some x → level = .critical → x.phase ≠ .disconnect →
                t.test =
                    { result := s.test.result, relay := none, source := false
                      session := some
                        { x with
                          phase := .disconnect, present := none, window := 0, sum := 0, squares := 0
                          clipped := false, lookCount := 0, timer := some 50, ending := .supply } } ∧
                  (x.line ∉ moved → t.feed[x.line] = s.feed[x.line].take .openLoop)) ∧
          (level.code < old.code →
            SameBut [.quietRun]
              ((allBearers.filter fun b : Bearer => decide ((s.bearer b).state = .idle)).foldl
                (fun x b => freedRun b x) (fill { s with supply := supply, reports := reports })) t))

/-- R154, R155: Clear Supply Dip clears the mark. Set Supply Thresholds replaces all four thresholds if
CriticalEnter < CriticalExit ≤ LowEnter < LowExit ≤ 6553, recomputing the reference digest (R177), and else
is refused OutOfRange; neither evaluates the level. -/
def Obligations.SupplySettings : Prop :=
  ∀ (s : State) (ce cx le lx : Word16), s.receives = true →
    let u := s.atRequest
    let ordered : Prop :=
      ce.toNat < cx.toNat ∧ cx.toNat ≤ le.toNat ∧ le.toNat < lx.toNat ∧ lx.toNat ≤ 6553
    let new : Tables :=
      { s.tables with
        thresholds := { criticalEnter := ce, criticalExit := cx, lowEnter := le, lowExit := lx } }
    (∃ t, exec (.clearSupplyDip .unit) s = .next t ∧ SameBut [.supply, .bus, .quietRun] u t ∧
      t.supply = { s.supply with dip := false } ∧ Replied .accepted s t) ∧
    (∃ t, exec (.setSupplyThresholds .unit ce cx le lx) s = .next t ∧
      (ordered → SameBut [.tables, .watch, .bus, .quietRun] u t ∧ t.tables = new ∧
        t.monitor.watch = { u.monitor.watch with reference := digest new } ∧ Replied .accepted s t) ∧
      (¬ordered → SameBut [.bus, .quietRun] u t ∧ Replied (.refused .outOfRange) s t))

/-- R157, R2, R158: the quiet timer's expiry sets Quiet On and nothing else, and the next round is scanned at
16 ms from L0; with Quiet Off it is scanned at 2 ms. R156, R158: what the end of an event `f` does to the quiet
timer: stopped, with Quiet Off, when the condition does not hold; stopped while Quiet is On; started with the
quiet delay when the condition has come to hold or Quiet has ended; running on otherwise; and never running
with a delay of 0. (That the timer is run once, at the end of the event, by the condition before and after it is
the model's reading: log entry 15.) -/
def Obligations.QuietLengthensTheRound : Prop :=
  (∀ s : State,
    (s.monitor.quietTimer ≠ none → s.monitor.quiet = false → s.quietCondition = true →
      ∃ t, exec .quietTimerExpiry s = .next t ∧ SameBut [.quietRun] s t ∧ t.monitor.quiet = true ∧
        t.monitor.quietTimer = none) ∧
    (s.inRestart = false →
      ∃ t, exec .scanRoundStart s = .next t ∧ SameBut [.scanner] s t ∧
        t.scanner = { period := if s.monitor.quiet = true then .ms16 else .ms2, position := 0 })) ∧
  ∀ (f : State → State) (s : State),
    let a := f s
    let t := event f s
    let delay := a.tables.timers.quietDelay.toNat
    SameBut [.quietRun] a t ∧
      (a.quietCondition = false → t.monitor.quiet = false ∧ t.monitor.quietTimer = none) ∧
      (a.quietCondition = true → t.monitor.quiet = a.monitor.quiet ∧
        (a.monitor.quiet = true → t.monitor.quietTimer = none) ∧
        (delay = 0 → t.monitor.quietTimer = none) ∧
        (delay ≠ 0 → a.monitor.quiet = false → s.monitor.quiet = true ∨ s.quietCondition = false →
          t.monitor.quietTimer = some (1000 * delay)) ∧
        (delay ≠ 0 → a.monitor.quiet = false → s.monitor.quiet = false → s.quietCondition = true →
          t.monitor.quietTimer = a.monitor.quietTimer))

/-- R159 to R161, R96a, R118, R120: Arm Monitor sets the interval and starts the countdown, outside 2 to 60 s
it is refused. When the countdown runs out Isolated service begins: no line is Waiting or Seizing any more, the
arrival list is empty and no handover is in flight; lines in other states keep their records. The bearers of
the Seizing lines go to Clearing, each with a Release report of cause AnswerTimeout, and the other bearers are
as they were. (The reports in ascending line order: log entry 22.) -/
def Obligations.MonitorIsolates : Prop :=
  ∀ s : State,
    (∀ interval : Byte, s.receives = true →
      let u := s.atRequest
      ∃ t, exec (.armMonitor .unit interval) s = .next t ∧
        (2 ≤ interval.toNat → interval.toNat ≤ 60 → SameBut [.watch, .bus, .quietRun] u t ∧
          t.monitor.watch =
            { u.monitor.watch with
              armed := true, interval := some interval.toNat, countdown := some (1000 * interval.toNat) } ∧
          Replied .accepted s t) ∧
        (interval.toNat < 2 ∨ 60 < interval.toNat → SameBut [.bus, .quietRun] u t ∧
          Replied (.refused .outOfRange) s t)) ∧
    (s.monitor.countdown ≠ none →
      (∀ h, s.arbiter.handover = some h → s.call[h.line].state = .seizing ∧ s.call[h.line].bearer = some h.bearer) →
      let seizes (l : Line) (b : Bearer) : Prop := s.call[l].state = .seizing ∧ s.call[l].bearer = some b
      ∃ t, exec .monitorCountdownExpiry s = .next t ∧
        SameBut [.brk, .feed, .call, .bearers, .arbiter, .reports, .quietRun, .watch] s t ∧
        t.monitor.watch = { s.monitor.watch with countdown := none, isolated := true } ∧
        t.arbiter = { s.arbiter with arrivals := [], handover := none } ∧
        (∀ l : Line,
          (s.call[l].state = .waiting ∨ s.call[l].state = .seizing → s.sup[l].hook = .offHook →
            t.call[l] = s.lockedOut .isolated ∧ t.feed[l] = s.feed[l].callTarget .active) ∧
          (s.call[l].state = .waiting ∨ s.call[l].state = .seizing → s.sup[l].hook = .onHook →
            t.call[l] = { state := .idle }) ∧
          (s.call[l].state ≠ .waiting → s.call[l].state ≠ .seizing →
            t.call[l] = s.call[l] ∧ t.feed[l] = s.feed[l] ∧ t.brk[l] = s.brk[l])) ∧
        SameLink s t ∧
        (∀ (l : Line) (b : Bearer), seizes l b → (s.bearer b).line = some l →
          t.bearer b = s.clearingRecord b l ∧ b ∉ t.bearers.connection) ∧
        (∀ b : Bearer, (∀ l : Line, ¬seizes l b) → t.bearer b = s.bearer b) ∧
        t.reports = allLines.foldl
          (fun q l => match s.call[l].state, s.call[l].bearer with
            | .seizing, some b => q.append (s.urgentFor l)
              { kind := .release, line := some l, bearer := some b, value := some 0 }
            | _, _ => q) s.reports)

/-! ## Chapter 10: frames, replies and readiness -/

/-- R163: a byte on the bus is 11 bits: a start bit (low), 8 data bits, least significant first, a parity bit
that makes the number of ones in data and parity even, and a stop bit (high); it has a byte error exactly if
its parity bit does not give even parity or its stop bit is not high. R164, R165: the bytes of a frame addressed
to the unit or broadcast, arriving one by one without byte error at a listening unit, are taken as the request
of their payload: nothing else of the state depends on how the frame came. A byte is two events, its start bit
and the rest of it (the model's form: log entry 29), after each of which the quiet timer is run. -/
def Obligations.FrameBytesAreTheirRequest : Prop :=
  (∀ (v : Byte) (parity stop : Bool),
    let data : List Bool := (List.range 8).map v.getLsbD
    wireBits v = [false] ++ data ++ [parityBit v, true] ∧
      ((data ++ [parityBit v]).count true) % 2 = 0 ∧
      (byteError v parity stop = true ↔ ((data ++ [parity]).count true) % 2 = 1 ∨ stop = false)) ∧
  (∀ (s : State) (payload : List Byte), s.listening → 1 ≤ payload.length → payload.length ≤ 60 →
    let arrive (s : State) (v : Byte) : State := bytePart v (.rest (parityBit v) true) (bytePart v .start s)
    (frameBytes (BitVec.ofNat 8 s.bus.address.val) payload).foldl arrive s = takePayload .unit payload s ∧
      (frameBytes 0x0F payload).foldl arrive s = takePayload .broadcast payload s) ∧
  ∀ (s : State) (v : Byte) (part : BytePart),
    ∃ t, exec (.busByteReceived v part) s = .next t ∧ SameBut [.quietRun] (bytePart v part s) t

/-- R164, R165, R160, R168: frames for other addresses, and frames whose bytes do not add up to 0x5A, leave the
state as it was but for the gap timer, which stops; so they neither reply, reload the monitor nor cancel a
reply. A byte error discards the frame in assembly, and so does the gap timer running out; the gap timer runs
from the end of a byte within a frame, with 5 ms, to the start bit of the next, which stops it before it has
run out. A length byte of 1 to 60 is taken; 0, or one above 60, discards the frame. -/
def Obligations.OtherFramesAreDropped : Prop :=
  (∀ (s : State) (address check : Byte) (payload : List Byte), s.listening →
    1 ≤ payload.length → payload.length ≤ 60 →
    (address ≠ BitVec.ofNat 8 s.bus.address.val ∧ address ≠ 0x0F ∨ check ≠ checkByte address payload) →
    let arrive (s : State) (v : Byte) : State := bytePart v (.rest (parityBit v) true) (bytePart v .start s)
    ([0xA6, address, BitVec.ofNat 8 payload.length] ++ payload ++ [check]).foldl arrive s =
      { s with bus := { s.bus with gap := none } }) ∧
  (∀ s : State, s.receives = true →
    (∀ (v : Byte) (parity stop : Bool), s.bus.reception = .taken → s.bus.assembly.state ≠ .hunting →
      parity ≠ parityBit v ∨ stop = false →
      ∃ t, exec (.busByteReceived v (.rest parity stop)) s = .next t ∧ SameBut [.bus, .quietRun] s t ∧
        t.bus.assembly = {} ∧ t.bus.gap = none ∧ t.bus.reception = .none ∧ t.bus.pending = s.bus.pending ∧
        (t.bus.lowTimer = none ↔ stop = true)) ∧
    (∀ v : Byte, s.bus.reception = .taken → s.bus.assembly.state = .payload →
      s.bus.assembly.payload.length + 1 < (s.bus.assembly.length.getD 0).toNat →
      ∃ t, exec (.busByteReceived v (.rest (parityBit v) true)) s = .next t ∧ SameBut [.bus, .quietRun] s t ∧
        t.bus.gap = some 5 ∧
        t.bus.assembly = { s.bus.assembly with payload := s.bus.assembly.payload ++ [v] }) ∧
    (∀ v : Byte, s.bus.reception = .taken → s.bus.assembly.state = .length →
      ∃ t, exec (.busByteReceived v (.rest (parityBit v) true)) s = .next t ∧ SameBut [.bus, .quietRun] s t ∧
        t.bus.reception = .none ∧ t.bus.lowTimer = none ∧ t.bus.pending = s.bus.pending ∧
        (1 ≤ v.toNat → v.toNat ≤ 60 → t.bus.gap = some 5 ∧
          t.bus.assembly = { s.bus.assembly with state := .payload, length := some v }) ∧
        (v.toNat = 0 ∨ 60 < v.toNat → t.bus.gap = none ∧ t.bus.assembly = {})) ∧
    (s.bus.lowTimer = none → s.bus.reception = .none →
      ∀ v : Byte, ∃ t, exec (.busByteReceived v .start) s = .next t ∧ SameBut [.bus, .quietRun] s t ∧
        t.bus =
          { s.bus with gap := none, reception := .taken, lowTimer := some 0, readyTimer := none })) ∧
  (∀ s : State, s.bus.gap ≠ none →
    ∃ t, exec .gapTimerExpiry s = .next t ∧ SameBut [.bus] s t ∧
      t.bus = { s.bus with assembly := {}, gap := none })

/-- 11, section 11.7: each request command is the arrival of a frame with the payload that its layout gives.
Restart with scope Full carries the levels that the strap pins have then; where received bytes are ignored its
frame is lost (log entry 6). -/
def Obligations.RequestsAreTheirPayloads : Prop :=
  ∀ (d : Addressee) (s : State),
    let hi (w : Word16) : Byte := w.extractLsb' 8 8
    let lo (w : Word16) : Byte := w.extractLsb' 0 8
    let asks (c : Instr) (p : List Byte) : Prop := exec c s = .next (event (takePayload d p) s)
    (exec (.poll d) s = .next (takePayload d [0x10] s) ∧
      (∀ l, exec (.lineQuery d l) s = .next (takePayload d [0x11, l] s)) ∧
      (∀ b, exec (.bearerQuery d b) s = .next (takePayload d [0x12, b] s)) ∧
      (∀ n, exec (.unitQuery d n) s = .next (takePayload d [0x13, n] s)) ∧
      exec (.testResult d) s = .next (takePayload d [0x14] s) ∧
      exec (.readDigest d) s = .next (takePayload d [0x15] s)) ∧
    (∀ p k m a b c fl,
      asks (.setProfile d p k m a b c fl) [0x20, p, k, m, hi a, lo a, hi b, lo b, hi c, lo c, fl]) ∧
    (∀ l e p c r, asks (.setLine d l e p c r) [0x21, l, e, p, c, r]) ∧
    (∀ a b c e, asks (.setClassMap d a b c e) [0x22, hi a, lo a, hi b, lo b, hi c, lo c, hi e, lo e]) ∧
    (∀ a b c e f g h i, asks (.setArbiterPhases d a b c e f g h i) [0x23, a, b, c, e, f, g, h, i]) ∧
    (∀ a b c e f g q, asks (.setTimers d a b c e f g q) [0x24, a, b, c, e, f, g, hi q, lo q]) ∧
    (∀ a b c e, asks (.setSupplyThresholds d a b c e) [0x25, hi a, lo a, hi b, lo b, hi c, lo c, hi e, lo e]) ∧
    (∀ v, asks (.setAttention d v) [0x26, v]) ∧ asks (.clearSupplyDip d) [0x27] ∧
    (∀ n, asks (.armMonitor d n) [0x28, n]) ∧ asks (.restartCalls d) [0x2F, 1] ∧
    (∀ (a : Fin 4) (r : BusRate),
      (s.receives = true → exec (.restartFull d a r) s =
        .next (takePayload d [0x2F, 0] { s with strapPins := { address := a, rate := r } })) ∧
      (s.receives = false → exec (.restartFull d a r) s = .next s.lostFrame)) ∧
    (∀ n, asks (.linkStateDown d n) [0x30, 0, n] ∧ asks (.linkStateUp d n) [0x30, 1, n]) ∧
    (∀ w, asks (.bearerCheck d w) [0x31, hi w, lo w]) ∧
    (∀ b, asks (.bar d b) [0x32, b] ∧ asks (.unbar d b) [0x33, b] ∧ asks (.releaseAcknowledge d b) [0x34, b]) ∧
    (∀ l b, asks (.grant d l b) [0x40, l, b] ∧ asks (.refuse d l b) [0x41, l, b] ∧
      asks (.release d l b) [0x42, l, b]) ∧
    (∀ l b r, asks (.incoming d l b r) [0x43, l, b, r]) ∧ (∀ l, asks (.farAnswer d l) [0x44, l]) ∧
    (∀ l m o, asks (.testLine d l m o) [0x50, l, m, o]) ∧ asks (.testAbort d) [0x51]

/-- R171, R166: a payload with an unknown code is refused UnknownRequest, and one of another length than its
code's BadLength (that a bad length with Incoming's code leaves Quiet as it was is the model's choice: log entry
18); a broadcast with an unknown code is ignored. The monitor is reloaded in every case (R160). R169, R167 (for
whole-frame commands the model's reading: log entry 6): a frame that comes while the ready mark is Clear, in a
restart or while a reply is being sent is lost, whatever it asks; its bytes leave the receive line high, from where
on the 5 ms of the ready mark count, and have no other effect. A byte that comes then, or whose start
bit came then (log entry 29), acts on the receive line's own state alone: no frame is assembled. -/
def Obligations.FramesWithoutOwner : Prop :=
  (∀ (s : State) (code : Byte) (rest : List Byte), s.receives = true →
      let u := s.atRequest
      (requestCodes.contains code.toNat = false →
        (∃ t, takePayload .unit (code :: rest) s = t ∧ SameBut [.bus] u t ∧
          Replied (.refused .unknownRequest) s t) ∧
        takePayload .broadcast (code :: rest) s = u ∧
        exec (.unknownRequestCode .unit code) s = .next (takePayload .unit (code :: rest) s) ∧
        exec (.unknownRequestCode .broadcast code) s = .next u) ∧
      (∀ n, requestLength code.toNat = some n → rest.length + 1 ≠ n →
        ∃ t, takePayload .unit (code :: rest) s = t ∧ SameBut [.bus] u t ∧ Replied (.refused .badLength) s t)) ∧
  (∀ s : State,
      let unassembled (v : Byte) (part : BytePart) : Prop :=
        ∃ t, exec (.busByteReceived v part) s = .next t ∧ SameBut [.bus, .quietRun] s t ∧
          t.bus.assembly = s.bus.assembly ∧ t.bus.pending = s.bus.pending ∧ t.bus.ready = s.bus.ready ∧
          t.bus.address = s.bus.address ∧ t.bus.rate = s.bus.rate
      (s.receives = false →
        (∀ (d : Addressee) (payload : List Byte), takePayload d payload s = s.lostFrame) ∧
        (∀ (v : Byte) (part : BytePart), unassembled v part) ∧
        (s.bus.lowTimer = none → s.bus.reception = .none → s.inRestart = false →
          ∀ v : Byte, ∃ t, exec (.busByteReceived v .start) s = .next t ∧ t.bus.reception = .ignored)) ∧
      (s.bus.reception = .ignored → ∀ (v : Byte) (parity stop : Bool), unassembled v (.rest parity stop)))

/-- R166, steps 1 to 3 and 5, R160: what a frame does before its request is acted on: a Waiting reply is
cancelled, Isolated service ends with a ControlRestored report, and an armed monitor's countdown starts
afresh. A broadcast of a request that may not be broadcast does this alone; one that may forms no reply and
otherwise has the same effect. The requests that may are Set Profile, Set Class Map, Set Arbiter Phases, Set
Timers, Set Supply Thresholds, Clear Supply Dip, Arm Monitor and Restart; all others may not. (A whole frame leaves
the receive line high between two bytes: log entry 29.) -/
def Obligations.FramesReloadAndBroadcastsAreSilent : Prop :=
  ∀ (s : State), s.receives = true →
    let u := s.atRequest
    SameBut [.watch, .reports, .bus] s u ∧
    u.bus =
      { s.bus with assembly := {}, gap := none, reception := .none, pending := .none, lowTimer := none } ∧
    u.monitor.watch =
      { s.monitor.watch with
        isolated := false
        countdown := if s.monitor.armed = true then s.monitor.interval.map (1000 * ·) else s.monitor.countdown } ∧
    u.reports =
      (if s.monitor.isolated = true then s.reports.append true { kind := .controlRestored } else s.reports) ∧
    (∀ request : Request, takeFrame .broadcast false request s = u) ∧
    (∀ request : Request, (request u).1.bus = u.bus →
      takeFrame .broadcast true request s = (request u).1 ∧
        takeFrame .unit true request s =
          { (request u).1 with bus := { u.bus with pending := .waiting (request u).2 0 } }) ∧
    (∀ (a b c e f g h i : Byte) (w x y z : Word16) (pin : Fin 4) (rate : BusRate),
      let acts (command : Addressee → Instr) : Prop :=
        ∃ t, exec (command .broadcast) s = .next t ∧ t.bus.pending = .none ∧
          ∃ r : Reply, exec (command .unit) s = .next (t.setBus { t.bus with pending := .waiting r 0 })
      acts (.setProfile · a b c w x y e) ∧ acts (.setClassMap · w x y z) ∧
      acts (.setArbiterPhases · a b c e f g h i) ∧ acts (.setTimers · a b c e f g w) ∧
      acts (.setSupplyThresholds · w x y z) ∧ acts .clearSupplyDip ∧ acts (.armMonitor · a) ∧
      acts .restartCalls ∧
      exec (.restartFull .broadcast pin rate) s = exec (.restartFull .unit pin rate) s ∧
      ∀ command ∈
        ([.poll, (.lineQuery · a), (.bearerQuery · a), (.unitQuery · a), .testResult, .readDigest,
          (.setLine · a b c e f), (.setAttention · a), (.linkStateUp · a), (.linkStateDown · a),
          (.bearerCheck · w), (.bar · a), (.unbar · a), (.releaseAcknowledge · a), (.grant · a b),
          (.refuse · a b), (.release · a b), (.incoming · a b c), (.farAnswer · a), (.testLine · a b c),
          .testAbort] : List (Addressee → Instr)),
        ∃ t, exec (command .broadcast) s = .next t ∧ SameBut [.quietRun] u t)

/-- R174, R72, R150, R162, R177, R173; 11, section 11.7: the queries answer Data composed from the state at
their arrival and change none of it, with the bytes of their layouts in order: numbers of two or four bytes most
significant byte first, in two's complement; named values by their positions (the line timer's kinds from
Answer 1 on and routine attention Enabled 0, Disabled 1: log entry 8); absent items 255 or 0xFFFF; times rounded
up to their units. Section 2 gives the countdown and the Isolated mark as they stood before the query reloaded
the monitor. Poll composes its reply only when its transmission begins. A section above 2 is refused
OutOfRange. -/
def Obligations.QueriesAnswerAndChangeNothing : Prop :=
  (∀ (s : State), s.receives = true →
    let u := s.atRequest
    let answers (c : Instr) (bytes : List Byte) : Prop :=
      ∃ t, exec c s = .next t ∧ SameBut [.bus] u t ∧ Replied (.data bytes) s t
    let one (n : Nat) : Byte := BitVec.ofNat 8 n
    let absent (o : Option Nat) : Byte := BitVec.ofNat 8 (o.getD 255)
    let mark (b : Bool) : Byte := if b = true then 1 else 0
    let two (n : Nat) : List Byte := [BitVec.ofNat 8 (n / 256), BitVec.ofNat 8 n]
    let units (size : Nat) (time : Option Nat) : List Byte :=
      two ((time.map fun n => (n + (size - 1)) / size).getD 65535)
    let signed (i : Int) : List Byte :=
      let n := (i % 4294967296).toNat
      [BitVec.ofNat 8 (n / 16777216), BitVec.ofNat 8 (n / 65536), BitVec.ofNat 8 (n / 256), BitVec.ofNat 8 n]
    let waiting := s.arbiter.arrivals.filter fun a => decide (a.standing = .waiting)
    let phase (p : Fin 4) : List Byte :=
      [absent (s.ringer.phases[p][0]?.map Fin.val), absent (s.ringer.phases[p][1]?.map Fin.val)]
    let th := s.tables.thresholds
    let result := s.test.result
    let voltage (o : Option VoltageEntry) : List Byte :=
      match o with
      | some e => signed e.value ++ [one e.gain.code, mark e.overRange]
      | none => List.replicate 6 0
    (∀ l : Line,
      let c := s.call[l]
      answers (.lineQuery .unit (one l.val))
        ([one l.val, one c.state.code, absent (c.bearer.map Fin.val),
            one (match c.path with | .none => 0 | .bearer _ => 1 | .tone _ => 2),
            one (match c.path with | .none => 255 | .bearer b => b.val | .tone k => k.code),
            absent (c.cause.map LockoutCause.code), absent (c.phase.map LockoutPhase.code),
            absent (c.fault.map FaultKind.code), absent (c.retry.map RetryPhase.code), one c.early.length,
            mark c.lost, absent (c.prior.map CallState.code), absent (c.timer.map fun k => k.kind.code)] ++
          units 100 (c.timer.map LineTimer.left) ++ [one s.sup[l].hook.code] ++
          two (s.sup[l].f % 65536).toNat ++
          [one s.brk[l].pulses, mark s.brk[l].inDigit, one s.feed[l].current.code, one s.feed[l].target.code,
            mark s.feed[l].settling,
            one (match s.ringPlace l with
              | none => 255
              | some (.phase p) => p.val
              | some (.queue position) => 31 + position),
            one s.ringer.counts[l]])) ∧
    (∀ b : Bearer,
      let r := s.bearer b
      answers (.bearerQuery .unit (one b.val))
        [one b.val, one r.state.code, absent (r.line.map Fin.val), absent (r.formerLine.map Fin.val),
          mark r.barPending,
          if b ∈ s.bearers.connection then one (s.bearers.connection.idxOf b + 1) else 255]) ∧
    answers (.unitQuery .unit 0)
      ([0, mark s.bearers.linkUp, absent s.bearers.inService,
            absent (s.arbiter.handover.map fun h => h.bearer.val),
            absent (s.arbiter.handover.map fun h => h.line.val),
            absent (s.arbiter.handover.map fun h => (h.left + 9) / 10), one s.arbiter.pointer.val,
            one s.bearers.connection.length] ++
          s.bearers.connection.map (fun b => one b.val) ++ [one waiting.length] ++
          waiting.map fun a => one (a.line.val + 32 * a.cls.code)) ∧
    answers (.unitQuery .unit 1)
      ([1, one (match s.ringer.wheel with | .stopped => 0 | .running _ _ => 1),
            one (match s.ringer.wheel with | .stopped => 255 | .running p _ => p.val)] ++
          phase 0 ++ phase 1 ++ phase 2 ++ phase 3 ++ [one s.ringer.queue.length] ++
          s.ringer.queue.map fun l => one l.val) ∧
    answers (.unitQuery .unit 2)
      ([2, one s.supply.level.code] ++ two (s.supply.average.getD 65535) ++
          [one s.supply.history.length, mark s.supply.dip] ++
          two th.criticalEnter.toNat ++ two th.criticalExit.toNat ++ two th.lowEnter.toNat ++
          two th.lowExit.toNat ++ [mark s.monitor.quiet] ++ units 1000 s.monitor.quietTimer ++
          [mark s.monitor.armed, absent s.monitor.interval] ++ units 100 s.monitor.countdown ++
          [mark s.monitor.isolated, one u.reports.urgent.length, one u.reports.routine.length,
            mark u.reports.overflow, mark (!u.reports.routineAttention)]) ∧
    answers (.testResult .unit)
        ([absent (result.line.map Fin.val), absent (result.mode.map TestMode.code), one result.status.code,
            absent (result.verdict.map Verdict.code),
            one ((if result.dc ≠ none then 1 else 0) + (if result.ac ≠ none then 2 else 0) +
              if result.leakage ≠ none then 4 else 0)] ++
          voltage result.dc ++ voltage result.ac ++
          (match result.leakage with
            | some e => signed e.current ++ two e.resistance ++ [one e.gain.code, mark e.overRange]
            | none => List.replicate 8 0)) ∧
    (∀ hi lo : Byte, s.monitor.reference = hi ++ lo → answers (.readDigest .unit) [hi, lo]) ∧
    (∃ t, exec (.poll .unit) s = .next t ∧ SameBut [.bus] u t ∧ Replied .poll s t) ∧
    (∀ n : Byte, 2 < n.toNat →
      ∃ t, exec (.unitQuery .unit n) s = .next t ∧ SameBut [.bus] u t ∧ Replied (.refused .outOfRange) s t)) ∧
  ([CallState.disabled, .idle, .waiting, .seizing, .connected, .ringing, .lockout, .testing, .faulted].map
      CallState.code = List.range 9 ∧
    [BearerState.absent, .unchecked, .idle, .held, .reserved, .engaged, .handover, .clearing, .barred].map
      BearerState.code = List.range 9 ∧
    [Tone.wait, .congestion, .isolation, .preemption, .howler].map Tone.code = List.range 5 ∧
    [LockoutCause.congestion, .released, .preempted, .isolated].map LockoutCause.code = List.range 4 ∧
    [LockoutPhase.tone, .howler, .parked].map LockoutPhase.code = List.range 3 ∧
    [FaultKind.overcurrent, .foreignBattery, .foreignVoltage].map FaultKind.code = List.range 3 ∧
    [RetryPhase.wait, .look].map RetryPhase.code = List.range 2 ∧
    [TimerKind.answer, .wait, .tonePhase, .howlerPhase, .retryWait, .retryLook].map TimerKind.code =
      (List.range 6).map (· + 1) ∧
    [Hook.onHook, .offHook].map Hook.code = List.range 2 ∧
    [FeedMode.openLoop, .standby, .active, .reverse, .ring].map FeedMode.code = List.range 5 ∧
    [Machine.Class.priority, .standard, .economy, .alarm].map Machine.Class.code = List.range 4 ∧
    [Level.normal, .low, .critical].map Level.code = List.range 3 ∧
    [TestMode.courteous, .forced].map TestMode.code = List.range 2 ∧
    [ResultStatus.none, .inProgress, .complete, .yielded, .aborted, .supply].map ResultStatus.code =
      List.range 6 ∧
    [Verdict.hazard, .leaky, .clean].map Verdict.code = List.range 3 ∧
    [Gain.x25, .x5, .x1].map Gain.code = List.range 3)

/-- R173, R167: when the transmission of a Poll reply begins, it takes up to 14 reports, urgent ones first, and
13 and an Overflow report where the overflow mark is Set, which becomes Clear; the payload gives the counts
left and then the reports taken. Any other Waiting reply begins with its own payload and takes none. No reply
begins in the first millisecond after its request, and one that nothing has begun before begins at 8 ms, in a
step with an empty queue. The end of the transmission makes the pending reply None. R169: the ready mark is
set once the receive line has been high for 5 ms since the end of a restart. A receive line that returns high
outside a restart reads no straps (R163), and begins the 5 ms anew where the mark is still Clear, as the stop
bit of a byte does, whose start bit ended them; a stop bit that is not high ends them too, whatever the line did
within the byte. No step leaves them running while the line is low. (A byte that arrives as a reply
begins is ignored from then on, and a transmission lasts whole milliseconds: log entries 17 and 29.) -/
def Obligations.RepliesAndReadiness : Prop :=
  (∀ (s : State) (age : Nat),
      let q := s.reports
      let limit := if q.overflow = true then 13 else 14
      let taken := (q.urgent ++ q.routine).take limit ++ if q.overflow = true then [{ kind := .overflow }] else []
      let sending (t : State) (payload : List Byte) : Prop :=
        ∃ left, t.bus =
          { s.bus with
            assembly := {}, gap := none
            reception := if s.bus.reception = .none then .none else .ignored
            pending := .transmitting (frameBytes (BitVec.ofNat 8 (0x80 + s.bus.address.val)) payload) left }
      (∀ r : Reply, s.bus.pending = .waiting r 0 → exec .replyTransmitStart s = .next s) ∧
      (s.bus.pending = .waiting .poll age → 1 ≤ age →
        ∃ t, exec .replyTransmitStart s = .next t ∧ SameBut [.reports, .bus] s t ∧
          t.reports.urgent = q.urgent.drop limit ∧ t.reports.overflow = false ∧
          t.reports.routineAttention = q.routineAttention ∧
          t.reports.urgent ++ t.reports.routine = (q.urgent ++ q.routine).drop limit ∧
          sending t ([0x01, BitVec.ofNat 8 t.reports.urgent.length, BitVec.ofNat 8 t.reports.routine.length] ++
            taken.flatMap Report.bytes) ∧
          t.transmitEnable = true) ∧
      (∀ r : Reply, s.bus.pending = .waiting r age → r ≠ .poll → 1 ≤ age →
        ∃ t, exec .replyTransmitStart s = .next t ∧ SameBut [.bus] s t ∧ sending t r.payload) ∧
      (∀ frame left, s.bus.pending = .transmitting frame left →
        s.transmitBits = frame.flatMap wireBits ∧
        ∃ t, exec .replyTransmitEnd s = .next t ∧ SameBut [.bus] s t ∧ t.transmitEnable = false ∧
          t.bus = { s.bus with assembly := {}, gap := none, pending := .none })) ∧
  (∀ s : State, s.pending = [] → s.inRestart = false → (∀ n, s.bus.lowTimer = some n → n < 49) →
      (∀ r age, s.bus.pending = .waiting r age →
        ∃ t, step s = .next t ∧ (age < 7 → t.bus.pending = .waiting r (age + 1)) ∧
          (7 ≤ age → t.transmitEnable = true)) ∧
      (∀ frame left, s.bus.pending = .transmitting frame left →
        ∃ t, step s = .next t ∧ (2 ≤ left → t.bus.pending = .transmitting frame (left - 1)) ∧
          (left ≤ 1 → t.bus.pending = .none)) ∧
      (∀ left, s.bus.readyTimer = some left →
        ∃ t, step s = .next t ∧
          (2 ≤ left → t.bus.readyTimer = some (left - 1) ∧ t.bus.ready = s.bus.ready) ∧
          (left ≤ 1 → t.bus.readyTimer = none ∧ t.bus.ready = true))) ∧
  (∀ (s : State) (a : Fin 4) (r : BusRate), s.inRestart = false →
      (s.bus.readyTimer ≠ none →
        ∃ t, exec .readyMarkSet s = .next t ∧ SameBut [.bus] s t ∧
          t.bus = { s.bus with ready := true, readyTimer := none }) ∧
      (∃ t, exec (.receiveLineHigh a r) s = .next t ∧ SameBut [.bus, .strapPins] s t ∧
        t.bus =
          { s.bus with lowTimer := none, readyTimer := if s.bus.ready = true then none else some 5 }) ∧
      (s.bus.ready = false → s.bus.lowTimer = none → s.bus.reception = .none →
        ∀ v : Byte, ∃ t, exec (.busByteReceived v .start) s = .next t ∧ SameBut [.bus, .quietRun] s t ∧
          t.bus = { s.bus with gap := none, reception := .ignored, lowTimer := some 0, readyTimer := none } ∧
          ∀ parity : Bool, ∃ w, exec (.busByteReceived v (.rest parity true)) t = .next w ∧
            w.bus = { s.bus with gap := none, readyTimer := some 5 }) ∧
      (s.bus.reception ≠ .none →
        ∀ (v : Byte) (parity : Bool), ∃ t, exec (.busByteReceived v (.rest parity false)) s = .next t ∧
          SameBut [.bus, .quietRun] s t ∧ t.bus.readyTimer = none ∧ t.bus.lowTimer ≠ none ∧
          t.bus.reception = .none)) ∧
  (∀ s t : State, ReadyWhileHigh s → step s = .next t → ReadyWhileHigh t)

/-! ## Chapter 11: reports, settings, the digest, the calls restart -/

/-- R172: where a report goes. R170: the attention output is asserted, except in a restart, exactly while the
urgent queue holds a report, the overflow mark is Set, or the routine queue holds a report and routine attention
is enabled. -/
def Obligations.ReportsAreQueuedOrOverflow : Prop :=
  (∀ (q : Reports) (r : Report),
    let full (n m : Nat) : Prop := n ≤ m
    (¬full 48 q.routine.length → q.append false r = { q with routine := q.routine ++ [r] }) ∧
    (full 48 q.routine.length → q.append false r = { q with overflow := true }) ∧
    (¬full 16 q.urgent.length → q.append true r = { q with urgent := q.urgent ++ [r] }) ∧
    (full 16 q.urgent.length → q.append true r = q.append false r)) ∧
  (∀ s : State, s.attention = true ↔
    s.inRestart = false ∧
      (s.reports.urgent ≠ [] ∨ s.reports.overflow = true ∨
        s.reports.routine ≠ [] ∧ s.reports.routineAttention = true))

/-- R175, R78, R79, R7, R22, R60, R99, R132: an accepted Set Line replaces the entry. Enabling a Disabled line
makes it Idle in Standby with fresh supervision and ends Quiet. Disabling a line in any other state but Testing
makes it Disabled towards Open with fresh supervision and its break timing at rest, out of the arrival list and
the ring collections; a bearer it names goes to Clearing with a Release report of cause Disabled, and a handover
to it ends, with the Priority reconsideration if another Priority line waits. A line under test keeps its
session: disabling makes its prior state Disabled and its held target Open and ends the looks, enabling makes
its prior state Idle and its held target Standby (its supervision fresh, and the session forced from then on,
by the model's reading: log entries 12 and 23; after a look that is so ended the present measurement is none until
Open is reached: log entry 28). A line that stays enabled has its counts set to 0 where its
profile changed, and where the class of a Ringing line changed at level Critical its ring place follows the
class; nothing else changes. -/
def Obligations.SetLineEnablesAndDisables : Prop :=
  ∀ (s : State) (l : Line) (enabled profile cls preemptible : Byte) (p : Fin 8) (c : Machine.Class),
    s.receives = true → enabled.toNat ≤ 1 → profile.toNat = p.val → cls.toNat = c.code →
    preemptible.toNat ≤ 1 →
    let u := s.atRequest
    let new : LineEntry :=
      { enabled := decide (enabled.toNat = 1), profile := p, cls := c
        preemptible := decide (preemptible.toNat = 1) }
    let command : Instr := .setLine .unit (BitVec.ofNat 8 l.val) enabled profile cls preemptible
    let becomes (parts : List Part) (t : State) : Prop :=
      exec command s = .next t ∧ SameBut ([.entries, .bus, .quietRun] ++ parts) u t ∧
        t.entries = s.entries.set l new ∧ Replied .accepted s t ∧
        (∀ m : Line, m ≠ l → t.call[m] = s.call[m] ∧ t.feed[m] = s.feed[m] ∧ t.sup[m] = s.sup[m] ∧
          t.brk[m] = s.brk[m])
    let unlisted : List Arrival := s.arbiter.arrivals.filter fun a => a.line ≠ l
    (s.call[l].state = .disabled → enabled.toNat = 1 →
      ∃ t, becomes [.sup, .brk, .feed, .call, .arbiter] t ∧ t.monitor.quiet = false ∧
        t.call[l] = { state := .idle } ∧ t.sup[l] = {} ∧ t.feed[l] = s.feed[l].callTarget .standby) ∧
    (s.call[l].state = .disabled ∨ s.call[l].state = .testing ∧ s.call[l].prior = some .disabled →
      enabled.toNat = 0 → ∃ t, becomes [] t) ∧
    (s.call[l].state ≠ .disabled → s.call[l].state ≠ .testing → enabled.toNat = 0 →
      (s.arbiter.handover.map Handover.line = some l →
        ∀ a ∈ unlisted, a.standing = .waiting → a.cls ≠ .priority) →
      let disabled (t : State) : Prop :=
        t.call[l] = { state := .disabled } ∧ t.sup[l] = {} ∧ t.brk[l] = {} ∧
          t.feed[l] = s.feed[l].callTarget .openLoop ∧ t.arbiter.arrivals = unlisted ∧
          t.arbiter.pointer = s.arbiter.pointer ∧
          (s.call[l].state = .ringing → t.ringPlace l = none ∧ t.ringer.counts[l] = 0) ∧
          (s.call[l].state ≠ .ringing → t.ringer = s.ringer)
      (s.call[l].bearer = none →
        ∃ t, becomes [.sup, .brk, .feed, .call, .arbiter, .ringer] t ∧ disabled t ∧
          t.arbiter.handover = s.arbiter.handover) ∧
      (∀ b, s.call[l].bearer = some b → (s.bearer b).line = some l →
        ∃ t, becomes [.sup, .brk, .feed, .call, .bearers, .arbiter, .ringer, .reports] t ∧ disabled t ∧
          OtherBearers b s t ∧ SameLink s t ∧ t.bearer b = s.clearingRecord b l ∧
          t.bearers.connection = s.bearers.connection.filter (fun x => x ≠ b) ∧
          t.arbiter.handover =
            (if s.arbiter.handover.map Handover.bearer = some b then none else s.arbiter.handover) ∧
          t.reports = u.reports.append (decide (c = .priority))
            { kind := .release, line := some l, bearer := some b, value := some 2 })) ∧
    (∀ (b : Bearer) (left : Nat), s.call[l].state = .seizing → enabled.toNat = 0 → s.call[l].bearer = some b →
      (s.bearer b).line = some l → s.arbiter.handover = some { bearer := b, line := l, left := left } →
      let v : State :=
        { u with
          entries := s.entries.set l new
          sup := s.sup.set l {}
          brk := s.brk.set l {}
          feed := s.feed.set l (s.feed[l].callTarget .openLoop)
          call := s.call.set l { state := .disabled }
          bearers :=
            { s.bearers with
              recs := s.bearers.recs.set b (s.clearingRecord b l)
              connection := s.bearers.connection.filter fun x => x ≠ b }
          arbiter := { s.arbiter with arrivals := unlisted, handover := none }
          reports := u.reports.append (decide (c = .priority))
            { kind := .release, line := some l, bearer := some b, value := some 2 } }
      ∃ t, exec command s = .next t ∧ Replied .accepted s t ∧ SameBut [.bus, .quietRun] (reconsider v) t) ∧
    (s.call[l].state = .testing → s.feed[l].control = .testUnit →
      (s.call[l].prior ≠ some .disabled → enabled.toNat = 0 → ∀ x, s.test.session = some x → x.line = l →
        ∃ t, becomes [.sup, .feed, .call, .test] t ∧ t.sup[l] = {} ∧
          t.call[l] =
            { s.call[l] with
              prior := some .disabled, cause := none, phase := none, fault := none, retry := none
              timer := none, preemptionTone := none } ∧
          (x.phase ≠ .look → t.feed[l] = { s.feed[l] with held := some .openLoop } ∧
            t.test = { s.test with session := some { x with mode := .forced } }) ∧
          (x.phase = .look → x.remaining ≠ [] → s.feed[l].current ≠ .openLoop →
            t.feed[l] = ({ s.feed[l] with held := some .openLoop }).take .openLoop ∧
            t.test =
              { s.test with
                session := some
                  { x with
                    mode := .forced, phase := .measure, present := none, lookCount := 0, timer := none } })) ∧
      (s.call[l].prior = some .disabled → enabled.toNat = 1 →
        ∃ t, becomes [.sup, .feed, .call] t ∧ t.sup[l] = {} ∧ t.monitor.quiet = false ∧
          t.call[l] = { s.call[l] with prior := some .idle, fault := none } ∧
          t.feed[l] = { s.feed[l] with held := some .standby })) ∧
    (s.call[l].state ≠ .disabled → ¬(s.call[l].state = .testing ∧ s.call[l].prior = some .disabled) →
      enabled.toNat = 1 →
      let counts : Supervision :=
        if s.entries[l].profile = p then s.sup[l]
        else { s.sup[l] with hookCount := 0, overCount := 0, foreignCount := 0 }
      (s.call[l].state ≠ .ringing ∨ s.classOf l = c ∨ s.supply.level ≠ .critical →
        ∃ t, becomes [.sup] t ∧ t.sup[l] = counts) ∧
      (s.call[l].state = .ringing → s.classOf l ≠ c → s.supply.level = .critical →
        let permitted (m : Line) : Bool := decide ((s.entries.set l new)[m].cls = .priority)
        ∃ t, exec command s = .next t ∧ SameBut [.entries, .sup, .feed, .ringer, .bus, .quietRun] u t ∧
          Replied .accepted s t ∧ t.entries = s.entries.set l new ∧ t.sup = s.sup.set l counts ∧
          (c = .priority → t.feed = s.feed ∧
            t.ringer =
              { s.ringer with
                phases := (fillWalk permitted 1 s.ringer.queue s.ringer.phases).1
                queue := (fillWalk permitted 1 s.ringer.queue s.ringer.phases).2 }) ∧
          (∀ k : Fin 4, c ≠ .priority → s.ringPlace l = some (.phase k) →
            let vacated := s.ringer.phases.set k (s.ringer.phases[k].filter fun m => m ≠ l)
            t.feed = s.feed.set l (s.feed[l].callTarget .standby) ∧
            t.ringer =
              { s.ringer with
                phases := (fillWalk permitted 1 (l :: s.ringer.queue) vacated).1
                queue := (fillWalk permitted 1 (l :: s.ringer.queue) vacated).2 }) ∧
          ((∀ k : Fin 4, l ∉ s.ringer.phases[k]) → c ≠ .priority → t.feed = s.feed ∧ t.ringer = s.ringer)))

/-- R176, R104, R110, R175, R177: the other settings writes. Set Profile and Set Arbiter Phases replace their
table if every value is in range; Set Timers clamps each value, restarts a running quiet timer with a quiet delay
that it changes, and with a quiet delay of 0 stops it and ends Quiet (R156, R158; a change of the delay from 0
starts nothing, by the model's reading: log entry 15); Set Class Map keeps Priority's stored set and
answers Clamped when another set is carried for it (here with no line in the wait list); the reference digest
is recomputed from the tables after each. Set Attention enables routine attention with 0 and disables it with
1 (the positions in its range: log entry 8). -/
def Obligations.SettingsAreWritten : Prop :=
  ∀ (s : State), s.receives = true →
    let u := s.atRequest
    let wrote (t : State) : Prop := t.monitor.reference = digest t.tables
    (∀ (i : Fin 8) (p : Profile),
      p.k.toNat ≤ 4 → 1 ≤ p.m.toNat → p.m.toNat ≤ 15 → 32 ≤ p.tOn.toNat → p.tOn.toNat ≤ 960 →
      16 ≤ p.tOff.toNat → p.tOff.toNat + 16 ≤ p.tOn.toNat → 960 ≤ p.tOver.toNat → p.tOver.toNat ≤ 1984 →
      p.flags.toNat ≤ 3 →
      ∃ t, exec (.setProfile .unit (BitVec.ofNat 8 i.val) p.k p.m p.tOn p.tOff p.tOver p.flags) s = .next t ∧
        SameBut [.tables, .sup, .watch, .bus, .quietRun] u t ∧ wrote t ∧ Replied .accepted s t ∧
        t.tables = { s.tables with profiles := s.tables.profiles.set i p } ∧
        ∀ l : Line, t.sup[l] =
          if s.entries[l].profile = i then
            { s.sup[l] with hookCount := 0, overCount := 0, foreignCount := 0 }
          else s.sup[l]) ∧
    (∀ a b c e f g h i : Byte,
      (∀ x ∈ [a, b, c, e, f, g, h, i], 1 ≤ x.toNat ∧ x.toNat ≤ 3) →
      ∃ t, exec (.setArbiterPhases .unit a b c e f g h i) s = .next t ∧
        SameBut [.tables, .arbiter, .watch, .bus, .quietRun] u t ∧ wrote t ∧ Replied .accepted s t ∧
        t.tables = { s.tables with phaseTable := #v[a, b, c, e, f, g, h, i] } ∧
        t.arbiter = { s.arbiter with pointer := 0 }) ∧
    (∀ (a g w c h r : Byte) (q : Word16),
      let clamp (lo hi : Nat) (x : Byte) : Byte := BitVec.ofNat 8 (max lo (min hi x.toNat))
      let delay : Word16 := if q.toNat = 0 then 0 else BitVec.ofNat 16 (max 10 (min 600 q.toNat))
      let new : Timers :=
        { answer := clamp 1 30 a, guard := clamp 1 30 g, wait := clamp 5 120 w, congestion := clamp 5 120 c
          howler := clamp 5 120 h, ringLimit := clamp 1 60 r, quietDelay := delay }
      ∃ t, exec (.setTimers .unit a g w c h r q) s = .next t ∧
        SameBut [.tables, .watch, .bus, .quietRun] u t ∧ wrote t ∧
        t.tables = { s.tables with timers := new } ∧
        (s.quietCondition = false ∨ delay = 0 → t.monitor.quiet = false ∧ t.monitor.quietTimer = none) ∧
        (s.quietCondition = true → delay ≠ 0 → t.monitor.quiet = s.monitor.quiet ∧
          t.monitor.quietTimer =
            if s.monitor.quiet = true then none
            else if delay = s.tables.timers.quietDelay then s.monitor.quietTimer
            else s.monitor.quietTimer.map fun _ => 1000 * delay.toNat) ∧
        Replied
          (if new =
              { answer := a, guard := g, wait := w, congestion := c, howler := h, ringLimit := r, quietDelay := q }
            then .accepted else .clamped) s t) ∧
    (∀ a b c e : Word16, a.toNat < 4096 → b.toNat < 4096 → c.toNat < 4096 → e.toNat < 4096 → s.noWaiters →
      ∃ t, exec (.setClassMap .unit a b c e) s = .next t ∧ SameBut [.tables, .watch, .bus, .quietRun] u t ∧
        wrote t ∧ Replied (if a = 0x0FFF then .accepted else .clamped) s t ∧
        t.tables =
          { s.tables with
            classMap := { s.tables.classMap with standard := b, economy := c, alarm := e } }) ∧
    (∀ v : Byte, v.toNat ≤ 1 →
      ∃ t, exec (.setAttention .unit v) s = .next t ∧ SameBut [.reports, .bus, .quietRun] u t ∧
        t.reports = { u.reports with routineAttention := decide (v.toNat = 0) } ∧ Replied .accepted s t)

/-- R62, R84 to R88, R104, R110, R137, R174 to R176, R178: a line number above 31, a bearer number above 11 and
a value outside its range are refused OutOfRange, and nothing is changed. -/
def Obligations.OutOfRangeIsRefused : Prop :=
  ∀ (s : State), s.receives = true →
    let u := s.atRequest
    let refused (c : Instr) : Prop :=
      ∃ t, exec c s = .next t ∧ SameBut [.bus, .quietRun] u t ∧ Replied (.refused .outOfRange) s t
    (∀ line bearer : Byte, 32 ≤ line.toNat ∨ 12 ≤ bearer.toNat →
      refused (.grant .unit line bearer) ∧ refused (.refuse .unit line bearer) ∧
        refused (.release .unit line bearer)) ∧
    (∀ line : Byte, 32 ≤ line.toNat → refused (.farAnswer .unit line) ∧ refused (.lineQuery .unit line) ∧
      (∀ m o, refused (.testLine .unit line m o)) ∧ ∀ e p c r, refused (.setLine .unit line e p c r)) ∧
    (∀ bearer : Byte, 12 ≤ bearer.toNat →
      refused (.releaseAcknowledge .unit bearer) ∧ refused (.bearerQuery .unit bearer)) ∧
    (∀ line e p c r : Byte, 1 < e.toNat ∨ 7 < p.toNat ∨ 3 < c.toNat ∨ 1 < r.toNat →
      refused (.setLine .unit line e p c r)) ∧
    (∀ (i k m fl : Byte) (on off high : Word16),
      7 < i.toNat ∨ 4 < k.toNat ∨ m.toNat < 1 ∨ 15 < m.toNat ∨ on.toNat < 32 ∨ 960 < on.toNat ∨
        off.toNat < 16 ∨ on.toNat < off.toNat + 16 ∨ high.toNat < 960 ∨ 1984 < high.toNat ∨ 3 < fl.toNat →
      refused (.setProfile .unit i k m on off high fl)) ∧
    (∀ a b c e f g h i : Byte,
      (∃ x ∈ [a, b, c, e, f, g, h, i], x.toNat < 1 ∨ 3 < x.toNat) →
      refused (.setArbiterPhases .unit a b c e f g h i)) ∧
    (∀ a b c e : Word16, 4096 ≤ a.toNat ∨ 4096 ≤ b.toNat ∨ 4096 ≤ c.toNat ∨ 4096 ≤ e.toNat →
      refused (.setClassMap .unit a b c e)) ∧
    (∀ v : Byte, 1 < v.toNat → refused (.setAttention .unit v)) ∧
    (∀ v n : Byte, 1 < v.toNat →
      (∃ t, takePayload .unit [0x2F, v] s = t ∧ SameBut [.bus] u t ∧ Replied (.refused .outOfRange) s t) ∧
      ∃ t, takePayload .unit [0x30, v, n] s = t ∧ SameBut [.bus] u t ∧ Replied (.refused .outOfRange) s t)

/-- R177: a disturbance changes one byte of the covered tables' wire encodings and nothing else. The audit
finds a changed digest, reports TableUpset and sets every covered table to its full-restart value, with the
reference recomputed (here with no line in the wait list); with an unchanged digest it does nothing but start
its next 10 s. -/
def Obligations.AuditRevertsUpsetTables : Prop :=
  ∀ s : State,
    (∀ (index : Nat) (value : Byte), index < 104 →
      ∃ t, exec (.storageDisturbance index value) s = .next t ∧ SameBut [.tables, .quietRun] s t ∧
        t.tables.bytes = s.tables.bytes.set index value) ∧
    (s.monitor.audit ≠ none → digest s.tables = s.monitor.reference →
      ∃ t, exec .auditTimerExpiry s = .next t ∧ SameBut [.watch, .quietRun] s t ∧
        t.monitor.watch = { s.monitor.watch with audit := some 10000 }) ∧
    (s.monitor.audit ≠ none → digest s.tables ≠ s.monitor.reference → s.noWaiters →
      ∃ t, exec .auditTimerExpiry s = .next t ∧
        SameBut [.tables, .sup, .arbiter, .watch, .reports, .quietRun] s t ∧ t.tables = State.reset.tables ∧
        t.monitor.watch =
          { s.monitor.watch with audit := some 10000, reference := digest State.reset.tables } ∧
        t.arbiter = { s.arbiter with pointer := 0 } ∧
        t.reports = s.reports.append true { kind := .tableUpset } ∧
        ∀ l : Line, t.sup[l] =
          if s.entries[l].enabled = true then
            { s.sup[l] with hookCount := 0, overCount := 0, foreignCount := 0 }
          else s.sup[l])

/-- R178, R6, R41, R57, R75, R103, R122, R136, R156: a calls restart keeps the settings, the supply, the link
and the monitor's arming, and ends every call: enabled lines are Idle with fresh supervision and head for
Standby, every bearer the link carries is Unchecked with its bar kept, arrivals, ringing and handover are
none, Quiet is Off, and the report queues hold the Restarted report, urgent, alone but for the TestDone report
of a session it ended: in the urgent queue after it for a line of class Priority, in the routine queue for any
other. -/
def Obligations.CallsRestartEndsCalls : Prop :=
  ∀ (s : State), s.receives = true →
    let u := s.atRequest
    let restarted : Report := { kind := .restarted, value := some 3 }
    ∃ t, exec (.restartCalls .unit) s = .next t ∧
      SameBut [.sup, .brk, .feed, .call, .bearers, .arbiter, .ringer, .test, .reports, .bus, .quietRun] u t ∧
      Replied .accepted s t ∧ t.monitor.quiet = false ∧
      (∀ l : Line, t.brk[l] = {} ∧ t.feed[l].control = .callSide ∧ t.feed[l].held = none ∧
        (s.entries[l].enabled = true → t.call[l] = { state := .idle } ∧ t.sup[l] = {} ∧
          t.feed[l].target = .standby) ∧
        (s.entries[l].enabled = false → t.feed[l].target = .openLoop ∧
          (s.call[l].state = .testing → t.call[l] = { state := .disabled } ∧ t.sup[l] = {}) ∧
          (s.call[l].state ≠ .testing → t.call[l] = s.call[l] ∧ t.sup[l] = s.sup[l]))) ∧
      SameLink s t ∧ t.bearers.connection = [] ∧
      (∀ b : Bearer,
        ((s.bearer b).state = .absent → t.bearer b = s.bearer b) ∧
        ((s.bearer b).state ≠ .absent → (t.bearer b).state = .unchecked ∧ (t.bearer b).line = none ∧
          (t.bearer b).guard = none ∧
          ((s.bearer b).state = .barred → (t.bearer b).barPending = true) ∧
          ((s.bearer b).state ≠ .barred → (t.bearer b).barPending = (s.bearer b).barPending) ∧
          (∀ l, (s.bearer b).line = some l → (t.bearer b).formerLine = some l))) ∧
      t.arbiter = { s.arbiter with arrivals := [], handover := none } ∧ t.ringer = State.reset.ringer ∧
      t.test.session = none ∧ t.test.relay = none ∧ t.test.source = false ∧
      t.reports.overflow = false ∧ t.reports.routineAttention = s.reports.routineAttention ∧
      (s.test.session = none → t.reports.urgent = [restarted] ∧ t.reports.routine = [] ∧
        t.test.result = s.test.result) ∧
      (∀ x, s.test.session = some x →
        let done : Report := { kind := .testDone, line := some x.line, value := some 2 }
        t.test.result = { s.test.result with status := .aborted, verdict := none } ∧
          (s.classOf x.line = .priority →
            t.reports.urgent = [restarted, done] ∧ t.reports.routine = []) ∧
          (s.classOf x.line ≠ .priority →
            t.reports.urgent = [restarted] ∧ t.reports.routine = [done]))
end

