-- ==== Sys2Proof/Laws/State.lean ====
section
/-! SUPPORT. What each named update of the state (Machine/Ops.lean) leaves in each field, and what one line or
bearer reads after it. -/

namespace Sys2Proof.Machine

section
variable (s : State) (l m : Line) (x : LineEntry)

@[simp] theorem State.setEntry_entries : (s.setEntry l x).entries = s.entries.set l x := rfl
@[simp] theorem State.setEntry_tables : (s.setEntry l x).tables = s.tables := rfl
@[simp] theorem State.setEntry_scanner : (s.setEntry l x).scanner = s.scanner := rfl
@[simp] theorem State.setEntry_sup : (s.setEntry l x).sup = s.sup := rfl
@[simp] theorem State.setEntry_brk : (s.setEntry l x).brk = s.brk := rfl
@[simp] theorem State.setEntry_feed : (s.setEntry l x).feed = s.feed := rfl
@[simp] theorem State.setEntry_call : (s.setEntry l x).call = s.call := rfl
@[simp] theorem State.setEntry_bearers : (s.setEntry l x).bearers = s.bearers := rfl
@[simp] theorem State.setEntry_arbiter : (s.setEntry l x).arbiter = s.arbiter := rfl
@[simp] theorem State.setEntry_ringer : (s.setEntry l x).ringer = s.ringer := rfl
@[simp] theorem State.setEntry_test : (s.setEntry l x).test = s.test := rfl
@[simp] theorem State.setEntry_supply : (s.setEntry l x).supply = s.supply := rfl
@[simp] theorem State.setEntry_monitor : (s.setEntry l x).monitor = s.monitor := rfl
@[simp] theorem State.setEntry_reports : (s.setEntry l x).reports = s.reports := rfl
@[simp] theorem State.setEntry_bus : (s.setEntry l x).bus = s.bus := rfl
@[simp] theorem State.setEntry_strapPins : (s.setEntry l x).strapPins = s.strapPins := rfl
@[simp] theorem State.setEntry_toneClock : (s.setEntry l x).toneClock = s.toneClock := rfl
@[simp] theorem State.setEntry_inRestart : (s.setEntry l x).inRestart = s.inRestart := rfl
@[simp] theorem State.setEntry_pending : (s.setEntry l x).pending = s.pending := rfl

/-- The line itself reads what was set. -/
theorem State.setEntry_get : (s.setEntry l x).entries[l] = x := by simp

/-- Every other line reads as before. -/
theorem State.setEntry_get_ne (h : m ≠ l) : (s.setEntry l x).entries[m] = s.entries[m] := by
  have h' : (l : Nat) ≠ m := fun e => h (Fin.ext e.symm)
  simp [Vector.getElem_set_ne, h']

end

section
variable (s : State) (l m : Line) (x : Supervision)

@[simp] theorem State.setSup_entries : (s.setSup l x).entries = s.entries := rfl
@[simp] theorem State.setSup_tables : (s.setSup l x).tables = s.tables := rfl
@[simp] theorem State.setSup_scanner : (s.setSup l x).scanner = s.scanner := rfl
@[simp] theorem State.setSup_sup : (s.setSup l x).sup = s.sup.set l x := rfl
@[simp] theorem State.setSup_brk : (s.setSup l x).brk = s.brk := rfl
@[simp] theorem State.setSup_feed : (s.setSup l x).feed = s.feed := rfl
@[simp] theorem State.setSup_call : (s.setSup l x).call = s.call := rfl
@[simp] theorem State.setSup_bearers : (s.setSup l x).bearers = s.bearers := rfl
@[simp] theorem State.setSup_arbiter : (s.setSup l x).arbiter = s.arbiter := rfl
@[simp] theorem State.setSup_ringer : (s.setSup l x).ringer = s.ringer := rfl
@[simp] theorem State.setSup_test : (s.setSup l x).test = s.test := rfl
@[simp] theorem State.setSup_supply : (s.setSup l x).supply = s.supply := rfl
@[simp] theorem State.setSup_monitor : (s.setSup l x).monitor = s.monitor := rfl
@[simp] theorem State.setSup_reports : (s.setSup l x).reports = s.reports := rfl
@[simp] theorem State.setSup_bus : (s.setSup l x).bus = s.bus := rfl
@[simp] theorem State.setSup_strapPins : (s.setSup l x).strapPins = s.strapPins := rfl
@[simp] theorem State.setSup_toneClock : (s.setSup l x).toneClock = s.toneClock := rfl
@[simp] theorem State.setSup_inRestart : (s.setSup l x).inRestart = s.inRestart := rfl
@[simp] theorem State.setSup_pending : (s.setSup l x).pending = s.pending := rfl

/-- The line itself reads what was set. -/
theorem State.setSup_get : (s.setSup l x).sup[l] = x := by simp

/-- Every other line reads as before. -/
theorem State.setSup_get_ne (h : m ≠ l) : (s.setSup l x).sup[m] = s.sup[m] := by
  have h' : (l : Nat) ≠ m := fun e => h (Fin.ext e.symm)
  simp [Vector.getElem_set_ne, h']

end

section
variable (s : State) (l m : Line) (x : BreakTiming)

@[simp] theorem State.setBrk_entries : (s.setBrk l x).entries = s.entries := rfl
@[simp] theorem State.setBrk_tables : (s.setBrk l x).tables = s.tables := rfl
@[simp] theorem State.setBrk_scanner : (s.setBrk l x).scanner = s.scanner := rfl
@[simp] theorem State.setBrk_sup : (s.setBrk l x).sup = s.sup := rfl
@[simp] theorem State.setBrk_brk : (s.setBrk l x).brk = s.brk.set l x := rfl
@[simp] theorem State.setBrk_feed : (s.setBrk l x).feed = s.feed := rfl
@[simp] theorem State.setBrk_call : (s.setBrk l x).call = s.call := rfl
@[simp] theorem State.setBrk_bearers : (s.setBrk l x).bearers = s.bearers := rfl
@[simp] theorem State.setBrk_arbiter : (s.setBrk l x).arbiter = s.arbiter := rfl
@[simp] theorem State.setBrk_ringer : (s.setBrk l x).ringer = s.ringer := rfl
@[simp] theorem State.setBrk_test : (s.setBrk l x).test = s.test := rfl
@[simp] theorem State.setBrk_supply : (s.setBrk l x).supply = s.supply := rfl
@[simp] theorem State.setBrk_monitor : (s.setBrk l x).monitor = s.monitor := rfl
@[simp] theorem State.setBrk_reports : (s.setBrk l x).reports = s.reports := rfl
@[simp] theorem State.setBrk_bus : (s.setBrk l x).bus = s.bus := rfl
@[simp] theorem State.setBrk_strapPins : (s.setBrk l x).strapPins = s.strapPins := rfl
@[simp] theorem State.setBrk_toneClock : (s.setBrk l x).toneClock = s.toneClock := rfl
@[simp] theorem State.setBrk_inRestart : (s.setBrk l x).inRestart = s.inRestart := rfl
@[simp] theorem State.setBrk_pending : (s.setBrk l x).pending = s.pending := rfl

/-- The line itself reads what was set. -/
theorem State.setBrk_get : (s.setBrk l x).brk[l] = x := by simp

/-- Every other line reads as before. -/
theorem State.setBrk_get_ne (h : m ≠ l) : (s.setBrk l x).brk[m] = s.brk[m] := by
  have h' : (l : Nat) ≠ m := fun e => h (Fin.ext e.symm)
  simp [Vector.getElem_set_ne, h']

end

section
variable (s : State) (l m : Line) (x : Feed)

@[simp] theorem State.setFeed_entries : (s.setFeed l x).entries = s.entries := rfl
@[simp] theorem State.setFeed_tables : (s.setFeed l x).tables = s.tables := rfl
@[simp] theorem State.setFeed_scanner : (s.setFeed l x).scanner = s.scanner := rfl
@[simp] theorem State.setFeed_sup : (s.setFeed l x).sup = s.sup := rfl
@[simp] theorem State.setFeed_brk : (s.setFeed l x).brk = s.brk := rfl
@[simp] theorem State.setFeed_feed : (s.setFeed l x).feed = s.feed.set l x := rfl
@[simp] theorem State.setFeed_call : (s.setFeed l x).call = s.call := rfl
@[simp] theorem State.setFeed_bearers : (s.setFeed l x).bearers = s.bearers := rfl
@[simp] theorem State.setFeed_arbiter : (s.setFeed l x).arbiter = s.arbiter := rfl
@[simp] theorem State.setFeed_ringer : (s.setFeed l x).ringer = s.ringer := rfl
@[simp] theorem State.setFeed_test : (s.setFeed l x).test = s.test := rfl
@[simp] theorem State.setFeed_supply : (s.setFeed l x).supply = s.supply := rfl
@[simp] theorem State.setFeed_monitor : (s.setFeed l x).monitor = s.monitor := rfl
@[simp] theorem State.setFeed_reports : (s.setFeed l x).reports = s.reports := rfl
@[simp] theorem State.setFeed_bus : (s.setFeed l x).bus = s.bus := rfl
@[simp] theorem State.setFeed_strapPins : (s.setFeed l x).strapPins = s.strapPins := rfl
@[simp] theorem State.setFeed_toneClock : (s.setFeed l x).toneClock = s.toneClock := rfl
@[simp] theorem State.setFeed_inRestart : (s.setFeed l x).inRestart = s.inRestart := rfl
@[simp] theorem State.setFeed_pending : (s.setFeed l x).pending = s.pending := rfl

/-- The line itself reads what was set. -/
theorem State.setFeed_get : (s.setFeed l x).feed[l] = x := by simp

/-- Every other line reads as before. -/
theorem State.setFeed_get_ne (h : m ≠ l) : (s.setFeed l x).feed[m] = s.feed[m] := by
  have h' : (l : Nat) ≠ m := fun e => h (Fin.ext e.symm)
  simp [Vector.getElem_set_ne, h']

end

section
variable (s : State) (l m : Line) (x : CallRecord)

@[simp] theorem State.setCall_entries : (s.setCall l x).entries = s.entries := rfl
@[simp] theorem State.setCall_tables : (s.setCall l x).tables = s.tables := rfl
@[simp] theorem State.setCall_scanner : (s.setCall l x).scanner = s.scanner := rfl
@[simp] theorem State.setCall_sup : (s.setCall l x).sup = s.sup := rfl
@[simp] theorem State.setCall_brk : (s.setCall l x).brk = s.brk := rfl
@[simp] theorem State.setCall_feed : (s.setCall l x).feed = s.feed := rfl
@[simp] theorem State.setCall_call : (s.setCall l x).call = s.call.set l x := rfl
@[simp] theorem State.setCall_bearers : (s.setCall l x).bearers = s.bearers := rfl
@[simp] theorem State.setCall_arbiter : (s.setCall l x).arbiter = s.arbiter := rfl
@[simp] theorem State.setCall_ringer : (s.setCall l x).ringer = s.ringer := rfl
@[simp] theorem State.setCall_test : (s.setCall l x).test = s.test := rfl
@[simp] theorem State.setCall_supply : (s.setCall l x).supply = s.supply := rfl
@[simp] theorem State.setCall_monitor : (s.setCall l x).monitor = s.monitor := rfl
@[simp] theorem State.setCall_reports : (s.setCall l x).reports = s.reports := rfl
@[simp] theorem State.setCall_bus : (s.setCall l x).bus = s.bus := rfl
@[simp] theorem State.setCall_strapPins : (s.setCall l x).strapPins = s.strapPins := rfl
@[simp] theorem State.setCall_toneClock : (s.setCall l x).toneClock = s.toneClock := rfl
@[simp] theorem State.setCall_inRestart : (s.setCall l x).inRestart = s.inRestart := rfl
@[simp] theorem State.setCall_pending : (s.setCall l x).pending = s.pending := rfl

/-- The line itself reads what was set. -/
theorem State.setCall_get : (s.setCall l x).call[l] = x := by simp

/-- Every other line reads as before. -/
theorem State.setCall_get_ne (h : m ≠ l) : (s.setCall l x).call[m] = s.call[m] := by
  have h' : (l : Nat) ≠ m := fun e => h (Fin.ext e.symm)
  simp [Vector.getElem_set_ne, h']

end

section
variable (s : State) (x : Tables)

@[simp] theorem State.setTables_entries : (s.setTables x).entries = s.entries := rfl
@[simp] theorem State.setTables_tables : (s.setTables x).tables = x := rfl
@[simp] theorem State.setTables_scanner : (s.setTables x).scanner = s.scanner := rfl
@[simp] theorem State.setTables_sup : (s.setTables x).sup = s.sup := rfl
@[simp] theorem State.setTables_brk : (s.setTables x).brk = s.brk := rfl
@[simp] theorem State.setTables_feed : (s.setTables x).feed = s.feed := rfl
@[simp] theorem State.setTables_call : (s.setTables x).call = s.call := rfl
@[simp] theorem State.setTables_bearers : (s.setTables x).bearers = s.bearers := rfl
@[simp] theorem State.setTables_arbiter : (s.setTables x).arbiter = s.arbiter := rfl
@[simp] theorem State.setTables_ringer : (s.setTables x).ringer = s.ringer := rfl
@[simp] theorem State.setTables_test : (s.setTables x).test = s.test := rfl
@[simp] theorem State.setTables_supply : (s.setTables x).supply = s.supply := rfl
@[simp] theorem State.setTables_monitor : (s.setTables x).monitor = s.monitor := rfl
@[simp] theorem State.setTables_reports : (s.setTables x).reports = s.reports := rfl
@[simp] theorem State.setTables_bus : (s.setTables x).bus = s.bus := rfl
@[simp] theorem State.setTables_strapPins : (s.setTables x).strapPins = s.strapPins := rfl
@[simp] theorem State.setTables_toneClock : (s.setTables x).toneClock = s.toneClock := rfl
@[simp] theorem State.setTables_inRestart : (s.setTables x).inRestart = s.inRestart := rfl
@[simp] theorem State.setTables_pending : (s.setTables x).pending = s.pending := rfl

end

section
variable (s : State) (x : Scanner)

@[simp] theorem State.setScanner_entries : (s.setScanner x).entries = s.entries := rfl
@[simp] theorem State.setScanner_tables : (s.setScanner x).tables = s.tables := rfl
@[simp] theorem State.setScanner_scanner : (s.setScanner x).scanner = x := rfl
@[simp] theorem State.setScanner_sup : (s.setScanner x).sup = s.sup := rfl
@[simp] theorem State.setScanner_brk : (s.setScanner x).brk = s.brk := rfl
@[simp] theorem State.setScanner_feed : (s.setScanner x).feed = s.feed := rfl
@[simp] theorem State.setScanner_call : (s.setScanner x).call = s.call := rfl
@[simp] theorem State.setScanner_bearers : (s.setScanner x).bearers = s.bearers := rfl
@[simp] theorem State.setScanner_arbiter : (s.setScanner x).arbiter = s.arbiter := rfl
@[simp] theorem State.setScanner_ringer : (s.setScanner x).ringer = s.ringer := rfl
@[simp] theorem State.setScanner_test : (s.setScanner x).test = s.test := rfl
@[simp] theorem State.setScanner_supply : (s.setScanner x).supply = s.supply := rfl
@[simp] theorem State.setScanner_monitor : (s.setScanner x).monitor = s.monitor := rfl
@[simp] theorem State.setScanner_reports : (s.setScanner x).reports = s.reports := rfl
@[simp] theorem State.setScanner_bus : (s.setScanner x).bus = s.bus := rfl
@[simp] theorem State.setScanner_strapPins : (s.setScanner x).strapPins = s.strapPins := rfl
@[simp] theorem State.setScanner_toneClock : (s.setScanner x).toneClock = s.toneClock := rfl
@[simp] theorem State.setScanner_inRestart : (s.setScanner x).inRestart = s.inRestart := rfl
@[simp] theorem State.setScanner_pending : (s.setScanner x).pending = s.pending := rfl

end

section
variable (s : State) (x : BearerTable)

@[simp] theorem State.setBearers_entries : (s.setBearers x).entries = s.entries := rfl
@[simp] theorem State.setBearers_tables : (s.setBearers x).tables = s.tables := rfl
@[simp] theorem State.setBearers_scanner : (s.setBearers x).scanner = s.scanner := rfl
@[simp] theorem State.setBearers_sup : (s.setBearers x).sup = s.sup := rfl
@[simp] theorem State.setBearers_brk : (s.setBearers x).brk = s.brk := rfl
@[simp] theorem State.setBearers_feed : (s.setBearers x).feed = s.feed := rfl
@[simp] theorem State.setBearers_call : (s.setBearers x).call = s.call := rfl
@[simp] theorem State.setBearers_bearers : (s.setBearers x).bearers = x := rfl
@[simp] theorem State.setBearers_arbiter : (s.setBearers x).arbiter = s.arbiter := rfl
@[simp] theorem State.setBearers_ringer : (s.setBearers x).ringer = s.ringer := rfl
@[simp] theorem State.setBearers_test : (s.setBearers x).test = s.test := rfl
@[simp] theorem State.setBearers_supply : (s.setBearers x).supply = s.supply := rfl
@[simp] theorem State.setBearers_monitor : (s.setBearers x).monitor = s.monitor := rfl
@[simp] theorem State.setBearers_reports : (s.setBearers x).reports = s.reports := rfl
@[simp] theorem State.setBearers_bus : (s.setBearers x).bus = s.bus := rfl
@[simp] theorem State.setBearers_strapPins : (s.setBearers x).strapPins = s.strapPins := rfl
@[simp] theorem State.setBearers_toneClock : (s.setBearers x).toneClock = s.toneClock := rfl
@[simp] theorem State.setBearers_inRestart : (s.setBearers x).inRestart = s.inRestart := rfl
@[simp] theorem State.setBearers_pending : (s.setBearers x).pending = s.pending := rfl

end

section
variable (s : State) (x : Arbiter)

@[simp] theorem State.setArbiter_entries : (s.setArbiter x).entries = s.entries := rfl
@[simp] theorem State.setArbiter_tables : (s.setArbiter x).tables = s.tables := rfl
@[simp] theorem State.setArbiter_scanner : (s.setArbiter x).scanner = s.scanner := rfl
@[simp] theorem State.setArbiter_sup : (s.setArbiter x).sup = s.sup := rfl
@[simp] theorem State.setArbiter_brk : (s.setArbiter x).brk = s.brk := rfl
@[simp] theorem State.setArbiter_feed : (s.setArbiter x).feed = s.feed := rfl
@[simp] theorem State.setArbiter_call : (s.setArbiter x).call = s.call := rfl
@[simp] theorem State.setArbiter_bearers : (s.setArbiter x).bearers = s.bearers := rfl
@[simp] theorem State.setArbiter_arbiter : (s.setArbiter x).arbiter = x := rfl
@[simp] theorem State.setArbiter_ringer : (s.setArbiter x).ringer = s.ringer := rfl
@[simp] theorem State.setArbiter_test : (s.setArbiter x).test = s.test := rfl
@[simp] theorem State.setArbiter_supply : (s.setArbiter x).supply = s.supply := rfl
@[simp] theorem State.setArbiter_monitor : (s.setArbiter x).monitor = s.monitor := rfl
@[simp] theorem State.setArbiter_reports : (s.setArbiter x).reports = s.reports := rfl
@[simp] theorem State.setArbiter_bus : (s.setArbiter x).bus = s.bus := rfl
@[simp] theorem State.setArbiter_strapPins : (s.setArbiter x).strapPins = s.strapPins := rfl
@[simp] theorem State.setArbiter_toneClock : (s.setArbiter x).toneClock = s.toneClock := rfl
@[simp] theorem State.setArbiter_inRestart : (s.setArbiter x).inRestart = s.inRestart := rfl
@[simp] theorem State.setArbiter_pending : (s.setArbiter x).pending = s.pending := rfl

end

section
variable (s : State) (x : Ringer)

@[simp] theorem State.setRinger_entries : (s.setRinger x).entries = s.entries := rfl
@[simp] theorem State.setRinger_tables : (s.setRinger x).tables = s.tables := rfl
@[simp] theorem State.setRinger_scanner : (s.setRinger x).scanner = s.scanner := rfl
@[simp] theorem State.setRinger_sup : (s.setRinger x).sup = s.sup := rfl
@[simp] theorem State.setRinger_brk : (s.setRinger x).brk = s.brk := rfl
@[simp] theorem State.setRinger_feed : (s.setRinger x).feed = s.feed := rfl
@[simp] theorem State.setRinger_call : (s.setRinger x).call = s.call := rfl
@[simp] theorem State.setRinger_bearers : (s.setRinger x).bearers = s.bearers := rfl
@[simp] theorem State.setRinger_arbiter : (s.setRinger x).arbiter = s.arbiter := rfl
@[simp] theorem State.setRinger_ringer : (s.setRinger x).ringer = x := rfl
@[simp] theorem State.setRinger_test : (s.setRinger x).test = s.test := rfl
@[simp] theorem State.setRinger_supply : (s.setRinger x).supply = s.supply := rfl
@[simp] theorem State.setRinger_monitor : (s.setRinger x).monitor = s.monitor := rfl
@[simp] theorem State.setRinger_reports : (s.setRinger x).reports = s.reports := rfl
@[simp] theorem State.setRinger_bus : (s.setRinger x).bus = s.bus := rfl
@[simp] theorem State.setRinger_strapPins : (s.setRinger x).strapPins = s.strapPins := rfl
@[simp] theorem State.setRinger_toneClock : (s.setRinger x).toneClock = s.toneClock := rfl
@[simp] theorem State.setRinger_inRestart : (s.setRinger x).inRestart = s.inRestart := rfl
@[simp] theorem State.setRinger_pending : (s.setRinger x).pending = s.pending := rfl

end

section
variable (s : State) (x : TestUnit)

@[simp] theorem State.setTest_entries : (s.setTest x).entries = s.entries := rfl
@[simp] theorem State.setTest_tables : (s.setTest x).tables = s.tables := rfl
@[simp] theorem State.setTest_scanner : (s.setTest x).scanner = s.scanner := rfl
@[simp] theorem State.setTest_sup : (s.setTest x).sup = s.sup := rfl
@[simp] theorem State.setTest_brk : (s.setTest x).brk = s.brk := rfl
@[simp] theorem State.setTest_feed : (s.setTest x).feed = s.feed := rfl
@[simp] theorem State.setTest_call : (s.setTest x).call = s.call := rfl
@[simp] theorem State.setTest_bearers : (s.setTest x).bearers = s.bearers := rfl
@[simp] theorem State.setTest_arbiter : (s.setTest x).arbiter = s.arbiter := rfl
@[simp] theorem State.setTest_ringer : (s.setTest x).ringer = s.ringer := rfl
@[simp] theorem State.setTest_test : (s.setTest x).test = x := rfl
@[simp] theorem State.setTest_supply : (s.setTest x).supply = s.supply := rfl
@[simp] theorem State.setTest_monitor : (s.setTest x).monitor = s.monitor := rfl
@[simp] theorem State.setTest_reports : (s.setTest x).reports = s.reports := rfl
@[simp] theorem State.setTest_bus : (s.setTest x).bus = s.bus := rfl
@[simp] theorem State.setTest_strapPins : (s.setTest x).strapPins = s.strapPins := rfl
@[simp] theorem State.setTest_toneClock : (s.setTest x).toneClock = s.toneClock := rfl
@[simp] theorem State.setTest_inRestart : (s.setTest x).inRestart = s.inRestart := rfl
@[simp] theorem State.setTest_pending : (s.setTest x).pending = s.pending := rfl

end

section
variable (s : State) (x : Supply)

@[simp] theorem State.setSupply_entries : (s.setSupply x).entries = s.entries := rfl
@[simp] theorem State.setSupply_tables : (s.setSupply x).tables = s.tables := rfl
@[simp] theorem State.setSupply_scanner : (s.setSupply x).scanner = s.scanner := rfl
@[simp] theorem State.setSupply_sup : (s.setSupply x).sup = s.sup := rfl
@[simp] theorem State.setSupply_brk : (s.setSupply x).brk = s.brk := rfl
@[simp] theorem State.setSupply_feed : (s.setSupply x).feed = s.feed := rfl
@[simp] theorem State.setSupply_call : (s.setSupply x).call = s.call := rfl
@[simp] theorem State.setSupply_bearers : (s.setSupply x).bearers = s.bearers := rfl
@[simp] theorem State.setSupply_arbiter : (s.setSupply x).arbiter = s.arbiter := rfl
@[simp] theorem State.setSupply_ringer : (s.setSupply x).ringer = s.ringer := rfl
@[simp] theorem State.setSupply_test : (s.setSupply x).test = s.test := rfl
@[simp] theorem State.setSupply_supply : (s.setSupply x).supply = x := rfl
@[simp] theorem State.setSupply_monitor : (s.setSupply x).monitor = s.monitor := rfl
@[simp] theorem State.setSupply_reports : (s.setSupply x).reports = s.reports := rfl
@[simp] theorem State.setSupply_bus : (s.setSupply x).bus = s.bus := rfl
@[simp] theorem State.setSupply_strapPins : (s.setSupply x).strapPins = s.strapPins := rfl
@[simp] theorem State.setSupply_toneClock : (s.setSupply x).toneClock = s.toneClock := rfl
@[simp] theorem State.setSupply_inRestart : (s.setSupply x).inRestart = s.inRestart := rfl
@[simp] theorem State.setSupply_pending : (s.setSupply x).pending = s.pending := rfl

end

section
variable (s : State) (x : Monitor)

@[simp] theorem State.setMonitor_entries : (s.setMonitor x).entries = s.entries := rfl
@[simp] theorem State.setMonitor_tables : (s.setMonitor x).tables = s.tables := rfl
@[simp] theorem State.setMonitor_scanner : (s.setMonitor x).scanner = s.scanner := rfl
@[simp] theorem State.setMonitor_sup : (s.setMonitor x).sup = s.sup := rfl
@[simp] theorem State.setMonitor_brk : (s.setMonitor x).brk = s.brk := rfl
@[simp] theorem State.setMonitor_feed : (s.setMonitor x).feed = s.feed := rfl
@[simp] theorem State.setMonitor_call : (s.setMonitor x).call = s.call := rfl
@[simp] theorem State.setMonitor_bearers : (s.setMonitor x).bearers = s.bearers := rfl
@[simp] theorem State.setMonitor_arbiter : (s.setMonitor x).arbiter = s.arbiter := rfl
@[simp] theorem State.setMonitor_ringer : (s.setMonitor x).ringer = s.ringer := rfl
@[simp] theorem State.setMonitor_test : (s.setMonitor x).test = s.test := rfl
@[simp] theorem State.setMonitor_supply : (s.setMonitor x).supply = s.supply := rfl
@[simp] theorem State.setMonitor_monitor : (s.setMonitor x).monitor = x := rfl
@[simp] theorem State.setMonitor_reports : (s.setMonitor x).reports = s.reports := rfl
@[simp] theorem State.setMonitor_bus : (s.setMonitor x).bus = s.bus := rfl
@[simp] theorem State.setMonitor_strapPins : (s.setMonitor x).strapPins = s.strapPins := rfl
@[simp] theorem State.setMonitor_toneClock : (s.setMonitor x).toneClock = s.toneClock := rfl
@[simp] theorem State.setMonitor_inRestart : (s.setMonitor x).inRestart = s.inRestart := rfl
@[simp] theorem State.setMonitor_pending : (s.setMonitor x).pending = s.pending := rfl

end

section
variable (s : State) (x : Reports)

@[simp] theorem State.setReports_entries : (s.setReports x).entries = s.entries := rfl
@[simp] theorem State.setReports_tables : (s.setReports x).tables = s.tables := rfl
@[simp] theorem State.setReports_scanner : (s.setReports x).scanner = s.scanner := rfl
@[simp] theorem State.setReports_sup : (s.setReports x).sup = s.sup := rfl
@[simp] theorem State.setReports_brk : (s.setReports x).brk = s.brk := rfl
@[simp] theorem State.setReports_feed : (s.setReports x).feed = s.feed := rfl
@[simp] theorem State.setReports_call : (s.setReports x).call = s.call := rfl
@[simp] theorem State.setReports_bearers : (s.setReports x).bearers = s.bearers := rfl
@[simp] theorem State.setReports_arbiter : (s.setReports x).arbiter = s.arbiter := rfl
@[simp] theorem State.setReports_ringer : (s.setReports x).ringer = s.ringer := rfl
@[simp] theorem State.setReports_test : (s.setReports x).test = s.test := rfl
@[simp] theorem State.setReports_supply : (s.setReports x).supply = s.supply := rfl
@[simp] theorem State.setReports_monitor : (s.setReports x).monitor = s.monitor := rfl
@[simp] theorem State.setReports_reports : (s.setReports x).reports = x := rfl
@[simp] theorem State.setReports_bus : (s.setReports x).bus = s.bus := rfl
@[simp] theorem State.setReports_strapPins : (s.setReports x).strapPins = s.strapPins := rfl
@[simp] theorem State.setReports_toneClock : (s.setReports x).toneClock = s.toneClock := rfl
@[simp] theorem State.setReports_inRestart : (s.setReports x).inRestart = s.inRestart := rfl
@[simp] theorem State.setReports_pending : (s.setReports x).pending = s.pending := rfl

end

section
variable (s : State) (x : Bus)

@[simp] theorem State.setBus_entries : (s.setBus x).entries = s.entries := rfl
@[simp] theorem State.setBus_tables : (s.setBus x).tables = s.tables := rfl
@[simp] theorem State.setBus_scanner : (s.setBus x).scanner = s.scanner := rfl
@[simp] theorem State.setBus_sup : (s.setBus x).sup = s.sup := rfl
@[simp] theorem State.setBus_brk : (s.setBus x).brk = s.brk := rfl
@[simp] theorem State.setBus_feed : (s.setBus x).feed = s.feed := rfl
@[simp] theorem State.setBus_call : (s.setBus x).call = s.call := rfl
@[simp] theorem State.setBus_bearers : (s.setBus x).bearers = s.bearers := rfl
@[simp] theorem State.setBus_arbiter : (s.setBus x).arbiter = s.arbiter := rfl
@[simp] theorem State.setBus_ringer : (s.setBus x).ringer = s.ringer := rfl
@[simp] theorem State.setBus_test : (s.setBus x).test = s.test := rfl
@[simp] theorem State.setBus_supply : (s.setBus x).supply = s.supply := rfl
@[simp] theorem State.setBus_monitor : (s.setBus x).monitor = s.monitor := rfl
@[simp] theorem State.setBus_reports : (s.setBus x).reports = s.reports := rfl
@[simp] theorem State.setBus_bus : (s.setBus x).bus = x := rfl
@[simp] theorem State.setBus_strapPins : (s.setBus x).strapPins = s.strapPins := rfl
@[simp] theorem State.setBus_toneClock : (s.setBus x).toneClock = s.toneClock := rfl
@[simp] theorem State.setBus_inRestart : (s.setBus x).inRestart = s.inRestart := rfl
@[simp] theorem State.setBus_pending : (s.setBus x).pending = s.pending := rfl

end

section
variable (s : State) (x : Straps)

@[simp] theorem State.setStrapPins_entries : (s.setStrapPins x).entries = s.entries := rfl
@[simp] theorem State.setStrapPins_tables : (s.setStrapPins x).tables = s.tables := rfl
@[simp] theorem State.setStrapPins_scanner : (s.setStrapPins x).scanner = s.scanner := rfl
@[simp] theorem State.setStrapPins_sup : (s.setStrapPins x).sup = s.sup := rfl
@[simp] theorem State.setStrapPins_brk : (s.setStrapPins x).brk = s.brk := rfl
@[simp] theorem State.setStrapPins_feed : (s.setStrapPins x).feed = s.feed := rfl
@[simp] theorem State.setStrapPins_call : (s.setStrapPins x).call = s.call := rfl
@[simp] theorem State.setStrapPins_bearers : (s.setStrapPins x).bearers = s.bearers := rfl
@[simp] theorem State.setStrapPins_arbiter : (s.setStrapPins x).arbiter = s.arbiter := rfl
@[simp] theorem State.setStrapPins_ringer : (s.setStrapPins x).ringer = s.ringer := rfl
@[simp] theorem State.setStrapPins_test : (s.setStrapPins x).test = s.test := rfl
@[simp] theorem State.setStrapPins_supply : (s.setStrapPins x).supply = s.supply := rfl
@[simp] theorem State.setStrapPins_monitor : (s.setStrapPins x).monitor = s.monitor := rfl
@[simp] theorem State.setStrapPins_reports : (s.setStrapPins x).reports = s.reports := rfl
@[simp] theorem State.setStrapPins_bus : (s.setStrapPins x).bus = s.bus := rfl
@[simp] theorem State.setStrapPins_strapPins : (s.setStrapPins x).strapPins = x := rfl
@[simp] theorem State.setStrapPins_toneClock : (s.setStrapPins x).toneClock = s.toneClock := rfl
@[simp] theorem State.setStrapPins_inRestart : (s.setStrapPins x).inRestart = s.inRestart := rfl
@[simp] theorem State.setStrapPins_pending : (s.setStrapPins x).pending = s.pending := rfl

end

section
variable (s : State) (x : List Instr)

@[simp] theorem State.setPending_entries : (s.setPending x).entries = s.entries := rfl
@[simp] theorem State.setPending_tables : (s.setPending x).tables = s.tables := rfl
@[simp] theorem State.setPending_scanner : (s.setPending x).scanner = s.scanner := rfl
@[simp] theorem State.setPending_sup : (s.setPending x).sup = s.sup := rfl
@[simp] theorem State.setPending_brk : (s.setPending x).brk = s.brk := rfl
@[simp] theorem State.setPending_feed : (s.setPending x).feed = s.feed := rfl
@[simp] theorem State.setPending_call : (s.setPending x).call = s.call := rfl
@[simp] theorem State.setPending_bearers : (s.setPending x).bearers = s.bearers := rfl
@[simp] theorem State.setPending_arbiter : (s.setPending x).arbiter = s.arbiter := rfl
@[simp] theorem State.setPending_ringer : (s.setPending x).ringer = s.ringer := rfl
@[simp] theorem State.setPending_test : (s.setPending x).test = s.test := rfl
@[simp] theorem State.setPending_supply : (s.setPending x).supply = s.supply := rfl
@[simp] theorem State.setPending_monitor : (s.setPending x).monitor = s.monitor := rfl
@[simp] theorem State.setPending_reports : (s.setPending x).reports = s.reports := rfl
@[simp] theorem State.setPending_bus : (s.setPending x).bus = s.bus := rfl
@[simp] theorem State.setPending_strapPins : (s.setPending x).strapPins = s.strapPins := rfl
@[simp] theorem State.setPending_toneClock : (s.setPending x).toneClock = s.toneClock := rfl
@[simp] theorem State.setPending_inRestart : (s.setPending x).inRestart = s.inRestart := rfl
@[simp] theorem State.setPending_pending : (s.setPending x).pending = x := rfl

end

section
variable (s : State) (x : List Bearer)

@[simp] theorem State.setConnection_entries : (s.setConnection x).entries = s.entries := rfl
@[simp] theorem State.setConnection_tables : (s.setConnection x).tables = s.tables := rfl
@[simp] theorem State.setConnection_scanner : (s.setConnection x).scanner = s.scanner := rfl
@[simp] theorem State.setConnection_sup : (s.setConnection x).sup = s.sup := rfl
@[simp] theorem State.setConnection_brk : (s.setConnection x).brk = s.brk := rfl
@[simp] theorem State.setConnection_feed : (s.setConnection x).feed = s.feed := rfl
@[simp] theorem State.setConnection_call : (s.setConnection x).call = s.call := rfl
@[simp] theorem State.setConnection_bearers : (s.setConnection x).bearers = { s.bearers with connection := x } := rfl
@[simp] theorem State.setConnection_arbiter : (s.setConnection x).arbiter = s.arbiter := rfl
@[simp] theorem State.setConnection_ringer : (s.setConnection x).ringer = s.ringer := rfl
@[simp] theorem State.setConnection_test : (s.setConnection x).test = s.test := rfl
@[simp] theorem State.setConnection_supply : (s.setConnection x).supply = s.supply := rfl
@[simp] theorem State.setConnection_monitor : (s.setConnection x).monitor = s.monitor := rfl
@[simp] theorem State.setConnection_reports : (s.setConnection x).reports = s.reports := rfl
@[simp] theorem State.setConnection_bus : (s.setConnection x).bus = s.bus := rfl
@[simp] theorem State.setConnection_strapPins : (s.setConnection x).strapPins = s.strapPins := rfl
@[simp] theorem State.setConnection_toneClock : (s.setConnection x).toneClock = s.toneClock := rfl
@[simp] theorem State.setConnection_inRestart : (s.setConnection x).inRestart = s.inRestart := rfl
@[simp] theorem State.setConnection_pending : (s.setConnection x).pending = s.pending := rfl

end

section
variable (s : State) (x : Option Handover)

@[simp] theorem State.setHandover_entries : (s.setHandover x).entries = s.entries := rfl
@[simp] theorem State.setHandover_tables : (s.setHandover x).tables = s.tables := rfl
@[simp] theorem State.setHandover_scanner : (s.setHandover x).scanner = s.scanner := rfl
@[simp] theorem State.setHandover_sup : (s.setHandover x).sup = s.sup := rfl
@[simp] theorem State.setHandover_brk : (s.setHandover x).brk = s.brk := rfl
@[simp] theorem State.setHandover_feed : (s.setHandover x).feed = s.feed := rfl
@[simp] theorem State.setHandover_call : (s.setHandover x).call = s.call := rfl
@[simp] theorem State.setHandover_bearers : (s.setHandover x).bearers = s.bearers := rfl
@[simp] theorem State.setHandover_arbiter : (s.setHandover x).arbiter = { s.arbiter with handover := x } := rfl
@[simp] theorem State.setHandover_ringer : (s.setHandover x).ringer = s.ringer := rfl
@[simp] theorem State.setHandover_test : (s.setHandover x).test = s.test := rfl
@[simp] theorem State.setHandover_supply : (s.setHandover x).supply = s.supply := rfl
@[simp] theorem State.setHandover_monitor : (s.setHandover x).monitor = s.monitor := rfl
@[simp] theorem State.setHandover_reports : (s.setHandover x).reports = s.reports := rfl
@[simp] theorem State.setHandover_bus : (s.setHandover x).bus = s.bus := rfl
@[simp] theorem State.setHandover_strapPins : (s.setHandover x).strapPins = s.strapPins := rfl
@[simp] theorem State.setHandover_toneClock : (s.setHandover x).toneClock = s.toneClock := rfl
@[simp] theorem State.setHandover_inRestart : (s.setHandover x).inRestart = s.inRestart := rfl
@[simp] theorem State.setHandover_pending : (s.setHandover x).pending = s.pending := rfl

end

section
variable (s : State) (x : List Arrival)

@[simp] theorem State.setArrivals_entries : (s.setArrivals x).entries = s.entries := rfl
@[simp] theorem State.setArrivals_tables : (s.setArrivals x).tables = s.tables := rfl
@[simp] theorem State.setArrivals_scanner : (s.setArrivals x).scanner = s.scanner := rfl
@[simp] theorem State.setArrivals_sup : (s.setArrivals x).sup = s.sup := rfl
@[simp] theorem State.setArrivals_brk : (s.setArrivals x).brk = s.brk := rfl
@[simp] theorem State.setArrivals_feed : (s.setArrivals x).feed = s.feed := rfl
@[simp] theorem State.setArrivals_call : (s.setArrivals x).call = s.call := rfl
@[simp] theorem State.setArrivals_bearers : (s.setArrivals x).bearers = s.bearers := rfl
@[simp] theorem State.setArrivals_arbiter : (s.setArrivals x).arbiter = { s.arbiter with arrivals := x } := rfl
@[simp] theorem State.setArrivals_ringer : (s.setArrivals x).ringer = s.ringer := rfl
@[simp] theorem State.setArrivals_test : (s.setArrivals x).test = s.test := rfl
@[simp] theorem State.setArrivals_supply : (s.setArrivals x).supply = s.supply := rfl
@[simp] theorem State.setArrivals_monitor : (s.setArrivals x).monitor = s.monitor := rfl
@[simp] theorem State.setArrivals_reports : (s.setArrivals x).reports = s.reports := rfl
@[simp] theorem State.setArrivals_bus : (s.setArrivals x).bus = s.bus := rfl
@[simp] theorem State.setArrivals_strapPins : (s.setArrivals x).strapPins = s.strapPins := rfl
@[simp] theorem State.setArrivals_toneClock : (s.setArrivals x).toneClock = s.toneClock := rfl
@[simp] theorem State.setArrivals_inRestart : (s.setArrivals x).inRestart = s.inRestart := rfl
@[simp] theorem State.setArrivals_pending : (s.setArrivals x).pending = s.pending := rfl

end

section
variable (s : State) (b c : Bearer) (x : BearerRecord)

@[simp] theorem State.setBearer_entries : (s.setBearer b x).entries = s.entries := rfl
@[simp] theorem State.setBearer_tables : (s.setBearer b x).tables = s.tables := rfl
@[simp] theorem State.setBearer_scanner : (s.setBearer b x).scanner = s.scanner := rfl
@[simp] theorem State.setBearer_sup : (s.setBearer b x).sup = s.sup := rfl
@[simp] theorem State.setBearer_brk : (s.setBearer b x).brk = s.brk := rfl
@[simp] theorem State.setBearer_feed : (s.setBearer b x).feed = s.feed := rfl
@[simp] theorem State.setBearer_call : (s.setBearer b x).call = s.call := rfl
@[simp] theorem State.setBearer_bearers : (s.setBearer b x).bearers = { s.bearers with recs := s.bearers.recs.set b x } := rfl
@[simp] theorem State.setBearer_arbiter : (s.setBearer b x).arbiter = s.arbiter := rfl
@[simp] theorem State.setBearer_ringer : (s.setBearer b x).ringer = s.ringer := rfl
@[simp] theorem State.setBearer_test : (s.setBearer b x).test = s.test := rfl
@[simp] theorem State.setBearer_supply : (s.setBearer b x).supply = s.supply := rfl
@[simp] theorem State.setBearer_monitor : (s.setBearer b x).monitor = s.monitor := rfl
@[simp] theorem State.setBearer_reports : (s.setBearer b x).reports = s.reports := rfl
@[simp] theorem State.setBearer_bus : (s.setBearer b x).bus = s.bus := rfl
@[simp] theorem State.setBearer_strapPins : (s.setBearer b x).strapPins = s.strapPins := rfl
@[simp] theorem State.setBearer_toneClock : (s.setBearer b x).toneClock = s.toneClock := rfl
@[simp] theorem State.setBearer_inRestart : (s.setBearer b x).inRestart = s.inRestart := rfl
@[simp] theorem State.setBearer_pending : (s.setBearer b x).pending = s.pending := rfl

/-- The bearer itself reads what was set. -/
@[simp] theorem State.setBearer_get : (s.setBearer b x).bearer b = x := by simp [State.bearer]

/-- Every other bearer reads as before. -/
theorem State.setBearer_get_ne (h : c ≠ b) : (s.setBearer b x).bearer c = s.bearer c := by
  have h' : (b : Nat) ≠ c := fun e => h (Fin.ext e.symm)
  simp [State.bearer, Vector.getElem_set_ne, h']

end

end Sys2Proof.Machine
end

