-- ==== Sys2Proof/Laws/Ops.lean ====
section
/-! SUPPORT. What the shared operations can do, each said once, and the frame relation's own laws. -/

namespace Sys2Proof.Machine

/-! ## Vectors and lists of work -/

/-- A tabulated vector holds the function's values. -/
@[simp] theorem tabulate_get {α : Type} {n : Nat} (f : Fin n → α) (i : Fin n) : (tabulate f)[i] = f i := by
  simp [tabulate]

/-- What holds before and is kept by every single piece of work holds after all of it. -/
theorem each_keeps {α : Type} (P : State → Prop) (f : α → State → State) (xs : List α) (s : State)
    (keep : ∀ x ∈ xs, ∀ t, P t → P (f x t)) (h : P s) : P (each xs f s) := by
  unfold each
  induction xs generalizing s with
  | nil => exact h
  | cons x xs ih =>
    exact ih (f x s) (fun y hy => keep y (List.mem_cons_of_mem _ hy)) (keep x List.mem_cons_self s h)

/-- The same for work on the lines in ascending order. -/
theorem eachLine_keeps (P : State → Prop) (f : Line → State → State) (s : State)
    (keep : ∀ l t, P t → P (f l t)) (h : P s) : P (eachLine f s) :=
  each_keeps P f allLines s (fun l _ t ht => keep l t ht) h

/-! ## The frame relation -/

theorem Part.same_refl (s : State) (p : Part) : p.same s s := by cases p <;> simp [Part.same]

theorem Part.same_trans {s t u : State} {p : Part} (h : p.same s t) (k : p.same t u) : p.same s u := by
  cases p <;> simp_all [Part.same]

/-- Nothing changes nothing. -/
theorem SameBut.refl (parts : List Part) (s : State) : SameBut parts s s := fun p _ => p.same_refl s

/-- Two changes in a row change what either changes. -/
theorem SameBut.trans {parts : List Part} {s t u : State} (h : SameBut parts s t) (k : SameBut parts t u) :
    SameBut parts s u := fun p hp => Part.same_trans (h p hp) (k p hp)

/-- A longer list of parts says less. -/
theorem SameBut.mono {parts more : List Part} {s t : State} (sub : parts ⊆ more) (h : SameBut parts s t) :
    SameBut more s t := fun p hp => h p fun m => hp (sub m)

/-! ## Reports (R172) -/

/-- Appending a report keeps both queues within their capacities. -/
theorem Reports.append_bounded (q : Reports) (urgent : Bool) (r : Report)
    (h : q.urgent.length ≤ 16 ∧ q.routine.length ≤ 48) :
    (q.append urgent r).urgent.length ≤ 16 ∧ (q.append urgent r).routine.length ≤ 48 := by
  unfold Reports.append Config.urgentCapacity Config.routineCapacity
  by_cases c : q.urgent.length < 16 <;> by_cases d : q.routine.length < 48 <;> cases urgent <;>
    simp [c, d] <;> omega

/-- Queuing a report changes the report queues alone. -/
theorem report_frame (s : State) (urgent : Bool) (r : Report) :
    s.report urgent r = { s with reports := s.reports.append urgent r } := rfl

/-! ## Feed (chapter 3) -/

/-- The step of a transition between two different modes, as the statements say it. -/
theorem nextStep_route (a b : FeedMode) (h : a ≠ b) : nextStep a b = routeStep a b := by
  cases a <;> cases b <;> first | rfl | exact absurd rfl h

/-- A target of the call side changes the feed state of its line alone. -/
theorem callTarget_frame (l : Line) (m : FeedMode) (s : State) :
    callTarget l m s = { s with feed := s.feed.set l (s.feed[l].callTarget m) } := rfl

/-- The protective Open changes the feed state of its line alone, and only under call-side control. -/
theorem protect_frame (l : Line) (s : State) :
    protect l s = { s with feed := (protect l s).feed } := by
  unfold protect
  split <;> rfl

/-! ## Ringing (chapter 7) -/

/-- A fill changes the phase lists and the ring queue alone. -/
theorem fill_frame (s : State) :
    fill s = { s with
      ringer := { s.ringer with
        phases := (fillWalk s.permitted s.supply.level.ringCapacity s.ringer.queue s.ringer.phases).1
        queue := (fillWalk s.permitted s.supply.level.ringCapacity s.ringer.queue s.ringer.phases).2 } } := rfl

/-- Removing a line from the ring collections changes the Ring Scheduler alone. -/
theorem ringRemove_frame (l : Line) (s : State) :
    ringRemove l s = { s with ringer := (ringRemove l s).ringer } := by
  unfold ringRemove stopWheel
  dsimp only
  split <;> split <;> rfl

/-! ## Bearers (chapter 4) -/

/-- Giving a bearer back changes the Bearer Table and, where the bearer was in a handover, the handover
record. -/
theorem clearBearer_frame (b : Bearer) (s : State) :
    clearBearer b s = { s with
      bearers := { s.bearers with
        recs := s.bearers.recs.set b ((s.bearer b).toClearing (secondsMs s.tables.timers.guard))
        connection := s.bearers.connection.filter fun x => x ≠ b }
      arbiter := { s.arbiter with
        handover := if s.arbiter.handover.map Handover.bearer = some b then none else s.arbiter.handover } } := by
  unfold clearBearer disconnect
  dsimp only
  by_cases h : s.arbiter.handover.map Handover.bearer = some b <;> simp only [State.setConnection_arbiter,
    State.setBearer_arbiter, h, if_true, if_false] <;> rfl

/-- A bearer that the exchange frees changes the Bearer Table alone. -/
theorem freeBearer_frame (b : Bearer) (s : State) :
    freeBearer b s = { s with
      bearers := { s.bearers with
        recs := s.bearers.recs.set b (s.bearer b).freed
        connection := s.bearers.connection.filter fun x => x ≠ b } } := rfl

/-- An engagement changes the Bearer Table alone. -/
theorem engage_frame (b : Bearer) (l : Line) (s : State) :
    engage b l s = { s with
      bearers := { s.bearers with
        recs := s.bearers.recs.set b ((s.bearer b).give .engaged l)
        connection := s.bearers.connection ++ [b] } } := rfl

/-! ## Calls (chapter 5) -/

/-- A change of call state changes the line's record, its break timing, the arrival list and, when the line
leaves Ringing, the Ring Scheduler. -/
theorem enter_frame (l : Line) (n : CallRecord) (s : State) :
    enter l n s = { s with
      call := s.call.set l (if n.state.joined then { n with early := s.call[l].early, lost := s.call[l].lost }
        else { n with early := [], lost := false })
      brk := if s.call[l].state.timed && n.state.timed then s.brk else s.brk.set l {}
      arbiter := { s.arbiter with
        arrivals := if n.state.joined then s.arbiter.arrivals
          else s.arbiter.arrivals.filter fun a => a.line ≠ l }
      ringer := (enter l n s).ringer } := by
  unfold enter
  dsimp only
  split <;> split <;> split <;> first | rfl | (rw [ringRemove_frame]; rfl)

/-- A line that goes Idle has an empty record. -/
theorem goIdle_call (l : Line) (s : State) : (goIdle l s).call[l] = { state := .idle } := by
  unfold goIdle
  rw [callTarget_frame, enter_frame]
  simp [CallState.joined]

/-- A report of a Release changes the report queues alone. -/
theorem releaseReport_frame (l : Line) (b : Bearer) (c : ReleaseCause) (s : State) :
    releaseReport l b c s = { s with reports := (releaseReport l b c s).reports } := rfl

/-! ## Events and requests -/

/-- The end of an event changes nothing but the Quiet state and the quiet timer. -/
theorem event_frame (f : State → State) (s : State) :
    event f s = { f s with
      monitor := { (f s).monitor with
        quiet := (event f s).monitor.quiet, quietTimer := (event f s).monitor.quietTimer } } := by
  unfold event runQuiet
  dsimp only
  split
  · split
    · rfl
    · split
      · rfl
      · split <;> rfl
  · rfl

/-- The receive line's return high changes the low timer and the 5 ms of the ready mark alone. -/
theorem lineHigh_frame (s : State) :
    lineHigh s = { s with
      bus := { s.bus with lowTimer := none, readyTimer := if s.bus.ready then none else some 5 } } := rfl

/-- What a lost frame leaves: nothing in a restart, and else a receive line that is high from now on. -/
theorem loseFrame_frame (s : State) :
    loseFrame s = if s.inRestart then s else { s with
      bus := { s.bus with
        gap := none, reception := .none, lowTimer := none
        readyTimer := if s.bus.ready then none else some 5 } } := rfl

/-- A frame that arrives while received bytes are ignored is lost. -/
theorem takeFrame_lost (d : Addressee) (allowed : Bool) (q : Request) (s : State) (h : s.receives = false) :
    takeFrame d allowed q s = loseFrame s := by
  simp [takeFrame, h]

/-- A frame for the unit is acted on from the state the request meets, and its reply becomes pending. -/
theorem takeFrame_unit (allowed : Bool) (q : Request) (s : State) (h : s.receives = true) :
    takeFrame .unit allowed q s = owe (q s.atRequest).2 (q s.atRequest).1 := by
  simp [takeFrame, h, State.atRequest]

/-- The reload of the control monitor changes the monitor and the report queues alone. -/
theorem reloadMonitor_frame (s : State) :
    reloadMonitor s = { s with
      monitor := { s.monitor with
        isolated := false
        countdown := if s.monitor.armed = true then s.monitor.interval.map (· * 1000) else s.monitor.countdown }
      reports := if s.monitor.isolated = true then s.reports.append true { kind := .controlRestored }
        else s.reports } := by
  unfold reloadMonitor State.report
  rcases s with ⟨_, _, _, _, _, _, _, _, _, _, _, _, ⟨_, _, armed, _, _, isolated, _, _⟩, _, _, _, _, _, _⟩
  cases isolated <;> cases armed <;> rfl

/-! ## Supply (chapter 9) -/

/-- The level on a new average is one whose row of the level in force fits it (R152). -/
theorem nextLevel_fits (t : Thresholds) (lv : Level) (average : Nat) :
    match nextLevel t lv average with
    | .critical => average < t.criticalBound lv
    | .low => t.criticalBound lv ≤ average ∧ average < t.normalBound lv
    | .normal => t.normalBound lv ≤ average := by
  by_cases c : average < t.criticalBound lv <;> by_cases n : t.normalBound lv ≤ average
  · cases k : Config.conflictIsCritical average (t.criticalBound lv) (t.normalBound lv) <;>
      simp [nextLevel, c, n, k]
  · simp [nextLevel, c, n]
  · have m : ¬average < t.normalBound lv := by omega
    simp [nextLevel, c, n, m]
  · have m : average < t.normalBound lv := by omega
    have k : t.criticalBound lv ≤ average := by omega
    simp [nextLevel, c, m, k]

/-! ## Bytes and replies (chapter 10) -/

/-- A start bit changes the receive line's timers and the reception alone: no frame is assembled by it. -/
theorem byteStart_frame (s : State) :
    byteStart s = { s with
      bus := { s.bus with
        gap := (byteStart s).bus.gap, reception := (byteStart s).bus.reception
        lowTimer := (byteStart s).bus.lowTimer, readyTimer := (byteStart s).bus.readyTimer } } := by
  unfold byteStart
  split <;> rfl

/-- After the stop bit the receive line's timers and the reception are all that has changed. -/
theorem lineAfterByte_frame (v : Byte) (parity stop : Bool) (s : State) :
    lineAfterByte v parity stop s = { s with
      bus := { s.bus with
        reception := .none, lowTimer := (lineAfterByte v parity stop s).bus.lowTimer
        readyTimer := (lineAfterByte v parity stop s).bus.readyTimer } } := by
  cases stop <;> rfl

/-- A byte whose stop bit is not high leaves the line low, and ends the time for which it has been high. -/
theorem lineAfterByte_low (v : Byte) (parity : Bool) (s : State) :
    (lineAfterByte v parity false s).bus.readyTimer = none ∧
      (lineAfterByte v parity false s).bus.lowTimer ≠ none := by
  refine ⟨rfl, ?_⟩
  change (if v = 0 ∧ parity = false then some (s.bus.lowTimer.getD 0) else some 0) ≠ none
  split <;> simp

/-- A byte whose start bit was ignored acts on the receive line alone. -/
theorem byteRest_ignored (v : Byte) (parity stop : Bool) (s : State) (h : s.bus.reception = .ignored) :
    byteRest v parity stop s = lineAfterByte v parity stop s := by
  simp [byteRest, h]

/-- The bits that the part sends for a byte are received without byte error. -/
theorem byteError_sent (v : Byte) : byteError v (parityBit v) true = false := by
  simp [byteError]

/-- No reply begins within the first millisecond after its request. -/
theorem transmitStart_early (r : Reply) (s : State) (h : s.bus.pending = .waiting r 0) : transmitStart s = s := by
  simp [transmitStart, h, inWindow, Config.replyEarliestMs]

/-- While received bytes are examined none is being sent, and no bus break holds the part in restart. -/
theorem receives_iff (s : State) :
    s.receives = true ↔ s.bus.ready = true ∧ s.inRestart = false ∧ s.transmitEnable = false := by
  simp [State.receives, and_assoc]

end Sys2Proof.Machine
end

