-- ==== Sys2Proof/Tests/Slice0.lean ====
section
/-! SUPPORT. Small tests: ill-formed commands, worked examples of the spec, and for the statements of the
certificates concrete states and operands that meet their hypotheses. -/

namespace Sys2Proof.Machine.Tests

/-! ## Helpers -/

/-- The state after reset with the ready mark Set and the report queues empty. -/
def base : State :=
  { State.reset with bus := { State.reset.bus with ready := true, readyTimer := none }, reports := {} }

/-- Line `l` enabled with class `c`. -/
def enabled (l : Line) (c : Class) (s : State) : State :=
  s.setEntry l { enabled := true, profile := 0, cls := c, preemptible := false }

/-- Line `l` with the line record `r` and its feed Steady in `m`. -/
def line (l : Line) (r : CallRecord) (m : FeedMode) (s : State) : State :=
  (s.setCall l r).setFeed l { current := m, target := m }

/-- Line `l` with hook state OffHook. -/
def offHook (l : Line) (s : State) : State := s.setSup l { s.sup[l] with hook := .offHook }

/-- Bearer `b` in state `st`, naming `l`. -/
def bearer (b : Bearer) (st : BearerState) (l : Option Line) (s : State) : State :=
  s.setBearer b { state := st, line := l }

/-- An entry of the arrival list. -/
def arrival (l : Line) (c : Class) (st : Standing) (s : State) : State :=
  s.setArrivals (s.arbiter.arrivals ++ [{ line := l, cls := c, standing := st }])

/-! ## Commands that stand for no event -/

theorem test_catalogue_code_is_not_unknown : Instr.wellFormed (.unknownRequestCode .unit 0x10) = false := by
  decide

theorem test_unlisted_code_is_unknown : Instr.wellFormed (.unknownRequestCode .broadcast 0x16) = true := by
  decide

theorem test_disturbance_beyond_tables : Instr.wellFormed (.storageDisturbance 104 0) = false := by decide

theorem test_disturbance_of_last_byte : Instr.wellFormed (.storageDisturbance 103 0xFF) = true := by decide

/-! ## Worked examples of the spec -/

/-- Section 1.3, on-hook step, sample 6: 2430 moves by floor(−607.5) = −608. -/
theorem test_filter_rounds_down : filterUpdate 2 2430 0 = 1822 := by decide

/-- Section 1.3, settling from below: 15 units below 16·641, F stays. -/
theorem test_filter_settles_below : filterUpdate 4 10241 641 = 10241 := by decide

/-- Section 1.10: the fault on a Connected line, sample 3. -/
theorem test_filter_fault_sample : filterUpdate 2 20089 2047 = 23254 := by decide

/-- Section 2.3: the boundaries of the classification. -/
theorem test_break_classes : [9, 10, 60, 61, 124, 125, 400].map classifyBreak =
    [.glitch, .pulse, .pulse, .invalid, .invalid, .flash, .flash] := by decide

/-- Section 8.4.2: the worked figures of DC voltage. -/
theorem test_dc_figures : dcResult .x5 12345 = 2469 ∧ dcResult .x25 (-1238) = -50 := by decide

/-- Section 8.4.2: the worked figures of AC voltage. -/
theorem test_ac_figures : acResult .x5 0 1000000 = 2000 ∧ acResult .x25 500 90500 = 118 := by decide

/-- Section 8.4.3: the worked figures of leakage. -/
theorem test_leakage_figures :
    [leakageCurrent .x25 1250, leakageCurrent .x25 25, leakageCurrent .x25 (-25), leakageCurrent .x5 1200,
      leakageCurrent .x1 204700] = [25, 1, -1, 120, 102350] ∧
    [(25 : Int), 1, -1, 120, 102350].map leakageResistance = [2000, 50000, 65535, 416, 0] := by decide

/-- Section 10.2: the check byte of a Poll to unit 2. -/
theorem test_poll_check_byte : frameBytes 0x02 [0x10] = [0xA6, 0x02, 0x01, 0x10, 0x47] := by decide

/-- Section 10.1: the byte 0x47 has four ones, so its parity bit is 0; another parity bit, or a stop bit that is
not high, is a byte error. -/
theorem test_byte_on_the_wire :
    wireBits 0x47 = [false, true, true, true, false, false, false, true, false, false, true] ∧
    [(false, true), (true, true), (false, false)].map (fun x => byteError 0x47 x.1 x.2) =
      [false, true, true] := by decide

/-- Section 11.5: the digest after a full restart is 4799. -/
theorem test_digest_after_restart : (digest Tables.initial).toNat = 4799 := by decide

/-- Section 9.1, sample 6 and sample 13 of the worked sequence. -/
theorem test_supply_levels : nextLevel Tables.initial.thresholds .normal 4475 = .low ∧
    nextLevel Tables.initial.thresholds .low 4612 = .low ∧
    nextLevel Tables.initial.thresholds .low 4662 = .normal := by decide

/-- Section 10.1: no word of the opcode table spells a command. -/
theorem test_no_word_spells_a_command : decodeTableWord 8 0x10 = none := by decide

/-! ## Witnesses: a state and operands that meet the hypotheses of each statement -/

/-- StepRunsFrontCommand, EveryCommandAnswersNext and the statements over all states have none to meet; the
invariants hold at their bounds. -/
theorem test_safe_at_the_bounds :
    ReportsBounded { base with reports := { urgent := List.replicate 16 { kind := .fault }
                                            routine := List.replicate 48 { kind := .digit } } } ∧
    (base.setSup 3 { f := 32752 }).sup[(3 : Line)].f = 32752 ∧
    QuietOnlyWhenIdle { base with monitor := { base.monitor with quiet := true, quietTimer := none } } := by
  refine ⟨by unfold ReportsBounded; decide, by decide, ?_⟩
  unfold QuietOnlyWhenIdle
  decide

theorem test_filter_in_range_holds : FilterInRange State.reset := by unfold FilterInRange; decide

theorem test_early_digits_hold_at_8 :
    EarlyDigitsBounded (base.setCall 2 { state := .waiting, early := [1, 2, 3, 4, 5, 6, 7, 8], lost := true }) := by
  unfold EarlyDigitsBounded
  decide

theorem test_phases_hold_at_capacity :
    PhasesInCapacity (base.setRinger { base.ringer with phases := #v[[0, 1], [2, 3], [], []] }) := by
  unfold PhasesInCapacity
  decide

/-- FullRestartLeavesResetValues, with a receive line that has been low for 49 ms; also the statements on
requests that need only a receiving unit, and those on frames that need a listening one. -/
theorem test_base_receives : base.receives = true ∧ base.listening ∧ base.inRestart = false ∧
    base.pending = [] ∧ (base.setBus { base.bus with lowTimer := some 49 }).bus.lowTimer = some 49 ∧
    (base.setBus { base.bus with lowTimer := some 49 }).inRestart = false := by
  unfold State.listening
  decide

/-- An Idle line L5, enabled, with class Standard, Steady in Standby. -/
def idle5 : State := line 5 { state := .idle } .standby (enabled 5 .standard base)

/-- A Seizing line L5 on B2, Held for it, with two digits, off-hook. -/
def seizing5 : State :=
  offHook 5 (arrival 5 .standard .seizing (bearer 2 .held (some 5) (line 5
    { state := .seizing, bearer := some 2, early := [1, 3], timer := some { kind := .answer, left := 4000 } }
    .active (enabled 5 .standard base))))

/-- A Connected line L5 on B2, off-hook. -/
def connected5 : State :=
  (offHook 5 (bearer 2 .engaged (some 5) (line 5 { state := .connected, bearer := some 2, path := .bearer 2 }
    .active (enabled 5 .standard base)))).setConnection [2]

/-- A Ringing line L5 on B2 in phase 0. -/
def ringing5 : State :=
  (bearer 2 .reserved (some 5) (line 5 { state := .ringing, bearer := some 2 } .ring
    (enabled 5 .standard base))).setRinger
    { base.ringer with wheel := .running 0 500, phases := #v[[5], [], [], []] }

/-- A line L5 in Lockout with cause Preempted, off-hook. -/
def lockout5 (ph : LockoutPhase) : State :=
  offHook 5 (line 5
    { state := .lockout, cause := some .preempted, phase := some ph, path := .tone .preemption
      preemptionTone := some 1, timer := some { kind := .tonePhase, left := 28000 } }
    .active (enabled 5 .standard base))

/-- A line L5 under test with session `x`. -/
def tested5 (x : Session) (m : FeedMode) : State :=
  ((line 5 { state := .testing, prior := some .idle } m (enabled 5 .standard base)).setFeed 5
    { current := m, target := m, control := .testUnit, held := some .standby }).setTest
    { session := some x, relay := some 5, result := { line := some 5, mode := some x.mode, status := .inProgress } }

/-- A session on L5 in phase `ph` with a measurement `m` to make. -/
def session5 (ph : SessionPhase) (mode : TestMode) (present : Option Measurement) (t : Option Nat) : Session :=
  { line := 5, mode := mode, measurements := [.dc], remaining := [.dc], phase := ph, present := present, timer := t }

/-- A session on L5 of class `c`, for CallsRestartEndsCalls. -/
theorem test_calls_restart_hypotheses :
    ∀ c ∈ [Machine.Class.priority, .alarm],
      let s := enabled 5 c (tested5 (session5 .look .courteous none none) .standby)
      s.receives = true ∧ s.test.session = some (session5 .look .courteous none none) ∧ s.classOf 5 = c := by
  decide

/-- EveryCommandAnswersNext: a millisecond in which timers run and none runs out, and one in the restart of a
bus break. -/
theorem test_millisecond_hypotheses :
    let s := seizing5.setBus { seizing5.bus with pending := .waiting .poll 6, lowTimer := some 48, gap := some 2 }
    s.pending = [] ∧ s.inRestart = false ∧ (∀ l : Line, s.lineTimersRun l) ∧ s.unitTimersRun ∧
      s.busTimersRun ∧ { base with inRestart := true }.inRestart = true := by
  refine ⟨by decide, by decide, fun l => ⟨?_, ?_, ?_, ?_, ?_, ?_⟩, ?_, ?_, rfl⟩
  · revert l; decide
  · revert l; decide
  · revert l; decide
  · have h : ∀ l : Line, seizing5.call[l].timer = none ∨
        seizing5.call[l].timer = some { kind := .answer, left := 4000 } := by decide
    intro t ht
    change seizing5.call[l].timer = some t at ht
    rcases h l with h | h <;> rw [h] at ht <;> cases ht
    exact ⟨by decide, fun _ => by decide⟩
  · revert l; decide
  · revert l; decide
  · refine ⟨by unfold runsOn; decide, by unfold runsOn; decide, ?_, by unfold runsOn; decide, by unfold runsOn; decide,
      by unfold runsOn; decide, by unfold runsOn; decide⟩
    intro p n h
    cases h
  · refine ⟨by unfold runsOn; decide, by unfold runsOn; decide, ?_, ?_, ?_⟩
    · rintro r n ⟨⟩
      decide
    · rintro f n ⟨⟩
    · rintro n ⟨⟩
      decide

/-- StepKeepsEarlyDigitsBounded: the link is Up, L5 is Seizing in a handover, and L6 waits. -/
def tied : State :=
  let s := (bearer 2 .handover (some 5) seizing5).setHandover (some { bearer := 2, line := 5, left := 1 })
  let s := arrival 6 .alarm .waiting (line 6 { state := .waiting } .active (enabled 6 .alarm s))
  s.setBearers { s.bearers with linkUp := true, inService := some 12 }

theorem test_calls_tied : CallsTied tied := by
  constructor
  case agree =>
    have h : ∀ (l : Line) (b : Bearer), tied.call[l].bearer = some b →
        tied.call[l].state = .seizing ∧ (tied.bearer b).state = .handover := by decide
    intro l b hb
    obtain ⟨h₁, h₂⟩ := h l b hb
    rw [h₁, h₂]
    trivial
  case handedLine => rintro h ⟨⟩; decide
  case looks => rintro x ⟨⟩
  all_goals decide

/-- CallsTied in Isolated service, with every line Idle or Disabled. -/
theorem test_calls_tied_isolated :
    let s := idle5.setMonitor { idle5.monitor with isolated := true }
    s.monitor.isolated = true ∧ CallsTied s := by
  refine ⟨rfl, ?_⟩
  constructor
  case agree =>
    have h : ∀ l : Line, idle5.call[l].bearer = none := by decide
    intro l b hb
    cases (h l).symm.trans hb
  case handedLine => rintro h ⟨⟩
  case looks => rintro x ⟨⟩
  all_goals decide

/-- RepliesAndReadiness, the invariant: the 5 ms run with the line high, and the line is low without them. -/
theorem test_ready_while_high :
    ReadyWhileHigh State.reset ∧ State.reset.bus.readyTimer = some 5 ∧
      ReadyWhileHigh (base.setBus { base.bus with lowTimer := some 3 }) := by
  unfold ReadyWhileHigh
  decide

/-- StepKeepsPhasesInCapacity, the second clause: a Ringing line of class Priority in a phase, at Critical, with the
link Up. -/
theorem test_rings_tied :
    let r := enabled 5 .priority ringing5
    let s := (r.setSupply { r.supply with level := .critical }).setBearers
      { r.bearers with linkUp := true, inService := some 12 }
    CallsTied s ∧ RingsTied s ∧ s.call[(5 : Line)].state = .ringing := by
  refine ⟨?_, ?_, by decide⟩
  · constructor
    case agree =>
      have h : ∀ (l : Line) (b : Bearer), ringing5.call[l].bearer = some b →
          ringing5.call[l].state = .ringing ∧ (ringing5.bearer b).state = .reserved := by decide
      intro l b hb
      obtain ⟨h₁, h₂⟩ := h l b hb
      change useAgrees ringing5.call[l].state (ringing5.bearer b).state
      rw [h₁, h₂]
      trivial
    case handedLine => rintro h ⟨⟩
    case looks => rintro x ⟨⟩
    all_goals decide
  · constructor <;> decide

/-- SampleMovesFilteredCurrent, and the first clause of DiscardedAndBlankedSamples. -/
theorem test_sample_hypotheses : idle5.inRestart = false ∧ idle5.call[(5 : Line)].state ≠ .disabled ∧
    base.call[(5 : Line)].state = .disabled := by decide

/-- FilterApproachesSample: each premise at an end of its range. -/
theorem test_filter_hypotheses :
    filterUpdate 4 (-32768) 2047 = -28673 ∧ filterUpdate 0 32752 (-2048) = -32768 ∧ filterUpdate 4 1 0 = 0 := by
  decide

/-- DiscardedAndBlankedSamples, second clause, with the break count at its last value that ends nothing. -/
theorem test_blanked_hypotheses :
    let s := (connected5.setFeed 5 { current := .active, target := .active, blanking := .left 1 }).setBrk 5
      { breakCount := some 399, makeCount := some 148, pulses := 1, inDigit := true }
    s.inRestart = false ∧ s.call[(5 : Line)].state = .connected ∧ s.feed[(5 : Line)].blanking ≠ .none ∧
      s.feed[(5 : Line)].current ≠ .ring ∧ s.brk[(5 : Line)].breakCount = some 399 ∧
      s.brk[(5 : Line)].makeCount = some 148 := by decide

/-- DiscardedAndBlankedSamples, third clause: look counts 0 and 1 in a look proper, and a look that has not
begun. T_on is 320 units. -/
theorem test_look_sample_hypotheses :
    (∀ n ∈ [0, 1],
      let s := tested5 { session5 .look .courteous none (some 100) with lookCount := n } .standby
      s.inRestart = false ∧ s.call[(5 : Line)].state = .testing ∧
        s.test.session = some { session5 .look .courteous none (some 100) with lookCount := n } ∧
        (s.profileOf 5).tOn.toNat = 320) ∧
    (tested5 (session5 .look .courteous none none) .standby).test.session =
      some (session5 .look .courteous none none) := by decide

/-- HookStateIsDebounced: an Above sample on an on-hook line with count M − 1. -/
theorem test_debounce_hypotheses :
    let s := idle5.setSup 5 { f := 5920, hookCount := 2 }
    let F := filterUpdate 2 5920 640
    s.inRestart = false ∧ s.call[(5 : Line)].state = .idle ∧ s.feed[(5 : Line)].blanking = .none ∧
      s.feed[(5 : Line)].current = .standby ∧ (s.profileOf 5).tOff.toNat < (s.profileOf 5).tOn.toNat ∧
      s.sup[(5 : Line)].hook = .onHook ∧ 16 * ((s.profileOf 5).tOn.toNat : Int) ≤ 1 * F ∧
      F.natAbs < 16 * (s.profileOf 5).tOver.toNat ∧ s.sup[(5 : Line)].hookCount + 1 = (s.profileOf 5).m.toNat := by
  decide

/-- HookStateIsDebounced, the whole treatment: an on-hook Idle line one short of Overcurrent by a sample at the
top of the range, an off-hook one one short of Foreign Battery, a Ringing line with a ring-trip count of 1, and a
Connected line whose break count reaches 401, or its make count 150, with the next sample. M is 3, T_over 1600
units. -/
theorem test_sample_treatment_hypotheses :
    let o := idle5.setSup 5 { f := 32752, overCount := 2 }
    let f := (offHook 5 idle5).setSup 5 { f := -10000, hook := .offHook, foreignCount := 2 }
    let r := ringing5.setSup 5 { ringTripCount := 1 }
    let b := (connected5.setSup 5 { f := 0 }).setBrk 5 { breakCount := some 400 }
    let m := (connected5.setSup 5 { f := 8000, hook := .offHook }).setBrk 5
      { makeCount := some 149, pulses := 3, inDigit := true }
    (∀ s ∈ [o, f, r, b, m], s.inRestart = false ∧ s.call[(5 : Line)].state ≠ .disabled ∧
      s.call[(5 : Line)].state ≠ .testing ∧ (s.profileOf 5).tOff.toNat < (s.profileOf 5).tOn.toNat ∧
      (s.profileOf 5).m.toNat = 3 ∧ s.feed[(5 : Line)].blanking = .none ∧ s.feed[(5 : Line)].settling = false) ∧
    16 * (o.profileOf 5).tOver.toNat ≤ (filterUpdate 2 32752 2047).natAbs ∧
    filterUpdate 2 (-10000) (-700) ≤ -(16 * ((f.profileOf 5).tOn.toNat : Int)) ∧
    (filterUpdate 2 (-10000) (-700)).natAbs < 16 * (f.profileOf 5).tOver.toNat ∧
    r.feed[(5 : Line)].current = .ring ∧ r.sup[(5 : Line)].ringTripTaken = false ∧
    b.sup[(5 : Line)].hook = .onHook ∧ m.sup[(5 : Line)].hook = .offHook := by decide

/-- HookDecisionTimesBreaks: an off-hook timed line, and breaks at the boundaries of their classes. -/
theorem test_break_hypotheses :
    connected5.call[(5 : Line)].state = .connected ∧ connected5.sup[(5 : Line)].hook = .offHook ∧
    ∀ b ∈ [9, 10, 60, 61, 125, 400],
      let s := (connected5.setSup 5 {}).setBrk 5 { breakCount := some b }
      s.sup[(5 : Line)].hook = .onHook ∧ s.brk[(5 : Line)].breakCount = some b ∧ b ≤ 400 ∧
        (s.profileOf 5).flags.getLsbD 0 = true := by decide

/-- HookDecisionTimesBreaks: an OffHook decision with no break timed. -/
theorem test_no_break_hypotheses :
    let s := connected5.setSup 5 {}
    s.call[(5 : Line)].state = .connected ∧ s.sup[(5 : Line)].hook = .onHook ∧
      s.brk[(5 : Line)].breakCount = none := by decide

/-- HookDecisionTimesBreaks, the other states: either decision on a Faulted line, OnHook on an Idle and a Ringing
line, OffHook in Lockout, and a line under test. -/
theorem test_other_hook_hypotheses :
    let x := line 5 { state := .faulted, fault := some .foreignVoltage } .openLoop base
    x.call[(5 : Line)].state = .faulted ∧ (offHook 5 x).call[(5 : Line)].state = .faulted ∧
    (offHook 5 idle5).call[(5 : Line)].state = .idle ∧ (offHook 5 idle5).sup[(5 : Line)].hook = .offHook ∧
    (offHook 5 ringing5).call[(5 : Line)].state = .ringing ∧
    ((lockout5 .tone).setSup 5 {}).call[(5 : Line)].state = .lockout ∧
    ((lockout5 .tone).setSup 5 {}).sup[(5 : Line)].hook = .onHook ∧
    (tested5 (session5 .look .courteous none none) .standby).call[(5 : Line)].state = .testing := by decide

/-- ClearEndsCall: a Waiting, a Seizing and a Connected line with a break, and a handover to such a line without
and with another Priority line that waits. -/
theorem test_clear_hypotheses :
    let brk (s : State) := s.setBrk 5 { breakCount := some 401 }
    let wait := brk (line 5 { state := .waiting } .active base)
    let seize := brk seizing5
    let conn := brk connected5
    let hand := (bearer 2 .handover (some 5) seize).setHandover (some { bearer := 2, line := 5, left := 1 })
    (∀ s ∈ [wait, seize, conn, hand, arrival 6 .priority .waiting hand], s.brk[(5 : Line)].breakCount ≠ none) ∧
    wait.call[(5 : Line)].state = .waiting ∧
    seize.call[(5 : Line)].bearer = some 2 ∧ (seize.bearer 2).line = some 5 ∧
    seize.call[(5 : Line)].state = .seizing ∧ (seize.bearer 2).state = .held ∧ seize.arbiter.handover = none ∧
    conn.call[(5 : Line)].bearer = some 2 ∧ (conn.bearer 2).line = some 5 ∧
    conn.call[(5 : Line)].state = .connected ∧ (conn.bearer 2).state = .engaged ∧ conn.arbiter.handover = none ∧
    hand.call[(5 : Line)].state = .seizing ∧ hand.call[(5 : Line)].bearer = some 2 ∧
    (hand.bearer 2).state = .handover ∧ (hand.bearer 2).line = some 5 ∧
    hand.arbiter.handover = some { bearer := 2, line := 5, left := 1 } ∧
    (∀ a ∈ hand.arbiter.arrivals, a.line = 5) := by decide

/-- DigitEndHandsDigit: ten and eleven pulses, on a Connected and on a Seizing line. -/
theorem test_digit_hypotheses :
    ∀ p ∈ [1, 10, 11], ∀ s ∈ [connected5, seizing5],
      let t := s.setBrk 5 { makeCount := some 150, pulses := p, inDigit := true }
      (t.call[(5 : Line)].state = .connected ∨ t.call[(5 : Line)].state = .seizing) ∧
        t.brk[(5 : Line)].makeCount ≠ none ∧ 1 ≤ t.brk[(5 : Line)].pulses := by decide

/-- OffHookJoins: an Idle bearer B11 for the line, no bearer at all, and Isolated service. -/
theorem test_off_hook_hypotheses :
    let s := bearer 11 .idle none idle5
    let iso := idle5.setMonitor { idle5.monitor with isolated := true }
    s.call[(5 : Line)].state = .idle ∧ s.sup[(5 : Line)].hook = .onHook ∧ s.monitor.isolated = false ∧
    s.arbiter.arrivals = [] ∧ (s.bearer 11).line = none ∧ (s.bearer 11).state = .idle ∧
    inSet (s.tables.classMap.set .standard) 11 = true ∧ s.supply.level.admits .standard = true ∧
    (∀ c : Bearer, c < 11 → (s.bearer c).state ≠ .idle) ∧
    idle5.classOf 5 ≠ .priority ∧ (∀ b : Bearer, idle5.eligible .standard b = false) ∧
    iso.monitor.isolated = true ∧ iso.call[(5 : Line)].state = .idle := by decide

/-- PriorityLinePreempts and HandoverEndsInSeize: L5 Connected and preemptible on B2, L6 of class Priority. -/
def preempt56 : State :=
  line 6 { state := .idle } .standby (enabled 6 .priority (connected5.setEntry 5
    { enabled := true, profile := 0, cls := .standard, preemptible := true }))

theorem test_preemption_hypotheses :
    preempt56.call[(6 : Line)].state = .idle ∧ preempt56.sup[(6 : Line)].hook = .onHook ∧
    preempt56.classOf 6 = .priority ∧ (∀ c : Bearer, preempt56.eligible .priority c = false) ∧
    preempt56.arbiter.handover = none ∧ preempt56.bearers.connection = [] ++ 2 :: [] ∧
    (preempt56.bearer 2).line = some 5 ∧ preempt56.entries[(5 : Line)].preemptible = true ∧
    preempt56.classOf 5 ≠ .priority ∧ preempt56.call[(5 : Line)].state = .connected ∧
    preempt56.sup[(5 : Line)].hook = .offHook ∧ preempt56.monitor.isolated = false := by decide

/-- OffHookJoins and PriorityLinePreempts: a Priority line with no victim and with a handover in flight, and a victim
that is on-hook. -/
theorem test_no_preemption_hypotheses :
    let n := preempt56.setEntry 5 { enabled := true, profile := 0, cls := .standard, preemptible := false }
    let h := preempt56.setHandover (some { bearer := 0, line := 9, left := 3 })
    (∀ s ∈ [n, h], s.call[(6 : Line)].state = .idle ∧ s.sup[(6 : Line)].hook = .onHook ∧
      s.monitor.isolated = false ∧ ∀ b : Bearer, s.eligible (s.classOf 6) b = false) ∧
    (∀ c ∈ n.bearers.connection, c = 2) ∧ (n.bearer 2).line = some 5 ∧ n.entries[(5 : Line)].preemptible = false ∧
    h.arbiter.handover ≠ none ∧ (preempt56.setSup 5 {}).sup[(5 : Line)].hook = .onHook := by decide

def handover5 : State :=
  (bearer 2 .handover (some 5) seizing5).setHandover (some { bearer := 2, line := 5, left := 0 })

theorem test_handover_hypotheses :
    handover5.arbiter.handover = some { bearer := 2, line := 5, left := 0 } ∧
    handover5.call[(5 : Line)].state = .seizing ∧ handover5.call[(5 : Line)].bearer = some 2 ∧
    (handover5.bearer 2).state = .handover ∧ (handover5.bearer 2).line = some 5 ∧
    (∀ a ∈ handover5.arbiter.arrivals, a.standing = .waiting → a.cls ≠ .priority) := by decide

/-- HandoverEndsInSeize, the reconsideration: L6 waits in class Priority, with an Idle bearer B3, with none and
a handover in flight, with none and no call to preempt, and with the call of L5 on B2 to preempt. -/
theorem test_reconsideration_hypotheses :
    let wait (s : State) := arrival 6 .priority .waiting (line 6 { state := .waiting } .active s)
    let full := wait (connected5.setEntry 5 { enabled := true, profile := 0, cls := .standard, preemptible := true })
    (∀ s ∈ [bearer 3 .idle none (wait base), wait handover5, wait connected5, full],
      (s.arbiter.arrivals.map Arrival.line).Nodup ∧
        (s.arbiter.arrivals.find? fun a => decide (a.standing = .waiting ∧ a.cls = .priority)).map Arrival.line =
          some 6) ∧
    (bearer 3 .idle none (wait base)).eligible .priority 3 = true ∧
    (∀ c : Bearer, c < 3 → (bearer 3 .idle none (wait base)).eligible .priority c = false) ∧
    (∀ s ∈ [wait handover5, wait connected5, full], ∀ c : Bearer, s.eligible .priority c = false) ∧
    (wait handover5).arbiter.handover ≠ none ∧ (wait connected5).arbiter.handover = none ∧
    (wait connected5).bearers.connection = [2] ∧ (wait connected5).entries[(5 : Line)].preemptible = false ∧
    full.arbiter.handover = none ∧ full.bearers.connection = [] ++ 2 :: [] ∧ (full.bearer 2).line = some 5 ∧
    full.entries[(5 : Line)].preemptible = true ∧ full.classOf 5 ≠ .priority ∧
    full.call[(5 : Line)].state = .connected ∧ full.sup[(5 : Line)].hook = .offHook ∧
    full.call[(6 : Line)].state = .waiting := by decide

/-- FreedBearerGoesByTurns: an Alarm waiter and the pointer at phase 6 (it is found at phase 5, the last of the
walk's eight), and a Priority waiter beside it. -/
def turns : State :=
  let s := arrival 7 .alarm .waiting (bearer 0 .idle none base)
  s.setArbiter { s.arbiter with pointer := 6 }

theorem test_turn_hypotheses :
    turns.oldestEligible .priority 0 = none ∧ phaseWalk turns 0 7 6 = none ∧
    phaseWalk turns 0 8 6 = some (7, 6) ∧
    (arrival 8 .priority .waiting turns).oldestEligible .priority 0 = some 8 := by decide

/-- FreedBearerGoesByTurns, the requests: B3 is freed in each way while L7 waits. -/
theorem test_freed_hypotheses :
    let wait (s : State) := arrival 7 .alarm .waiting (line 7 { state := .waiting } .active s)
    let c := wait (base.setBearer 3 { state := .clearing, guard := some 9 })
    let x := wait (bearer 3 .barred none base)
    let n := wait (bearer 3 .unchecked none (base.setBearers { base.bearers with linkUp := true }))
    (∀ s ∈ [c, x, n, wait seizing5, wait connected5, wait ringing5], s.receives = true) ∧
    (c.bearer 3).state = .clearing ∧ (c.bearer 3).line = none ∧ (c.bearer 3).barPending = false ∧
    (x.bearer 3).state = .barred ∧ n.bearers.linkUp = true ∧
    (∀ b : Bearer, (n.bearer b).state = .unchecked →
      (n.bearer b).line = none ∧ (n.bearer b).barPending = false ∧ (n.bearer b).guard = none) ∧
    (∀ s ∈ [wait seizing5, wait connected5, wait ringing5], s.call[(5 : Line)].bearer = some 2 ∧
      (s.bearer 2).line = some 5 ∧ (s.bearer 2).barPending = false) ∧
    ((wait seizing5).bearer 2).state = .held ∧ ((wait connected5).bearer 2).state = .engaged ∧
    ((wait ringing5).bearer 2).state = .reserved := by decide

/-- SettleEndsOrSteps: a settle at its target, one short of it, and a blanking remainder. -/
theorem test_settle_hypotheses :
    let f : Feed := { current := .standby, target := .standby, settling := true, blanking := .inTransition }
    let s := base.setFeed 5 f
    let t := base.setFeed 5 { f with target := .ring }
    s.feed[(5 : Line)].settling = true ∧ s.feed[(5 : Line)].control = .callSide ∧
    s.feed[(5 : Line)].current = s.feed[(5 : Line)].target ∧ t.feed[(5 : Line)].current ≠ t.feed[(5 : Line)].target ∧
    (base.setFeed 5 { blanking := .left 0 }).feed[(5 : Line)].blanking = .left 0 := by decide

/-- TargetIsReachedByItsRoute: one step and two steps. -/
theorem test_route_hypotheses :
    ((({ current := .standby } : Feed).take .ring).current = .ring) ∧
    ((({ current := .active } : Feed).take .ring).current ≠ .ring) := by decide

/-- TargetIsReachedByItsRoute, R42 and R50: control on either side. -/
theorem test_control_hypotheses :
    ringing5.feed[(5 : Line)].control = .callSide ∧ ringing5.call[(5 : Line)].state = .ringing ∧
    (tested5 (session5 .look .courteous none none) .standby).feed[(5 : Line)].control = .testUnit := by decide

/-- The link Up with all twelve bearers in service. -/
def linkUp : State := base.setBearers { base.bearers with linkUp := true, inService := some 12 }

/-- LinkUpBringsBearersIn, LinkDownEndsItsCalls and BearerCheckConfirms: counts and sets at their ends. -/
theorem test_link_hypotheses :
    linkUp.receives = true ∧ linkUp.bearers.linkUp = true ∧ base.bearers.linkUp = false ∧
    [0, 1, 12, 13].map (fun n : Byte => decide (1 ≤ n.toNat ∧ n.toNat ≤ 12)) = [false, true, true, false] ∧
    (0x0FFF : Word16).toNat < 4096 ∧ 4096 ≤ (0x1000 : Word16).toNat ∧
    linkUp.arbiter.arrivals = [] ∧
    ((bearer 11 .unchecked none linkUp).bearer 11).state = .unchecked ∧
    connected5.sup[(5 : Line)].hook = .offHook ∧ ringing5.call[(5 : Line)].state = .ringing := by decide

/-- BarAndUnbar and ClearingEnds. -/
theorem test_bar_hypotheses :
    let s := bearer 11 .barred none base
    let c := base.setBearer 11 { state := .clearing, formerLine := some 5, guard := some 0 }
    s.receives = true ∧ (s.bearer 11).state = .barred ∧ (s.bearer 10).state = .absent ∧
    s.arbiter.arrivals = [] ∧ (connected5.bearer 2).state.busy = true ∧ 12 ≤ (12 : Byte).toNat ∧
    c.receives = true ∧ (c.bearer 11).state = .clearing ∧ (c.bearer 11).guard ≠ none := by decide

/-- LateAnswersChangeNothing: a line that is the bearer's former line, and one that is not. -/
theorem test_late_hypotheses :
    let c := base.setBearer 11 { state := .clearing, formerLine := some 5 }
    c.receives = true ∧ c.call[(5 : Line)].state ≠ .seizing ∧ c.call[(5 : Line)].state ≠ .connected ∧
    c.call[(5 : Line)].state ≠ .ringing ∧ (c.bearer 11).formerLine = some 5 ∧ (c.bearer 11).line ≠ some 6 := by decide

/-- GrantAndFarAnswer and ExchangeEndsCalls. -/
theorem test_call_control_hypotheses :
    seizing5.receives = true ∧ seizing5.call[(5 : Line)].state = .seizing ∧ (seizing5.bearer 2).state = .held ∧
    seizing5.call[(5 : Line)].bearer = some 2 ∧ (seizing5.bearer 2).line = some 5 ∧
    (∀ m : Line, m ≠ 5 → seizing5.call[m].path ≠ .bearer 2) ∧
    (∀ a ∈ seizing5.arbiter.arrivals, a.line = 5) ∧ seizing5.sup[(5 : Line)].hook = .offHook ∧
    connected5.receives = true ∧ connected5.call[(5 : Line)].state = .connected ∧
    connected5.call[(5 : Line)].path = .bearer 2 ∧ (∀ m : Line, m ≠ 5 → connected5.call[m].path ≠ .bearer 2) ∧
    (connected5.bearer 2).state = .engaged ∧ connected5.arbiter.arrivals = [] ∧
    ringing5.receives = true ∧ ringing5.call[(5 : Line)].state = .ringing ∧
    (ringing5.bearer 2).state = .reserved ∧ (ringing5.bearer 2).line = some 5 := by decide

/-- IncomingIsCarriedOut and IncomingIsChecked. -/
theorem test_incoming_hypotheses :
    let s := bearer 3 .idle none idle5
    let t := bearer 3 .idle none seizing5
    s.receives = true ∧ s.call[(5 : Line)].state = .idle ∧ (s.bearer 3).state = .idle ∧ (s.bearer 3).line = none ∧
    s.arbiter.handover = none ∧ t.receives = true ∧ t.call[(5 : Line)].state = .seizing ∧
    (t.bearer 3).state = .idle ∧ (t.bearer 2).state = .held ∧ (t.bearer 2).line = some 5 ∧
    connected5.call[(5 : Line)].state = .connected ∧ (idle5.bearer 2).state ≠ .idle ∧
    (seizing5.bearer 2).line = some 5 ∧ 32 ≤ (32 : Byte).toNat ∧ 2 ≤ (2 : Byte).toNat := by decide

/-- IncomingIsCarriedOut, the placement: a Stopped and a Running wheel, a phase that is next, full phases, and a line
that the level does not permit. -/
theorem test_placement_hypotheses :
    let s := bearer 3 .idle none idle5
    let r := s.setRinger { s.ringer with wheel := .running 2 400, phases := #v[[9], [], [8], []] }
    let f := r.setRinger { r.ringer with phases := #v[[9, 10], [11, 12], [8, 7], [6, 0]] }
    let c := s.setSupply { s.supply with level := .critical }
    s.ringer.wheel = .stopped ∧ r.ringer.wheel = .running 2 400 ∧ s.permits 5 ∧ ¬c.permits 5 ∧
    s.ringRoom = 2 ∧ (∀ p : Fin 4, f.ringRoom ≤ f.ringer.phases[p].length) ∧
    nextPhase s.ringer.phases s.ringRoom 0 ∧ nextPhase r.ringer.phases r.ringRoom 1 := by
  unfold nextPhase
  decide

/-- IncomingIsCarriedOut: a Waiting line, a handover to the line, and B2 Held for L5 while it is wanted for L6,
which is Idle or waits, with another bearer B3 for L5 and with none. -/
theorem test_incoming_yield_hypotheses :
    let wait (l : Line) (s : State) := arrival l .alarm .waiting (line l { state := .waiting } .active s)
    let idle6 := line 6 { state := .idle } .standby (enabled 6 .alarm seizing5)
    let w := bearer 3 .idle none (wait 5 base)
    let h := bearer 3 .idle none handover5
    w.receives = true ∧ (w.bearer 3).state = .idle ∧ (w.bearer 3).line = none ∧ w.arbiter.handover = none ∧
    w.call[(5 : Line)].state = .waiting ∧ w.call[(5 : Line)].bearer = none ∧
    h.receives = true ∧ (h.bearer 3).state = .idle ∧ (h.bearer 3).line = none ∧
    h.call[(5 : Line)].state = .seizing ∧ h.call[(5 : Line)].bearer = some 2 ∧ (h.bearer 2).line = some 5 ∧
    (h.bearer 2).state = .handover ∧ h.arbiter.handover = some { bearer := 2, line := 5, left := 0 } ∧
    (∀ s ∈ [idle6, wait 6 seizing5], s.receives = true ∧ (s.bearer 2).state = .held ∧
      (s.bearer 2).line = some 5 ∧ s.call[(5 : Line)].state = .seizing ∧ s.arbiter.handover = none ∧
      (s.arbiter.arrivals.find? fun x => x.line = 5) = some { line := 5, cls := .standard, standing := .seizing } ∧
      (∀ c : Bearer, s.eligible .standard c = false) ∧
      (bearer 3 .idle none s).eligible .standard 3 = true ∧ ((bearer 3 .idle none s).bearer 3).line = none ∧
      ∀ c : Bearer, c < 3 → (bearer 3 .idle none s).eligible .standard c = false) ∧
    idle6.call[(6 : Line)].state = .idle ∧ (wait 6 seizing5).call[(6 : Line)].state = .waiting ∧
    (wait 6 seizing5).call[(6 : Line)].bearer = none := by decide

/-- LockoutRunsItsCourse. -/
theorem test_lockout_hypotheses :
    let w := offHook 5 (line 5 { state := .waiting, timer := some { kind := .wait, left := 0 } } .active base)
    w.call[(5 : Line)].state = .waiting ∧ w.call[(5 : Line)].timer = some { kind := .wait, left := 0 } ∧
    w.sup[(5 : Line)].hook = .offHook ∧ (lockout5 .tone).call[(5 : Line)].state = .lockout ∧
    (lockout5 .tone).call[(5 : Line)].phase = some .tone ∧
    (lockout5 .tone).call[(5 : Line)].preemptionTone ≠ none ∧
    (lockout5 .howler).call[(5 : Line)].phase = some .howler ∧
    (∀ ph ∈ [LockoutPhase.tone, .howler, .parked], (lockout5 ph).sup[(5 : Line)].hook = .offHook) := by decide

/-- LockoutRunsItsCourse: the last millisecond of an answer timer. -/
theorem test_answer_timer_hypotheses :
    let s := seizing5.setCall 5
      { state := .seizing, bearer := some 2, timer := some { kind := .answer, left := 1 } }
    s.pending = [] ∧ s.inRestart = false ∧ s.call[(5 : Line)].timer = some { kind := .answer, left := 1 } ∧
    (s.bearer 2).line = some 5 ∧ s.sup[(5 : Line)].hook = .offHook ∧ s.arbiter.handover = none ∧
    s.call[(5 : Line)].preemptionTone = none ∧ s.feed[(5 : Line)].settling = false ∧
    s.feed[(5 : Line)].blanking = .none ∧ (∀ m : Line, m ≠ 5 → s.lineTimersRun m) ∧ s.unitTimersRun ∧
    s.busTimersRun ∧ 1 ≤ s.tables.timers.congestion.toNat ∧ 1 ≤ s.tables.timers.guard.toNat := by
  refine ⟨by decide, by decide, by decide, by decide, by decide, by decide, by decide, by decide, by decide,
    fun m hm => ⟨?_, ?_, ?_, ?_, ?_, ?_⟩, ?_, ?_, by decide, by decide⟩
  · revert m; decide
  · revert m; decide
  · revert m; decide
  · have h : ∀ m : Line, m ≠ 5 → (seizing5.setCall 5
        { state := .seizing, bearer := some 2, timer := some { kind := .answer, left := 1 } }).call[m].timer =
          none := by decide
    intro t ht
    rw [h m hm] at ht
    cases ht
  · revert m; decide
  · revert m; decide
  · refine ⟨by unfold runsOn; decide, by unfold runsOn; decide, ?_, by unfold runsOn; decide, by unfold runsOn; decide,
      by unfold runsOn; decide, by unfold runsOn; decide⟩
    intro p n h
    cases h
  · refine ⟨by unfold runsOn; decide, by unfold runsOn; decide, ?_, ?_, ?_⟩
    · rintro r n ⟨⟩
    · rintro f n ⟨⟩
    · rintro n ⟨⟩

/-- FaultEntry (a line without bearer and one with) and FaultIsRetried. -/
theorem test_fault_hypotheses :
    let w := line 5 { state := .faulted, retry := some .wait, timer := some { kind := .retryWait, left := 0 } }
      .openLoop base
    let k := line 5 { state := .faulted, retry := some .look, timer := some { kind := .retryLook, left := 0 } }
      .standby base
    idle5.feed[(5 : Line)].control = .callSide ∧ idle5.feed[(5 : Line)].current ≠ .openLoop ∧
    idle5.call[(5 : Line)].bearer = none ∧ idle5.arbiter.handover = none ∧
    connected5.feed[(5 : Line)].control = .callSide ∧ connected5.feed[(5 : Line)].current ≠ .openLoop ∧
    connected5.call[(5 : Line)].bearer = some 2 ∧ (connected5.bearer 2).line = some 5 ∧
    connected5.arbiter.handover = none ∧
    w.call[(5 : Line)].timer = some { kind := .retryWait, left := 0 } ∧ w.call[(5 : Line)].state = .faulted ∧
    k.call[(5 : Line)].timer = some { kind := .retryLook, left := 0 } ∧ k.sup[(5 : Line)].hook = .onHook ∧
    k.call[(5 : Line)].retry = some .look := by decide

/-- FaultEntry, a Ringing line, one whose feed is Open and one in a handover; FaultIsRetried, a look that ends
off-hook. -/
theorem test_other_fault_hypotheses :
    let k := offHook 5 (line 5
      { state := .faulted, retry := some .look, timer := some { kind := .retryLook, left := 0 } } .standby base)
    ringing5.call[(5 : Line)].state = .ringing ∧ ringing5.feed[(5 : Line)].control = .callSide ∧
    ringing5.call[(5 : Line)].bearer = some 2 ∧ (ringing5.bearer 2).line = some 5 ∧
    ringing5.arbiter.handover = none ∧ (idle5.setFeed 5 {}).feed[(5 : Line)].current = .openLoop ∧
    handover5.feed[(5 : Line)].control = .callSide ∧ handover5.call[(5 : Line)].state = .seizing ∧
    handover5.call[(5 : Line)].bearer = some 2 ∧ (handover5.bearer 2).line = some 5 ∧
    (handover5.bearer 2).state = .handover ∧
    handover5.arbiter.handover = some { bearer := 2, line := 5, left := 0 } ∧
    k.call[(5 : Line)].timer = some { kind := .retryLook, left := 0 } ∧ k.sup[(5 : Line)].hook = .offHook ∧
    k.call[(5 : Line)].state = .faulted ∧ k.feed[(5 : Line)].control = .callSide := by decide

/-- RingingEnds and WheelTurns: phase 3 with the ring count of L5 one and two short of the limit of 25. -/
theorem test_ringing_hypotheses :
    ringing5.call[(5 : Line)].state = .ringing ∧ ringing5.call[(5 : Line)].bearer = some 2 ∧
    (ringing5.bearer 2).line = some 5 ∧ ringing5.arbiter.handover = none ∧
    ringing5.sup[(5 : Line)].hook = .onHook ∧ ringing5.ringer.wheel = .running 0 500 ∧ ringing5.ringer.phases[(0 : Fin 4)].Nodup ∧
    ∀ n ∈ [23, 24],
      let s := ringing5.setRinger
        { ringing5.ringer with wheel := .running 3 1000, counts := ringing5.ringer.counts.set 5 n }
      s.ringer.wheel = .running 3 1000 ∧ (∀ l : Line, s.call[l].state = .ringing ↔ l = 5) ∧
        (s.tables.timers.ringLimit.toNat ≤ s.ringer.counts[(5 : Line)] + 1 ↔ n = 24) := by
  decide

/-- RingingEnds: a ring-trip decision on a line that is Idle again, on a Connected one, and on one that is Disabled. -/
theorem test_other_trip_hypotheses :
    idle5.call[(5 : Line)].state = .idle ∧ connected5.call[(5 : Line)].state = .connected ∧
    base.call[(5 : Line)].state = .disabled := by decide

/-- FillKeepsCapacityAndLines: a fill with a line that is not permitted and phases that become full. -/
theorem test_fill_hypotheses :
    fillWalk (fun l => l ≠ 1) 1 [0, 1, 2, 3, 4, 5] #v[[9], [], [], []] =
      (#v[[9], [0], [2], [3]], [1, 4, 5]) ∧
    nextPhase #v[[9], [], [], []] 1 1 ∧ ∀ p : Fin 4, (#v[[9], [0], [2], [3]] : Vector (List Line) 4)[p].length = 1 := by
  unfold nextPhase
  decide

/-- TestLineStartsOrRefuses. -/
theorem test_test_line_hypotheses :
    idle5.receives = true ∧ idle5.call[(5 : Line)].state = .idle ∧ idle5.test.session = none ∧
    idle5.supply.level ≠ .critical ∧ (7 : Byte).toNat ≤ 7 ∧ ¬((8 : Byte).toNat ≤ 7) ∧
    connected5.call[(5 : Line)].state = .connected ∧
    (idle5.setSupply { idle5.supply with level := .critical }).supply.level = .critical := by decide

/-- SessionGoesOn, LookYieldsToSubscriber, WindowsRangeDown and SessionEnds. -/
theorem test_session_hypotheses :
    let c := tested5 (session5 .connect .courteous none (some 0)) .openLoop
    let k := tested5 (session5 .look .courteous none (some 0)) .standby
    let m := tested5 { session5 .measure .forced (some .dc) none with window := 98, clipped := true } .openLoop
    let d := tested5 (session5 .disconnect .forced none (some 0)) .openLoop
    c.test.session = some (session5 .connect .courteous none (some 0)) ∧
    c.feed[(5 : Line)].settling = false ∧ c.feed[(5 : Line)].current = .openLoop ∧
    k.feed[(5 : Line)].current = .standby ∧ k.call[(5 : Line)].state = .testing ∧
    k.feed[(5 : Line)].control = .testUnit ∧ k.classOf 5 ≠ .priority ∧
    (∀ b : Bearer, k.eligible .standard b = false) ∧ m.test.session.isSome ∧ d.receives = true ∧
    d.call[(5 : Line)].prior = some .idle ∧ d.call[(5 : Line)].bearer = none := by decide

/-- WindowsRangeDown: the 99th and the 100th sample of a window, and the end of one that is clipped below gain ×1,
of one that is not the last in each mode, and of the last. -/
theorem test_window_hypotheses :
    (∀ n ∈ [98, 99], (tested5 { session5 .measure .forced (some .dc) none with window := n } .openLoop).test.session =
      some { session5 .measure .forced (some .dc) none with window := n }) ∧
    (∀ mode ∈ [TestMode.courteous, .forced], ∀ rest ∈ [[], [Measurement.leakage]],
      let x : Session :=
        { session5 .measure mode (some .dc) none with remaining := .dc :: rest, gain := .x1, clipped := true }
      let s := tested5 x .openLoop
      s.test.session = some x ∧ x.remaining.tail = rest ∧ s.feed[(5 : Line)].settling = false ∧
        s.feed[(5 : Line)].current = .openLoop) := by decide

/-- SessionEnds: each prior state with each verdict, and a cured line on-hook, and off-hook with no bearer for it
and in Isolated service. -/
theorem test_session_end_hypotheses :
    let d := tested5 (session5 .disconnect .forced none (some 1)) .openLoop
    base.receives = true ∧ base.test.session = none ∧
    (∀ p ∈ [CallState.idle, .lockout, .faulted, .disabled], ∀ v ∈ [some Verdict.hazard, some .leaky, some .clean],
      let s := (d.setCall 5 { state := .testing, prior := some p, fault := some .foreignVoltage }).setTest
        { d.test with result := { d.test.result with verdict := v } }
      s.call[(5 : Line)].prior = some p ∧ s.call[(5 : Line)].bearer = none ∧ s.feed[(5 : Line)].settling = false ∧
        s.test.session = some (session5 .disconnect .forced none (some 1)) ∧ s.test.result.verdict = v) ∧
    d.sup[(5 : Line)].hook = .onHook ∧ (offHook 5 d).sup[(5 : Line)].hook = .offHook ∧
    (offHook 5 d).monitor.isolated = false ∧ (offHook 5 d).classOf 5 ≠ .priority ∧
    ∀ b : Bearer, (offHook 5 d).eligible .standard b = false := by decide

/-- SessionGoesOn: each phase at the Feed Controller's signal, its timer run out, and a look in Open. -/
theorem test_signal_hypotheses :
    let settling (x : Session) (m : FeedMode) : State := (tested5 x m).setFeed 5
      { current := m, target := m, settling := true, settle := 0, blanking := .inTransition
        control := .testUnit, held := some .standby }
    (∀ x ∈ [(SessionPhase.connect, FeedMode.openLoop), (.look, .standby), (.measure, .openLoop),
        (.disconnect, .openLoop)], ∀ mode ∈ [TestMode.courteous, .forced],
      let s := settling (session5 x.1 mode none none) x.2
      s.test.session = some (session5 x.1 mode none none) ∧ s.feed[(5 : Line)].settling = true ∧
        s.feed[(5 : Line)].control = .testUnit ∧ s.feed[(5 : Line)].current = s.feed[(5 : Line)].target) ∧
    (settling (session5 .connect .forced none (some 7)) .openLoop).test.session.isSome ∧
    (tested5 (session5 .look .courteous none (some 0)) .openLoop).feed[(5 : Line)].current = .openLoop := by
  decide

/-- MeasurementsAndVerdict: a sum and a square sum of one window, and an entry of each kind at its limit. -/
theorem test_measurement_hypotheses :
    ((500 : Int) * 500 ≤ 100 * (90500 : Nat)) ∧
    verdictOf { dc := some { value := -10001, gain := .x5, overRange := false } } = .hazard ∧
    verdictOf { dc := some { value := -10000, gain := .x5, overRange := false } } = .clean ∧
    verdictOf { leakage := some { current := 501, resistance := 99, gain := .x5, overRange := true } } = .leaky := by
  decide

/-- SupplySampleSetsLevel: histories of 6, 7 and 8 samples, and a rise from Low to Normal at 46.50 V. -/
theorem test_supply_hypotheses :
    (∀ n ∈ [6, 7, 8], (base.setSupply { history := List.replicate n 4700 }).supply.history.length = n ∧
      base.inRestart = false ∧ base.test.session = none) ∧
    nextLevel base.tables.thresholds .low 4650 = .normal ∧ Level.normal.code < Level.low.code := by decide

/-- SupplySampleSetsLevel: a fall from Normal to Critical with two lines in a ring phase, with a session in a look
and with one in its Disconnect phase; each row of R152 at its bound. -/
theorem test_supply_fall_hypotheses :
    let full : Supply := { history := List.replicate 7 4100 }
    let r := (ringing5.setRinger { ringing5.ringer with phases := #v[[5, 6], [], [], []] }).setSupply full
    let k := (tested5 (session5 .look .courteous none none) .standby).setSupply full
    let d := (tested5 (session5 .disconnect .forced none (some 1)) .openLoop).setSupply full
    (∀ s ∈ [r, k, d], s.inRestart = false ∧ s.supply.history.length = 7 ∧ s.supply.level = .normal) ∧
    r.ringer.phases[(0 : Fin 4)] = [5, 6] ∧ k.test.session.isSome = true ∧ d.test.session.isSome = true ∧
    [(Level.normal, 4199), (.normal, 4200), (.normal, 4500), (.low, 4199), (.low, 4649), (.critical, 4349),
        (.critical, 4350)].map (fun x => nextLevel base.tables.thresholds x.1 x.2) =
      [.critical, .low, .normal, .critical, .low, .critical, .low] := by decide

/-- SupplySettings, QuietLengthensTheRound and MonitorIsolates. -/
theorem test_monitor_hypotheses :
    let s := handover5.setMonitor { handover5.monitor with armed := true, interval := some 2, countdown := some 0 }
    (4200 : Word16).toNat < (4350 : Word16).toNat ∧ base.monitor.quietTimer ≠ none ∧ base.monitor.quiet = false ∧
    base.quietCondition = true ∧ s.monitor.countdown ≠ none ∧
    s.arbiter.handover = some { bearer := 2, line := 5, left := 0 } ∧ s.call[(5 : Line)].state = .seizing ∧
    s.call[(5 : Line)].bearer = some 2 ∧ (2 : Byte).toNat = 2 ∧ (60 : Byte).toNat = 60 := by decide

/-- OtherFramesAreDropped and FramesWithoutOwner. -/
theorem test_frame_hypotheses :
    let s := base.setBus
      { base.bus with
        assembly := { state := .payload, address := some 0, length := some 2 }, gap := some 0
        reception := .taken }
    s.receives = true ∧ s.bus.assembly.state ≠ .hunting ∧ s.bus.gap ≠ none ∧ s.bus.reception = .taken ∧
    s.bus.assembly.payload.length + 1 < (s.bus.assembly.length.getD 0).toNat ∧
    true ≠ parityBit 0 ∧ (0x80 : Byte) ≠ 0x00 ∧ base.bus.reception = .none ∧ base.bus.lowTimer = none ∧
    requestCodes.contains 0x16 = false ∧ requestLength 0x10 = some 1 ∧ State.reset.receives = false ∧
    State.reset.bus.lowTimer = none ∧ State.reset.inRestart = false ∧
    (base.setBus { base.bus with reception := .ignored }).bus.reception = .ignored ∧
    (∀ l ∈ [base.setBus { base.bus with reception := .taken, assembly := { state := .length, address := some 0 } }],
      l.bus.reception = .taken ∧ l.bus.assembly.state = .length) ∧
    [0, 1, 60, 61].map (fun v : Byte => decide (1 ≤ v.toNat ∧ v.toNat ≤ 60)) = [false, true, true, false] := by
  decide

/-- FramesReloadAndBroadcastsAreSilent: Restart with scope Calls leaves the Bus Interface as the frame left it. -/
theorem test_broadcast_hypotheses : (reqClearSupplyDip base.atRequest).1.bus = base.atRequest.bus := by decide

/-- RepliesAndReadiness: replies of age 0, 1 and 7, and the last millisecond of a transmission and of the 5 ms of
high line. -/
theorem test_reply_hypotheses :
    (∀ n ∈ [0, 1, 7], (base.setBus { base.bus with pending := .waiting .poll n }).bus.pending = .waiting .poll n) ∧
    let t := base.setBus { base.bus with pending := .transmitting [] 1, ready := false, readyTimer := some 1 }
    Reply.accepted ≠ .poll ∧ t.bus.pending = .transmitting [] 1 ∧ t.pending = [] ∧ t.bus.lowTimer = none ∧
    t.bus.readyTimer ≠ none ∧ t.inRestart = false ∧ t.bus.ready = false ∧ t.bus.reception = .none := by decide

/-- R169: a byte whose start bit the unit has ignored and whose stop bit is not high ends the 5 ms of a line that
was high within it. -/
theorem test_low_stop_bit_ends_high_time :
    let s := State.reset.setBus { State.reset.bus with reception := .ignored, lowTimer := none, readyTimer := some 5 }
    (match exec (.busByteReceived 0x01 (.rest true false)) s with
      | .next t => some (t.bus.readyTimer, t.bus.lowTimer)
      | _ => none) = some (none, some 0) := by decide

/-- R169: a frame that is lost while the ready mark is Clear has been low on the line, so that the 5 ms begin anew;
in the restart of a bus break, with the line low, it leaves nothing. -/
theorem test_lost_frame_restarts_high_time :
    let s := State.reset.setBus { State.reset.bus with readyTimer := some 1 }
    let t := { base with inRestart := true, bus := { base.bus with ready := false, lowTimer := some 60 } }
    exec (.poll .unit) s = .next State.reset ∧ exec (.restartFull .unit 2 .b9600) s = .next State.reset ∧
      exec (.poll .unit) t = .next t := ⟨rfl, rfl, rfl⟩

/-- SetLineEnablesAndDisables. -/
theorem test_set_line_hypotheses :
    base.receives = true ∧ base.call[(5 : Line)].state = .disabled ∧ base.feed[(5 : Line)].control = .callSide ∧
    (3 : Byte).toNat = Class.code .alarm ∧ (7 : Byte).toNat = (7 : Fin 8).val ∧
    (∀ s ∈ [connected5, seizing5, ringing5], s.receives = true ∧ s.call[(5 : Line)].bearer = some 2 ∧
      (s.bearer 2).line = some 5 ∧ s.arbiter.handover = none) ∧
    (∀ s ∈ [idle5, lockout5 .howler], s.receives = true ∧ s.call[(5 : Line)].bearer = none) ∧
    (handover5.bearer 2).line = some 5 ∧ handover5.arbiter.handover = some { bearer := 2, line := 5, left := 0 } ∧
    idle5.entries[(5 : Line)].profile = 0 ∧ idle5.classOf 5 = .standard := by decide

/-- SetLineEnablesAndDisables: a line under test in a measurement and in a look, one whose prior state is
Disabled, and a Ringing line at level Critical in a phase. -/
theorem test_set_line_test_hypotheses :
    let m := tested5 (session5 .measure .forced (some .dc) none) .openLoop
    let k := tested5 (session5 .look .courteous none none) .standby
    let d := m.setCall 5 { state := .testing, prior := some .disabled }
    let r := ringing5.setSupply { ringing5.supply with level := .critical }
    (∀ s ∈ [m, k, d], s.receives = true ∧ s.call[(5 : Line)].state = .testing ∧
      s.feed[(5 : Line)].control = .testUnit) ∧
    m.call[(5 : Line)].prior ≠ some .disabled ∧ k.feed[(5 : Line)].current ≠ .openLoop ∧
    d.call[(5 : Line)].prior = some .disabled ∧ r.receives = true ∧ r.call[(5 : Line)].state = .ringing ∧
    r.supply.level = .critical ∧ r.classOf 5 ≠ .priority ∧ r.ringPlace 5 = some (.phase 0) := by decide

/-- SettingsAreWritten and OutOfRangeIsRefused: the ends of the ranges of a profile. -/
theorem test_settings_hypotheses :
    (Profile.mk 4 15 960 944 1984 3).inRange = true ∧ (Profile.mk 0 1 32 16 960 0).inRange = true ∧
    (Profile.mk 5 15 960 944 1984 3).inRange = false ∧ [1, 3].all (fun b : Byte => phaseCode b) = true ∧
    base.arbiter.arrivals = [] := by decide

/-- SettingsAreWritten, Set Timers: a quiet timer that runs for the delay of 60 s, which 60 keeps, 30 changes and 0
stops. -/
theorem test_quiet_delay_hypotheses :
    base.quietCondition = true ∧ base.monitor.quietTimer = some 60000 ∧ base.monitor.quiet = false ∧
    base.tables.timers.quietDelay = 60 ∧ seizing5.quietCondition = false := by decide

/-- AuditRevertsUpsetTables: unchanged tables, and tables with one disturbed byte. -/
theorem test_audit_hypotheses :
    base.monitor.audit ≠ none ∧ (digest base.tables).toNat = base.monitor.reference.toNat ∧
    base.arbiter.arrivals = [] := by decide

theorem test_disturbed_digest :
    (digest { Tables.initial with thresholds := { Tables.initial.thresholds with lowExit := 0x12FF } }).toNat ≠
      base.monitor.reference.toNat := by decide

end Sys2Proof.Machine.Tests
end

section
/-! What a sample does to the filtered current of its line (1, R8), and what it leaves of the supervision state. -/

namespace Sys2Proof.Machine

/-! ## The filter update (R8, R9) -/

section
variable {k : Nat} {f S : Int}

/-- The divisor of the filter is positive. -/
theorem filterDivisor_pos (k : Nat) : 0 < ((2 ^ k : Nat) : Int) := by positivity

/-- From below, the filtered current rises by no more than the difference. -/
theorem filterUpdate_between_of_le (h : f ≤ 16 * S) : f ≤ filterUpdate k f S ∧ filterUpdate k f S ≤ 16 * S := by
  have rise : 0 ≤ (16 * S - f) / ((2 ^ k : Nat) : Int) :=
    Int.ediv_nonneg (by omega) (filterDivisor_pos k).le
  have atMost : (16 * S - f) / ((2 ^ k : Nat) : Int) ≤ 16 * S - f := Int.ediv_le_self _ (by omega)
  unfold filterUpdate
  omega

/-- From above, it falls by at least 1: the division rounds toward minus infinity. -/
theorem filterUpdate_falls (h : 16 * S < f) : filterUpdate k f S + 1 ≤ f := by
  have fall : (16 * S - f) / ((2 ^ k : Nat) : Int) < 0 := Int.ediv_neg_of_neg_of_pos (by omega) (filterDivisor_pos k)
  unfold filterUpdate
  omega

/-- From above, it does not fall past 16·S. -/
theorem le_filterUpdate_of_ge (h : 16 * S ≤ f) : 16 * S ≤ filterUpdate k f S := by
  have scaled : (16 * S - f) * ((2 ^ k : Nat) : Int) ≤ 16 * S - f := by
    have one_le : (1 : Int) ≤ ((2 ^ k : Nat) : Int) := filterDivisor_pos k
    nlinarith only [h, one_le]
  have atMost : 16 * S - f ≤ (16 * S - f) / ((2 ^ k : Nat) : Int) :=
    (Int.le_ediv_iff_mul_le (filterDivisor_pos k)).mpr scaled
  unfold filterUpdate
  omega

/-- At 16·S the filtered current stays. -/
@[simp] theorem filterUpdate_at_sample : filterUpdate k (16 * S) S = 16 * S := by
  simp [filterUpdate]

/-- From above, the updated filtered current lies between the old one and 16·S. -/
theorem filterUpdate_between_of_ge (h : 16 * S ≤ f) : 16 * S ≤ filterUpdate k f S ∧ filterUpdate k f S ≤ f := by
  refine ⟨le_filterUpdate_of_ge h, ?_⟩
  rcases h.eq_or_lt with rfl | above
  · exact filterUpdate_at_sample.le
  · have := filterUpdate_falls (k := k) above
    omega

/-- From 2^k or more below, it rises. -/
theorem filterUpdate_rises (h : f + ((2 ^ k : Nat) : Int) ≤ 16 * S) : f + 1 ≤ filterUpdate k f S := by
  have rise : 1 ≤ (16 * S - f) / ((2 ^ k : Nat) : Int) :=
    (Int.le_ediv_iff_mul_le (filterDivisor_pos k)).mpr (by omega)
  unfold filterUpdate
  omega

/-- From less than 2^k below, it stays. -/
theorem filterUpdate_stays (h : f ≤ 16 * S) (near : 16 * S < f + ((2 ^ k : Nat) : Int)) : filterUpdate k f S = f := by
  have still : (16 * S - f) / ((2 ^ k : Nat) : Int) = 0 := Int.ediv_eq_zero_of_lt (by omega) (by omega)
  unfold filterUpdate
  omega

/-- With filter shift 0 the filtered current follows the sample at once. -/
theorem filterUpdate_zero : filterUpdate 0 f S = 16 * S := by
  simp [filterUpdate]

/-- The range of converted currents bounds the filtered current. -/
theorem filterUpdate_inRange (lowS : -2048 ≤ S) (highS : S ≤ 2047) (lowF : -32768 ≤ f) (highF : f ≤ 32752) :
    -32768 ≤ filterUpdate k f S ∧ filterUpdate k f S ≤ 32752 := by
  rcases le_total f (16 * S) with below | above
  · have := filterUpdate_between_of_le (k := k) below
    omega
  · have := filterUpdate_between_of_ge (k := k) above
    omega

end

/-- Settles O10, a clause of R9 for each lemma about the filter update. -/
theorem filterApproachesSample : Obligations.FilterApproachesSample := by
  intro k f S
  refine ⟨filterUpdate_between_of_le, filterUpdate_between_of_ge, filterUpdate_falls, filterUpdate_rises,
    filterUpdate_stays, ?_, filterUpdate_inRange⟩
  rintro rfl
  exact filterUpdate_zero

/-! ## What leaves every supervision state as it was -/

section
variable (l : Line) (b : Bearer) (s : State)

@[simp] theorem report_sup (urgent : Bool) (r : Report) : (s.report urgent r).sup = s.sup := rfl

@[simp] theorem lineReport_sup (kind : ReportKind) (n : Option Bearer) (v : Option Nat) :
    (s.lineReport kind l n v).sup = s.sup := rfl

@[simp] theorem callTarget_sup (m : FeedMode) : (callTarget l m s).sup = s.sup := rfl

@[simp] theorem protect_sup : (protect l s).sup = s.sup := by rw [protect_frame]

@[simp] theorem handback_sup : (handback l s).sup = s.sup := rfl

@[simp] theorem giveBearer_sup (st : BearerState) : (giveBearer b st l s).sup = s.sup := rfl

@[simp] theorem engage_sup : (engage b l s).sup = s.sup := rfl

@[simp] theorem disconnect_sup : (disconnect b s).sup = s.sup := rfl

@[simp] theorem clearBearer_sup : (clearBearer b s).sup = s.sup := by rw [clearBearer_frame]

@[simp] theorem enter_sup (n : CallRecord) : (enter l n s).sup = s.sup := by rw [enter_frame]

@[simp] theorem goIdle_sup : (goIdle l s).sup = s.sup := by simp [goIdle]

@[simp] theorem enterLockout_sup (c : LockoutCause) : (enterLockout l c s).sup = s.sup := by
  unfold enterLockout
  dsimp only
  split <;> simp

@[simp] theorem seizeReport_sup : (seizeReport l b s).sup = s.sup := rfl

@[simp] theorem releaseReport_sup (c : ReleaseCause) : (releaseReport l b c s).sup = s.sup := rfl

@[simp] theorem releaseUse_sup (c : ReleaseCause) : (releaseUse l c s).sup = s.sup := by
  unfold releaseUse
  split <;> simp

@[simp] theorem answerCall_sup : (answerCall l s).sup = s.sup := by
  unfold answerCall
  split <;> simp

@[simp] theorem faultEntry_sup (k : FaultKind) : (faultEntry l k s).sup = s.sup := by simp [faultEntry]

/-! The Admission Arbiter. -/

@[simp] theorem setStanding_sup (st : Standing) : (setStanding l st s).sup = s.sup := rfl

@[simp] theorem grantBearer_sup : (grantBearer l b s).sup = s.sup := by simp [grantBearer]

@[simp] theorem startHandover_sup : (startHandover l b s).sup = s.sup := by
  unfold startHandover
  split <;> simp

@[simp] theorem priorityStep_sup : (priorityStep l s).sup = s.sup := by
  unfold priorityStep
  split
  · rfl
  · split <;> simp

@[simp] theorem join_sup : (join l s).sup = s.sup := by
  unfold join
  dsimp only
  split
  · simp
  · split <;> simp

@[simp] theorem reconsiderWaiters_sup (ps : List Line) : (reconsiderWaiters ps s).sup = s.sup := by
  induction ps generalizing s with
  | nil => rfl
  | cons p rest ih =>
    unfold reconsiderWaiters
    split <;> simp [ih]

@[simp] theorem reconsider_sup : (reconsider s).sup = s.sup := by simp [reconsider]

@[simp] theorem reconsiderIf_sup (abandoned : Bool) : (reconsiderIf abandoned s).sup = s.sup := by
  cases abandoned <;> simp [reconsiderIf]

@[simp] theorem offHookHandling_sup : (offHookHandling l s).sup = s.sup := by
  unfold offHookHandling
  split <;> simp

/-! The Break Timer and the Call Handler, which read the hook state and do not write it. -/

@[simp] theorem endQuiet_sup : (endQuiet s).sup = s.sup := rfl

@[simp] theorem callDigit_sup (v : Nat) : (callDigit l v s).sup = s.sup := by
  unfold callDigit
  dsimp only
  split
  case h_3 => simp
  case h_4 => rfl
  all_goals split <;> simp

@[simp] theorem callFlash_sup : (callFlash l s).sup = s.sup := by
  unfold callFlash
  split <;> simp

@[simp] theorem callClear_sup : (callClear l s).sup = s.sup := by
  unfold callClear
  dsimp only
  split
  case h_2 => split <;> simp
  all_goals simp

@[simp] theorem clearDecision_sup : (clearDecision l s).sup = s.sup := by
  unfold clearDecision
  split <;> simp

@[simp] theorem digitEnd_sup : (digitEnd l s).sup = s.sup := by
  unfold digitEnd
  split
  · dsimp only
    split <;> simp
  · rfl

@[simp] theorem breakDecision_sup (h : Hook) : (breakDecision l h s).sup = s.sup := by
  unfold breakDecision
  dsimp only
  split
  case h_3 => split <;> simp
  all_goals simp

@[simp] theorem sampleTick_sup : (sampleTick l s).sup = s.sup := by
  unfold sampleTick
  dsimp only
  split
  · split
    · split <;> simp
    · rfl
  · split
    · split <;> simp
    · rfl

@[simp] theorem callHook_sup (h : Hook) : (callHook l h s).sup = s.sup := by
  unfold callHook
  split <;> simp

@[simp] theorem deliverHook_sup : (deliverHook l s).sup = s.sup := by
  unfold deliverHook
  dsimp only
  split <;> simp

@[simp] theorem callFault_sup (k : FaultKind) : (callFault l k s).sup = s.sup := by
  unfold callFault
  dsimp only
  split
  case h_3 => split <;> simp
  all_goals simp

/-- The end of an event runs the quiet timer and leaves the supervision states as the event made them. -/
@[simp] theorem event_sup (g : State → State) : (event g s).sup = (g s).sup := by rw [event_frame]

end

/-! ## What keeps the filtered current -/

/-- From `s` to `t` the filtered current of line `l` has stayed, and so has every other line's supervision state. -/
def FilterKept (l : Line) (s t : State) : Prop :=
  t.sup[l].f = s.sup[l].f ∧ ∀ m : Line, m ≠ l → t.sup[m] = s.sup[m]

section
variable {l : Line} {s t u : State}

theorem FilterKept.of_sup_eq (h : t.sup = s.sup) : FilterKept l s t := by
  constructor <;> simp [h]

/-- What follows and leaves the supervision states as they are makes no difference. -/
theorem FilterKept.then_sup_eq (h : FilterKept l s t) (same : u.sup = t.sup) : FilterKept l s u := by
  simpa [FilterKept, same] using h

/-- A write of the line's own supervision state with its filtered current as it was. -/
theorem FilterKept.of_sup_set {x : Supervision} (write : t.sup = (s.setSup l x).sup) (h : x.f = s.sup[l].f) :
    FilterKept l s t := by
  have wrote : FilterKept l s (s.setSup l x) := ⟨by simp [h], fun m ne => State.setSup_get_ne s l m x ne⟩
  exact wrote.then_sup_eq write

end

section
variable (l : Line) (s : State)

theorem hookDecision_filterKept : FilterKept l s (hookDecision l s) := by
  unfold hookDecision
  split
  · exact .of_sup_set (deliverHook_sup l _) rfl
  · exact .of_sup_eq rfl

theorem faultDecision_filterKept (k : FaultKind) : FilterKept l s (faultDecision l k s) := by
  unfold faultDecision
  split
  · have counts : FilterKept l s (resetCounts l s) := .of_sup_set rfl rfl
    exact counts.then_sup_eq (by simp)
  · exact .of_sup_eq rfl

theorem ringTripDecision_filterKept : FilterKept l s (ringTripDecision l s) := by
  unfold ringTripDecision
  split
  · dsimp only
    split
    · exact .of_sup_set (answerCall_sup l _) rfl
    · exact .of_sup_set (deliverHook_sup l _) rfl
  · exact .of_sup_eq rfl

/-- A look's off-hook sets the hook state of the line under test, its hook count at 0 (R141), and writes nothing
else of supervision. -/
theorem yieldSession_sup (x : Session) :
    (yieldSession x s).sup = (s.setSup x.line { s.sup[x.line] with hook := .offHook, hookCount := 0 }).sup := by
  simp [yieldSession]

theorem lookSample_filterKept (v : Int) : FilterKept l s (lookSample l v s) := by
  unfold lookSample
  split
  · exact .of_sup_eq rfl
  · split
    case isTrue look =>
      obtain ⟨rfl, -⟩ := look
      dsimp only
      split
      · split
        · exact .of_sup_set (yieldSession_sup s _) rfl
        · exact .of_sup_eq rfl
      · exact .of_sup_eq rfl
    case isFalse => exact .of_sup_eq rfl

end

/-! ## The sample (R4, R8) -/

/-- A sample with full supervision updates the filtered current, whatever becomes of the counts. -/
@[simp] theorem Supervision.sample_f (x : Supervision) (p : Profile) (feed : Feed) (v : Int) (asserted : Bool) :
    (x.sample p feed v asserted).f = filterUpdate p.k.toNat x.f v := by
  unfold Supervision.sample
  dsimp only
  split
  · rfl
  · split <;> rfl

/-- A sample of a line under test updates the filtered current too (R4). -/
@[simp] theorem Supervision.sampleTesting_f (x : Supervision) (p : Profile) (feed : Feed) (v : Int) :
    (x.sampleTesting p feed v).f = filterUpdate p.k.toNat x.f v := rfl

/-- From `s` to `t` the sample `v` has moved the filtered current of line `l` (R8), and no other line's supervision
state has changed. -/
def FilterMoved (l : Line) (v : Int) (s t : State) : Prop :=
  t.sup[l].f = filterUpdate (s.profileOf l).k.toNat s.sup[l].f v ∧ ∀ m : Line, m ≠ l → t.sup[m] = s.sup[m]

section
variable {l : Line} {v : Int} {s t u : State}

/-- A write of the line's own supervision state with its filtered current updated. -/
theorem FilterMoved.setSup {x : Supervision} (h : x.f = filterUpdate (s.profileOf l).k.toNat s.sup[l].f v) :
    FilterMoved l v s (s.setSup l x) :=
  ⟨by simp [h], fun m ne => State.setSup_get_ne s l m x ne⟩

theorem FilterMoved.then_kept (h : FilterMoved l v s t) (k : FilterKept l t u) : FilterMoved l v s u := by
  obtain ⟨moved, others₁⟩ := h
  obtain ⟨kept, others₂⟩ := k
  exact ⟨kept.trans moved, fun m ne => (others₂ m ne).trans (others₁ m ne)⟩

end

/-- The tick that may follow the decision leaves the supervision states as they are. -/
theorem sampleTick_if_sup (l : Line) (ticks : Prop) [Decidable ticks] (s : State) :
    (if ticks then sampleTick l s else s).sup = s.sup := by
  split <;> simp

/-- The treatment of a sample that is not discarded: the filter moves first, and no decision or tick that follows
touches it. -/
theorem lineSample_filterMoved (l : Line) (v : Int) (ringTrip : Bool) (s : State) (h : s.call[l].state ≠ .disabled) :
    FilterMoved l v s (lineSample l v ringTrip s) := by
  unfold lineSample
  dsimp only
  split
  case h_1 disabled => exact absurd disabled h
  case h_2 =>
    exact FilterMoved.then_kept (FilterMoved.setSup (Supervision.sampleTesting_f ..)) (lookSample_filterKept l _ v)
  case h_3 =>
    refine FilterMoved.then_kept (FilterMoved.setSup (Supervision.sample_f _ _ s.feed[l] v ringTrip)) ?_
    refine FilterKept.then_sup_eq ?_ (sampleTick_if_sup l _ _)
    split
    · exact .of_sup_eq rfl
    · exact hookDecision_filterKept l _
    · exact faultDecision_filterKept l _ _
    · exact ringTripDecision_filterKept l _

/-- The arm of the dispatch for a sample. -/
theorem exec_senseSample (l : Line) (current : Int) (ringTrip : Bool) (s : State) :
    exec (.senseSample l current ringTrip) s = .next (event (visit l current ringTrip) s) := rfl

/-- Outside a restart a visit treats the converted current, with the scanner moved on. -/
theorem visit_filterMoved (l : Line) (current : Int) (ringTrip : Bool) (s : State) (running : s.inRestart = false)
    (h : s.call[l].state ≠ .disabled) :
    FilterMoved l (convertSense current) s (visit l current ringTrip s) := by
  have treated := lineSample_filterMoved l (convertSense current) ringTrip
    (s.setScanner { s.scanner with position := l + 1 }) h
  rw [visit, if_neg (by simp [running])]
  exact treated

/-- Settles O9: the event's visit moves the filter, and its end leaves the supervision states alone. -/
theorem sampleMovesFilteredCurrent : Obligations.SampleMovesFilteredCurrent := by
  intro s l current ringTrip running enabled
  obtain ⟨moved, others⟩ := visit_filterMoved l current ringTrip s running enabled
  refine ⟨_, exec_senseSample l current ringTrip s, ?_, fun m ne => ?_⟩
  · rw [event_sup]
    exact moved
  · rw [event_sup]
    exact others m ne

end Sys2Proof.Machine
end

section
/-! What each operation of the model changes of the state, in the terms of `SameBut`: one lemma for each, in the order
of the definitions. -/

namespace Sys2Proof.Machine

/-! ## Rules of the frame relation -/

section
variable {parts mine more : List Part} {s t u : State}

/-- A further change of parts that are listed already. -/
theorem SameBut.then (h : SameBut parts s t) (k : SameBut mine t u) (sub : mine ⊆ parts) :
    SameBut parts s u := h.trans (k.mono sub)

/-- Both sides of a choice change listed parts. -/
theorem SameBut.ite {c : Prop} [Decidable c] (h : c → SameBut parts s t) (k : ¬c → SameBut parts s u) :
    SameBut parts s (if c then t else u) := by
  split
  · exact h ‹c›
  · exact k ‹¬c›

/-- Work on the entries of a list in turn changes what each piece of it changes. -/
theorem SameBut.each {α : Type} (f : α → State → State) (xs : List α) (h : SameBut parts s t)
    (k : ∀ x v, SameBut parts v (f x v)) : SameBut parts s (each xs f t) :=
  each_keeps (SameBut parts s) f xs t (fun x _ v hv => hv.trans (k x v)) h

theorem SameBut.eachLine (f : Line → State → State) (h : SameBut parts s t)
    (k : ∀ l v, SameBut parts v (f l v)) : SameBut parts s (eachLine f t) :=
  SameBut.each f allLines h k

end

/-! ## The named updates -/

section
variable {s : State} {l : Line} {b : Bearer}

theorem setEntry_sameBut {x : LineEntry} : SameBut [.entries] s (s.setEntry l x) := by
  intro p hp; cases p <;> simp_all [Part.same]

theorem setTables_sameBut {x : Tables} : SameBut [.tables] s (s.setTables x) := by
  intro p hp; cases p <;> simp_all [Part.same]

theorem setScanner_sameBut {x : Scanner} : SameBut [.scanner] s (s.setScanner x) := by
  intro p hp; cases p <;> simp_all [Part.same]

theorem setSup_sameBut {x : Supervision} : SameBut [.sup] s (s.setSup l x) := by
  intro p hp; cases p <;> simp_all [Part.same]

theorem setBrk_sameBut {x : BreakTiming} : SameBut [.brk] s (s.setBrk l x) := by
  intro p hp; cases p <;> simp_all [Part.same]

theorem setFeed_sameBut {x : Feed} : SameBut [.feed] s (s.setFeed l x) := by
  intro p hp; cases p <;> simp_all [Part.same]

theorem setCall_sameBut {x : CallRecord} : SameBut [.call] s (s.setCall l x) := by
  intro p hp; cases p <;> simp_all [Part.same]

theorem setBearers_sameBut {x : BearerTable} : SameBut [.bearers] s (s.setBearers x) := by
  intro p hp; cases p <;> simp_all [Part.same]

theorem setArbiter_sameBut {x : Arbiter} : SameBut [.arbiter] s (s.setArbiter x) := by
  intro p hp; cases p <;> simp_all [Part.same]

theorem setRinger_sameBut {x : Ringer} : SameBut [.ringer] s (s.setRinger x) := by
  intro p hp; cases p <;> simp_all [Part.same]

theorem setTest_sameBut {x : TestUnit} : SameBut [.test] s (s.setTest x) := by
  intro p hp; cases p <;> simp_all [Part.same]

theorem setSupply_sameBut {x : Supply} : SameBut [.supply] s (s.setSupply x) := by
  intro p hp; cases p <;> simp_all [Part.same]

theorem setReports_sameBut {x : Reports} : SameBut [.reports] s (s.setReports x) := by
  intro p hp; cases p <;> simp_all [Part.same]

theorem setBus_sameBut {x : Bus} : SameBut [.bus] s (s.setBus x) := by
  intro p hp; cases p <;> simp_all [Part.same]

theorem setStrapPins_sameBut {x : Straps} : SameBut [.strapPins] s (s.setStrapPins x) := by
  intro p hp; cases p <;> simp_all [Part.same]

/-- A write of the monitor that keeps the Quiet state and the quiet timer. -/
theorem setMonitor_watch_sameBut {x : Monitor}
    (h : x.quiet = s.monitor.quiet ∧ x.quietTimer = s.monitor.quietTimer := by exact ⟨rfl, rfl⟩) :
    SameBut [.watch] s (s.setMonitor x) := by
  intro p hp; cases p <;> simp_all [Part.same]

/-- A write of the monitor's Quiet state and quiet timer alone. -/
theorem setMonitor_quietRun_sameBut {x : Monitor} (h : x.watch = s.monitor.watch := by rfl) :
    SameBut [.quietRun] s (s.setMonitor x) := by
  intro p hp; cases p <;> simp_all [Part.same]

/-! ## Reports and feed -/

theorem report_sameBut {urgent : Bool} {r : Report} : SameBut [.reports] s (s.report urgent r) := setReports_sameBut

theorem lineReport_sameBut {k : ReportKind} {n : Option Bearer} {v : Option Nat} :
    SameBut [.reports] s (s.lineReport k l n v) := setReports_sameBut

theorem callTarget_sameBut {m : FeedMode} : SameBut [.feed] s (callTarget l m s) := setFeed_sameBut

theorem ringTarget_sameBut : SameBut [.feed] s (ringTarget l s) := setFeed_sameBut

theorem testTarget_sameBut {m : FeedMode} : SameBut [.feed] s (testTarget l m s) := setFeed_sameBut

theorem handback_sameBut : SameBut [.feed] s (handback l s) := setFeed_sameBut

theorem protect_sameBut : SameBut [.feed] s (protect l s) := by
  unfold protect
  split
  · exact setFeed_sameBut
  · exact .refl _ s

theorem blankingEnd_sameBut : SameBut [.feed] s (blankingEnd l s) := by
  unfold blankingEnd
  split
  · exact setFeed_sameBut
  · exact .refl _ s

/-! ## Ringing -/

theorem fill_sameBut : SameBut [.ringer] s (fill s) := setRinger_sameBut

theorem place_sameBut : SameBut [.ringer] s (place l s) := by
  unfold place
  dsimp only
  split <;> exact setRinger_sameBut

theorem startPhase_sameBut {p : Fin 4} : SameBut [.feed] s (startPhase p s) :=
  .each _ _ (.refl _ s) fun _ _ => ringTarget_sameBut

theorem startWheel_sameBut : SameBut [.ringer, .feed] s (startWheel s) := by
  unfold startWheel
  split
  · exact ((SameBut.refl _ s).then setRinger_sameBut (by decide)).then startPhase_sameBut (by decide)
  · exact .refl _ s

theorem stopWheel_sameBut : SameBut [.ringer] s (stopWheel s) :=
  .ite (fun _ => .refl _ s) fun _ => setRinger_sameBut

theorem ringRemove_sameBut : SameBut [.ringer] s (ringRemove l s) :=
  SameBut.then (.ite (fun _ => (setRinger_sameBut).then fill_sameBut (by decide)) fun _ => setRinger_sameBut)
    stopWheel_sameBut (by decide)

theorem ringFall_sameBut : SameBut [.ringer, .feed] s (ringFall s) :=
  SameBut.then (.each _ _ ((SameBut.refl _ s).then setRinger_sameBut (by decide)) fun _ v =>
    (SameBut.refl _ v).then callTarget_sameBut (by decide)) fill_sameBut (by decide)

theorem ringClassChange_sameBut : SameBut [.ringer, .feed] s (ringClassChange l s) := by
  unfold ringClassChange
  split
  · split
    · exact (SameBut.refl _ s).then fill_sameBut (by decide)
    · split
      · exact (((SameBut.refl _ s).then setRinger_sameBut (by decide)).then callTarget_sameBut (by decide)).then
          fill_sameBut (by decide)
      · exact .refl _ s
  · exact .refl _ s

/-! ## Bearers -/

theorem setBearer_sameBut {x : BearerRecord} : SameBut [.bearers] s (s.setBearer b x) := setBearers_sameBut

theorem giveBearer_sameBut {st : BearerState} : SameBut [.bearers] s (giveBearer b st l s) := setBearers_sameBut

theorem engage_sameBut : SameBut [.bearers] s (engage b l s) := (giveBearer_sameBut).then setBearers_sameBut
  (by decide)

theorem disconnect_sameBut : SameBut [.bearers] s (disconnect b s) := setBearers_sameBut

theorem clearBearer_sameBut : SameBut [.bearers, .arbiter] s (clearBearer b s) := by
  have cleared : SameBut [.bearers, .arbiter] s
      (disconnect b (s.setBearer b ((s.bearer b).toClearing (secondsMs s.tables.timers.guard)))) :=
    ((SameBut.refl _ s).then setBearer_sameBut (by decide)).then disconnect_sameBut (by decide)
  exact .ite (fun _ => cleared.then setArbiter_sameBut (by decide)) fun _ => cleared

theorem freeBearer_sameBut : SameBut [.bearers] s (freeBearer b s) := (setBearer_sameBut).then disconnect_sameBut
  (by decide)

theorem guardExpiry_sameBut : SameBut [.bearers] s (guardExpiry b s) :=
  .ite (fun _ => setBearer_sameBut) fun _ => .refl _ s

/-! ## Calls -/

/-- The parts that the Call Handler, the Admission Arbiter and the blocks they drive may change. -/
def callParts : List Part := [.brk, .feed, .call, .bearers, .arbiter, .ringer, .reports]

theorem enter_sameBut {n : CallRecord} : SameBut [.call, .brk, .arbiter, .ringer] s (enter l n s) := by
  have called {x : CallRecord} : SameBut [.call, .brk, .arbiter, .ringer] s (s.setCall l x) :=
    (SameBut.refl _ s).then setCall_sameBut (by decide)
  unfold enter
  dsimp only
  refine .ite (fun _ => SameBut.then ?_ ringRemove_sameBut (by decide)) fun _ => ?_
  all_goals
    refine .ite (fun _ => .ite (fun _ => called) fun _ => called.then setBrk_sameBut (by decide)) fun _ => ?_
    refine SameBut.then ?_ setArbiter_sameBut (by decide)
    exact .ite (fun _ => called) fun _ => called.then setBrk_sameBut (by decide)

theorem goIdle_sameBut : SameBut [.call, .brk, .arbiter, .ringer, .feed] s (goIdle l s) :=
  ((SameBut.refl _ s).then enter_sameBut (by decide)).then callTarget_sameBut (by decide)

theorem enterLockout_sameBut {c : LockoutCause} :
    SameBut [.call, .brk, .arbiter, .ringer, .feed] s (enterLockout l c s) := by
  have locked : SameBut [.call, .brk, .arbiter, .ringer, .feed] s
      (callTarget l .active (enter l (lockoutRecord c s) s)) :=
    ((SameBut.refl _ s).then enter_sameBut (by decide)).then callTarget_sameBut (by decide)
  unfold enterLockout
  dsimp only
  split
  · exact locked.then goIdle_sameBut (by decide)
  · exact locked

theorem seizeReport_sameBut : SameBut [.reports] s (seizeReport l b s) := lineReport_sameBut

theorem releaseReport_sameBut {c : ReleaseCause} : SameBut [.reports] s (releaseReport l b c s) := lineReport_sameBut

theorem releaseUse_sameBut {c : ReleaseCause} : SameBut [.bearers, .arbiter, .reports] s (releaseUse l c s) := by
  unfold releaseUse
  split
  · exact ((SameBut.refl _ s).then clearBearer_sameBut (by decide)).then releaseReport_sameBut (by decide)
  · exact .refl _ s

theorem answerCall_sameBut : SameBut callParts s (answerCall l s) := by
  unfold answerCall
  split
  · exact ((((SameBut.refl _ s).then engage_sameBut (by decide)).then enter_sameBut (by decide)).then
      callTarget_sameBut (by decide)).then
      lineReport_sameBut (by decide)
  · exact .refl _ s

theorem ringLimitReached_sameBut : SameBut callParts s (ringLimitReached l s) := by
  unfold ringLimitReached
  split
  · split
    · exact (((SameBut.refl _ s).then lineReport_sameBut (by decide)).then clearBearer_sameBut (by decide)).then
        goIdle_sameBut (by decide)
    · exact (SameBut.refl _ s).then goIdle_sameBut (by decide)
  · exact .refl _ s

theorem faultEntry_sameBut {k : FaultKind} : SameBut callParts s (faultEntry l k s) :=
  ((((SameBut.refl _ s).then report_sameBut (by decide)).then releaseUse_sameBut (by decide)).then enter_sameBut
    (by decide)).then callTarget_sameBut (by decide)

theorem tonePhaseEnd_sameBut : SameBut [.call, .feed] s (tonePhaseEnd l s) :=
  .ite (fun _ => ((SameBut.refl _ s).then setCall_sameBut (by decide)).then callTarget_sameBut (by decide)) fun _ =>
    .refl _ s

theorem preemptionToneEnd_sameBut : SameBut [.call] s (preemptionToneEnd l s) :=
  .ite (fun _ => setCall_sameBut) fun _ => .refl _ s

theorem howlerPhaseEnd_sameBut : SameBut [.call, .feed] s (howlerPhaseEnd l s) :=
  .ite (fun _ => ((SameBut.refl _ s).then setCall_sameBut (by decide)).then callTarget_sameBut (by decide)) fun _ =>
    .refl _ s

theorem advanceCounts_sameBut : SameBut [.ringer] s (advanceCounts s) := setRinger_sameBut

theorem ringCountStep_sameBut : SameBut callParts s (ringCountStep s) :=
  .each _ _ ((SameBut.refl _ s).then advanceCounts_sameBut (by decide)) fun _ _ => ringLimitReached_sameBut

theorem phaseBoundary_sameBut : SameBut callParts s (phaseBoundary s) := by
  unfold phaseBoundary
  split
  · exact .refl _ s
  · have moved {x : Ringer} {lines : List Line} :
        SameBut callParts s ((each lines (fun l => callTarget l .standby) s).setRinger x) :=
      (SameBut.each _ _ (.refl _ s) fun _ v => (SameBut.refl _ v).then callTarget_sameBut (by decide)).then
        setRinger_sameBut (by decide)
    exact SameBut.then (.ite (fun _ => moved.then ringCountStep_sameBut (by decide)) fun _ => moved)
      startPhase_sameBut (by decide)

/-! ## Admission -/

theorem setStanding_sameBut {st : Standing} : SameBut [.arbiter] s (setStanding l st s) := setArbiter_sameBut

theorem grantBearer_sameBut : SameBut callParts s (grantBearer l b s) :=
  ((((SameBut.refl _ s).then giveBearer_sameBut (by decide)).then setStanding_sameBut (by decide)).then
    enter_sameBut (by decide)).then seizeReport_sameBut (by decide)

theorem startHandover_sameBut : SameBut callParts s (startHandover l b s) := by
  unfold startHandover
  split
  · exact .refl _ s
  · exact (((((((SameBut.refl _ s).then report_sameBut (by decide)).then enterLockout_sameBut (by decide)).then
      giveBearer_sameBut (by decide)).then
      disconnect_sameBut (by decide)).then setStanding_sameBut (by decide)).then enter_sameBut (by decide)).then
        setArbiter_sameBut (by decide)

theorem priorityStep_sameBut : SameBut callParts s (priorityStep l s) := by
  unfold priorityStep
  split
  · exact .refl _ s
  · split
    · exact startHandover_sameBut
    · exact .refl _ s

theorem join_sameBut : SameBut callParts s (join l s) := by
  have joined {x : List Arrival} : SameBut callParts s (s.setArrivals x) := (SameBut.refl _ s).then
    setArbiter_sameBut (by decide)
  unfold join
  dsimp only
  split
  · exact joined.then grantBearer_sameBut (by decide)
  · exact .ite (fun _ => joined.then priorityStep_sameBut (by decide)) fun _ => joined

theorem reconsiderWaiters_sameBut (ps : List Line) (s : State) : SameBut callParts s (reconsiderWaiters ps s) := by
  induction ps generalizing s with
  | nil => exact .refl _ s
  | cons p rest ih =>
    unfold reconsiderWaiters
    split
    · exact (grantBearer_sameBut).then (ih _) (by decide)
    · exact priorityStep_sameBut

theorem reconsider_sameBut : SameBut callParts s (reconsider s) := reconsiderWaiters_sameBut _ s

theorem reconsiderIf_sameBut {c : Bool} : SameBut callParts s (reconsiderIf c s) :=
  .ite (fun _ => reconsider_sameBut) fun _ => .refl _ s

theorem freedRun_sameBut : SameBut callParts s (freedRun b s) := by
  unfold freedRun
  split
  · exact grantBearer_sameBut
  · split
    · exact ((SameBut.refl _ s).then setArbiter_sameBut (by decide)).then grantBearer_sameBut (by decide)
    · exact .refl _ s

theorem runIdle_sameBut : SameBut callParts s (runIdle s) := .each _ _ (.refl _ s) fun _ _ => freedRun_sameBut

theorem handFreed_sameBut : SameBut callParts s (handFreed b s) := .ite (fun _ => freedRun_sameBut) fun _ => .refl _ s

theorem placeYielded_sameBut : SameBut callParts s (placeYielded l s) := by
  unfold placeYielded
  split
  · exact grantBearer_sameBut
  · exact ((SameBut.refl _ s).then setStanding_sameBut (by decide)).then enter_sameBut (by decide)

theorem handoverExpiry_sameBut : SameBut callParts s (handoverExpiry s) := by
  unfold handoverExpiry
  split
  · exact .refl _ s
  · exact (((((SameBut.refl _ s).then giveBearer_sameBut (by decide)).then enter_sameBut (by decide)).then
      seizeReport_sameBut (by decide)).then
      setArbiter_sameBut (by decide)).then reconsider_sameBut (by decide)

theorem offHookHandling_sameBut : SameBut callParts s (offHookHandling l s) :=
  .ite (fun _ => (SameBut.refl _ s).then enterLockout_sameBut (by decide)) fun _ =>
    (((SameBut.refl _ s).then enter_sameBut (by decide)).then callTarget_sameBut (by decide)).then join_sameBut
      (by decide)

/-! ## Decisions -/

theorem resetCounts_sameBut : SameBut [.sup] s (resetCounts l s) := setSup_sameBut

theorem endQuiet_sameBut : SameBut [.quietRun] s (endQuiet s) := setMonitor_quietRun_sameBut

theorem callDigit_sameBut {v : Nat} : SameBut [.call, .reports] s (callDigit l v s) := by
  have kept {x : CallRecord} : SameBut [.call, .reports] s (s.setCall l x) := (SameBut.refl _ s).then
    setCall_sameBut (by decide)
  unfold callDigit
  dsimp only
  split
  · exact .ite (fun _ => kept) fun _ => kept
  · exact .ite (fun _ => kept) fun _ => kept
  · exact (SameBut.refl _ s).then lineReport_sameBut (by decide)
  · exact .refl _ s

theorem callFlash_sameBut : SameBut [.reports] s (callFlash l s) := by
  unfold callFlash
  split
  · exact lineReport_sameBut
  · exact .refl _ s

theorem callClear_sameBut : SameBut callParts s (callClear l s) := by
  unfold callClear
  dsimp only
  split
  · exact (SameBut.refl _ s).then goIdle_sameBut (by decide)
  · split
    · exact ((((SameBut.refl _ s).then clearBearer_sameBut (by decide)).then releaseReport_sameBut (by decide)).then
        goIdle_sameBut (by decide)).then
        reconsider_sameBut (by decide)
    · exact (((SameBut.refl _ s).then clearBearer_sameBut (by decide)).then lineReport_sameBut (by decide)).then
        goIdle_sameBut (by decide)
  · exact (((SameBut.refl _ s).then lineReport_sameBut (by decide)).then clearBearer_sameBut (by decide)).then
      goIdle_sameBut (by decide)
  · exact .refl _ s

theorem clearDecision_sameBut : SameBut callParts s (clearDecision l s) :=
  .ite (fun _ => (callClear_sameBut).then setBrk_sameBut (by decide)) fun _ => .refl _ s

theorem digitEnd_sameBut : SameBut [.brk, .call, .reports] s (digitEnd l s) := by
  have timed {x : BreakTiming} : SameBut [.brk, .call, .reports] s (s.setBrk l x) :=
    (SameBut.refl _ s).then setBrk_sameBut (by decide)
  unfold digitEnd
  dsimp only
  split
  · split
    · exact timed.then callDigit_sameBut (by decide)
    · exact timed
  · exact .refl _ s

theorem breakDecision_sameBut {h : Hook} : SameBut [.brk, .reports] s (breakDecision l h s) := by
  have timed {x : BreakTiming} : SameBut [.brk, .reports] s (s.setBrk l x) := (SameBut.refl _ s).then setBrk_sameBut
    (by decide)
  unfold breakDecision
  dsimp only
  split
  · exact timed
  · exact .refl _ s
  · exact .ite (fun _ => timed.then callFlash_sameBut (by decide)) fun _ => timed

theorem callHook_sameBut {h : Hook} : SameBut callParts s (callHook l h s) := by
  unfold callHook
  split
  · exact offHookHandling_sameBut
  · exact answerCall_sameBut
  · exact (SameBut.refl _ s).then goIdle_sameBut (by decide)
  · exact .refl _ s

theorem waitLimitExpiry_sameBut : SameBut callParts s (waitLimitExpiry l s) :=
  .ite (fun _ => (SameBut.refl _ s).then enterLockout_sameBut (by decide)) fun _ => .refl _ s

theorem answerExpiry_sameBut : SameBut callParts s (answerExpiry l s) :=
  .ite (fun _ => ((SameBut.refl _ s).then releaseUse_sameBut (by decide)).then enterLockout_sameBut (by decide)) fun
    _ => .refl _ s

theorem retryWaitExpiry_sameBut : SameBut callParts s (retryWaitExpiry l s) :=
  .ite (fun _ => ((SameBut.refl _ s).then setCall_sameBut (by decide)).then callTarget_sameBut (by decide)) fun _ =>
    .refl _ s

theorem retryLookExpiry_sameBut : SameBut callParts s (retryLookExpiry l s) := by
  have cleared {r : Report} : SameBut callParts s (goIdle l (s.report true r)) :=
    ((SameBut.refl _ s).then report_sameBut (by decide)).then goIdle_sameBut (by decide)
  unfold retryLookExpiry
  dsimp only
  split
  · split
    · exact cleared.then offHookHandling_sameBut (by decide)
    · exact cleared
  · exact .refl _ s

/-! ## Testing -/

theorem setSession_sameBut {x : Option Session} : SameBut [.test] s (s.setSession x) := setTest_sameBut

theorem setResult_sameBut {r : ResultRecord} : SameBut [.test] s (s.setResult r) := setTest_sameBut

theorem beginMeasurement_sameBut {x : Session} {m : Measurement} : SameBut [.test] s (beginMeasurement x m s) :=
  setTest_sameBut

theorem toMeasure_sameBut {x : Session} {m : Measurement} : SameBut [.test, .feed] s (toMeasure x m s) := by
  have opened : SameBut [.test, .feed] s (testTarget x.line .openLoop s) :=
    (SameBut.refl _ s).then testTarget_sameBut (by decide)
  exact .ite (fun _ => opened.then beginMeasurement_sameBut (by decide)) fun _ => opened.then setSession_sameBut
    (by decide)

theorem startLook_sameBut {x : Session} : SameBut [.test, .feed] s (startLook x s) :=
  ((SameBut.refl _ s).then testTarget_sameBut (by decide)).then setSession_sameBut (by decide)

theorem beginDisconnect_sameBut {x : Session} {e : EndingStatus} : SameBut [.test, .feed] s (beginDisconnect x e s) :=
  ((SameBut.refl _ s).then testTarget_sameBut (by decide)).then setTest_sameBut (by decide)

theorem nextMeasurement_sameBut {x : Session} : SameBut [.test, .feed] s (nextMeasurement x s) := by
  unfold nextMeasurement
  split
  · exact ((SameBut.refl _ s).then setResult_sameBut (by decide)).then beginDisconnect_sameBut (by decide)
  · split
    · exact startLook_sameBut
    · exact toMeasure_sameBut

theorem completeWindow_sameBut {x : Session} {m : Measurement} : SameBut [.test, .feed] s (completeWindow x m s) :=
  ((SameBut.refl _ s).then setTest_sameBut (by decide)).then nextMeasurement_sameBut (by decide)

theorem windowEnd_sameBut : SameBut [.test, .feed] s (windowEnd s) := by
  unfold windowEnd
  split
  · exact .refl _ s
  · split
    · split
      · exact (SameBut.refl _ s).then setSession_sameBut (by decide)
      · exact completeWindow_sameBut
    · exact .refl _ s

theorem converterSample_sameBut {v : Int} : SameBut [.test, .feed] s (converterSample v s) := by
  have sampled {x : Option Session} : SameBut [.test, .feed] s (s.setSession x) :=
    (SameBut.refl _ s).then setSession_sameBut (by decide)
  unfold converterSample
  split
  · exact .refl _ s
  · split
    · exact .ite (fun _ => sampled.then windowEnd_sameBut (by decide)) fun _ => sampled
    · exact .refl _ s

/-- The parts that the end of a session may change. -/
def sessionParts : List Part := callParts ++ [.sup, .test]

theorem toDisabled_sameBut : SameBut sessionParts s (toDisabled l s) :=
  (((SameBut.refl _ s).then enter_sameBut (by decide)).then setSup_sameBut (by decide)).then callTarget_sameBut
    (by decide)

theorem returnPrior_sameBut {prior : CallState} : SameBut sessionParts s (returnPrior l prior s) := by
  unfold returnPrior
  dsimp only
  split
  · exact toDisabled_sameBut
  · exact ((SameBut.refl _ s).then enter_sameBut (by decide)).then callTarget_sameBut (by decide)
  · exact ((SameBut.refl _ s).then enter_sameBut (by decide)).then callTarget_sameBut (by decide)
  · exact (SameBut.refl _ s).then goIdle_sameBut (by decide)

theorem returnLine_sameBut {e : EndingStatus} {v : Option Verdict} : SameBut sessionParts s (returnLine l e v s) := by
  unfold returnLine
  dsimp only
  split
  · split
    · exact toDisabled_sameBut
    · exact (SameBut.refl _ s).then faultEntry_sameBut (by decide)
  · have cleared {r : Report} : SameBut sessionParts s (goIdle l (s.report true r)) :=
      ((SameBut.refl _ s).then report_sameBut (by decide)).then goIdle_sameBut (by decide)
    split
    · split
      · exact cleared.then offHookHandling_sameBut (by decide)
      · exact cleared
    · exact returnPrior_sameBut
  · exact returnPrior_sameBut

theorem endSession_sameBut {x : Session} : SameBut sessionParts s (endSession x s) :=
  (((((SameBut.refl _ s).then setTest_sameBut (by decide)).then lineReport_sameBut (by decide)).then setSup_sameBut
    (by decide)).then
    returnLine_sameBut (by decide)).then handback_sameBut (by decide)

theorem finishConnect_sameBut {x : Session} : SameBut [.test, .feed] s (finishConnect x s) :=
  .ite (fun _ => nextMeasurement_sameBut) fun _ => .refl _ s

theorem finishDisconnect_sameBut {x : Session} : SameBut sessionParts s (finishDisconnect x s) :=
  .ite (fun _ => endSession_sameBut) fun _ => .refl _ s

theorem connectExpiry_sameBut : SameBut [.test, .feed] s (connectExpiry s) := by
  unfold connectExpiry
  split
  · exact .ite (fun _ => ((SameBut.refl _ s).then setSession_sameBut (by decide)).then finishConnect_sameBut
      (by decide)) fun _ => .refl _ s
  · exact .refl _ s

theorem lookExpiry_sameBut : SameBut [.test, .feed] s (lookExpiry s) := by
  unfold lookExpiry
  split
  · split
    · exact .ite (fun _ => toMeasure_sameBut) fun _ => .refl _ s
    · exact .refl _ s
  · exact .refl _ s

theorem disconnectExpiry_sameBut : SameBut sessionParts s (disconnectExpiry s) := by
  unfold disconnectExpiry
  split
  · exact .ite (fun _ => ((SameBut.refl _ s).then setSession_sameBut (by decide)).then finishDisconnect_sameBut
      (by decide)) fun _ => .refl _ s
  · exact .refl _ s

theorem targetReached_sameBut : SameBut sessionParts s (targetReached l s) := by
  unfold targetReached
  split
  · exact .refl _ s
  · refine .ite (fun _ => ?_) fun _ => .refl _ s
    split
    · exact (SameBut.refl _ s).then finishConnect_sameBut (by decide)
    · exact (SameBut.refl _ s).then setSession_sameBut (by decide)
    · exact (SameBut.refl _ s).then beginMeasurement_sameBut (by decide)
    · exact finishDisconnect_sameBut
    · exact .refl _ s

theorem settleEnd_sameBut : SameBut sessionParts s (settleEnd l s) := by
  have settled {x : Feed} : SameBut sessionParts s (s.setFeed l x) := (SameBut.refl _ s).then setFeed_sameBut
    (by decide)
  exact .ite (fun _ => .ite (fun _ => settled.then targetReached_sameBut (by decide)) fun _ => settled) fun _ =>
    .refl _ s

theorem cutShort_sameBut {e : EndingStatus} : SameBut [.test, .feed] s (cutShort e s) := by
  unfold cutShort
  split
  · exact .ite (fun _ => .refl _ s) fun _ => beginDisconnect_sameBut
  · exact .refl _ s

theorem dropLooks_sameBut : SameBut [.test, .feed] s (dropLooks l s) := by
  unfold dropLooks
  split
  · refine .ite (fun _ => ?_) fun _ => .refl _ s
    dsimp only
    split
    · exact toMeasure_sameBut
    · exact (SameBut.refl _ s).then setSession_sameBut (by decide)
  · exact .refl _ s

/-! ## Supply, Quiet operation, samples, the control monitor and the audit -/

theorem runQuiet_sameBut {before : State} : SameBut [.quietRun] s (runQuiet before s) := by
  unfold runQuiet
  dsimp only
  exact .ite (fun _ => .ite (fun _ => setMonitor_quietRun_sameBut) fun _ => .ite
      (fun _ => setMonitor_quietRun_sameBut)
      fun _ => .ite (fun _ => setMonitor_quietRun_sameBut) fun _ => .refl _ s)
    fun _ => setMonitor_quietRun_sameBut

/-- An event changes what its work changes, and runs the quiet timer. -/
theorem event_sameBut (f : State → State) (s : State) : SameBut [.quietRun] (f s) (event f s) := runQuiet_sameBut

theorem quietExpiry_sameBut : SameBut [.quietRun] s (quietExpiry s) :=
  .ite (fun _ => setMonitor_quietRun_sameBut) fun _ => .refl _ s

theorem roundStart_sameBut : SameBut [.scanner] s (roundStart s) :=
  .ite (fun _ => .refl _ s) fun _ => setScanner_sameBut

theorem isolateLine_sameBut : SameBut callParts s (isolateLine l s) := by
  unfold isolateLine
  split
  · exact (SameBut.refl _ s).then enterLockout_sameBut (by decide)
  · exact ((SameBut.refl _ s).then releaseUse_sameBut (by decide)).then enterLockout_sameBut (by decide)
  · exact .refl _ s

theorem countdownExpiry_sameBut : SameBut (.watch :: callParts) s (countdownExpiry s) :=
  .ite (fun _ => SameBut.then (.eachLine _ ((SameBut.refl _ s).then setMonitor_watch_sameBut (by decide)) fun _ v =>
    (SameBut.refl _ v).then isolateLine_sameBut (by decide)) setArbiter_sameBut (by decide)) fun _ => .refl _ s

theorem reloadMonitor_sameBut : SameBut [.watch, .reports] s (reloadMonitor s) := by
  have reloaded : SameBut [.watch, .reports] s (if s.monitor.isolated then
      (s.setMonitor { s.monitor with isolated := false }).report true { kind := .controlRestored } else s) :=
    .ite (fun _ => ((SameBut.refl _ s).then setMonitor_watch_sameBut (by decide)).then report_sameBut (by decide))
      fun _ => .refl _ s
  exact .ite (fun _ => reloaded.then setMonitor_watch_sameBut (by decide)) fun _ => reloaded

theorem recomputeReference_sameBut : SameBut [.watch] s (recomputeReference s) := setMonitor_watch_sameBut

theorem resetEnabledCounts_sameBut : SameBut [.sup] s (resetEnabledCounts s) :=
  .eachLine _ (.refl _ s) fun _ v => .ite (fun _ => resetCounts_sameBut) fun _ => .refl _ v

theorem quietDelayWritten_sameBut {old : Word16} : SameBut [.quietRun] s (quietDelayWritten old s) := by
  have restarted : SameBut [.quietRun] s (if s.tables.timers.quietDelay ≠ old ∧ s.monitor.quietTimer.isSome then
      s.setMonitor { s.monitor with quietTimer := s.startQuietTimer } else s) :=
    .ite (fun _ => setMonitor_quietRun_sameBut) fun _ => .refl _ s
  exact .ite (fun _ => restarted.then endQuiet_sameBut (by decide)) fun _ => restarted

/-- The parts that the audit may change. -/
def auditParts : List Part := callParts ++ [.tables, .watch, .sup, .quietRun]

theorem revertTables_sameBut : SameBut auditParts s (revertTables s) :=
  ((((((SameBut.refl _ s).then setTables_sameBut (by decide)).then recomputeReference_sameBut (by decide)).then
    resetEnabledCounts_sameBut (by decide)).then quietDelayWritten_sameBut (by decide)).then setArbiter_sameBut
      (by decide)).then runIdle_sameBut (by decide)

theorem auditExpiry_sameBut : SameBut auditParts s (auditExpiry s) := by
  have started {x : Option Nat} : SameBut auditParts s (s.setMonitor { s.monitor with audit := x }) :=
    (SameBut.refl _ s).then setMonitor_watch_sameBut (by decide)
  exact .ite (fun _ => .ite (fun _ => started) fun _ => (started.then report_sameBut (by decide)).then
    revertTables_sameBut (by decide))
    fun _ => .refl _ s

theorem disturb_sameBut {i : Nat} {v : Byte} : SameBut [.tables] s (disturb i v s) := setTables_sameBut

end

end Sys2Proof.Machine
end

section
/-! What each request, the Bus Interface and one millisecond change of the state, in the terms of `SameBut`. -/

namespace Sys2Proof.Machine

/-! ## Requests -/

/-- A request that changes listed parts alone. -/
def Request.Changes (parts : List Part) (q : Request) : Prop := ∀ s, SameBut parts s (q s).1

section
variable {parts more : List Part} {q : Request}

theorem Request.Changes.mono (h : q.Changes parts) (sub : parts ⊆ more) : q.Changes more :=
  fun s => (h s).mono sub

theorem refuseWith_changes (c : Cause) : (refuseWith c).Changes parts := fun s => .refl _ s

theorem onLine_changes {f : Line → Request} (line : Byte) (h : ∀ l, (f l).Changes parts) :
    (onLine line f).Changes parts := by
  unfold onLine
  split
  · exact h _
  · exact refuseWith_changes _

theorem onBearer_changes {f : Bearer → Request} (bearer : Byte) (h : ∀ b, (f b).Changes parts) :
    (onBearer bearer f).Changes parts := by
  unfold onBearer
  split
  · exact h _
  · exact refuseWith_changes _

/-- The choice of a request's outcome: each of the two changes listed parts alone. -/
theorem SameBut.choice {s : State} {c : Prop} [Decidable c] {x y : State × Reply}
    (h : c → SameBut parts s x.1) (k : ¬c → SameBut parts s y.1) : SameBut parts s (if c then x else y).1 := by
  split
  · exact h ‹c›
  · exact k ‹¬c›

end

theorem reqLinkUp_changes {count : Byte} : (reqLinkUp count).Changes [.bearers] := fun s =>
  .choice (fun _ => .refl _ s) fun _ => .choice (fun _ => .refl _ s) fun _ => setBearers_sameBut

theorem linkLost_sameBut {l : Line} {s : State} :
    SameBut [.call, .brk, .arbiter, .ringer, .feed] s (linkLost l s) := by
  unfold linkLost
  split
  · split
    · exact enterLockout_sameBut
    · exact goIdle_sameBut
  · exact enterLockout_sameBut
  · exact goIdle_sameBut
  · exact .refl _ s

theorem reqBar_changes {bearer : Byte} : (reqBar bearer).Changes [.bearers] := by
  refine onBearer_changes bearer fun b s => ?_
  dsimp only
  split
  · exact .refl _ s
  · exact setBearer_sameBut
  · exact setBearer_sameBut
  · exact .refl _ s
  · exact setBearer_sameBut

theorem judgeLate_changes {parts : List Part} {l : Line} {b : Bearer} : (judgeLate l b).Changes parts := fun s =>
  .choice (fun _ => .refl _ s) fun _ => .refl _ s

theorem flushDigits_sameBut {l : Line} {b : Bearer} {s : State} : SameBut [.reports] s (flushDigits l b s) := by
  have digits : SameBut [.reports] s
      (each s.call[l].early (fun v s => s.lineReport .digit l (some b) (some v)) s) :=
    .each _ _ (.refl _ s) fun _ _ => lineReport_sameBut
  exact .ite (fun _ => digits.then lineReport_sameBut (by decide)) fun _ => digits

theorem refuseSeize_sameBut {l : Line} {b : Bearer} {s : State} : SameBut callParts s (refuseSeize l b s) :=
  (((SameBut.refl _ s).then freeBearer_sameBut (by decide)).then enterLockout_sameBut (by decide)).then
    handFreed_sameBut (by decide)

theorem releaseConnected_sameBut {l : Line} {b : Bearer} {s : State} :
    SameBut callParts s (releaseConnected l b s) := by
  have freed : SameBut callParts s (freeBearer b s) := (SameBut.refl _ s).then freeBearer_sameBut (by decide)
  unfold releaseConnected
  refine SameBut.then ?_ handFreed_sameBut (by decide)
  split
  · exact freed.then enterLockout_sameBut (by decide)
  · exact freed.then goIdle_sameBut (by decide)

theorem releaseRinging_sameBut {l : Line} {b : Bearer} {s : State} : SameBut callParts s (releaseRinging l b s) :=
  (((SameBut.refl _ s).then freeBearer_sameBut (by decide)).then goIdle_sameBut (by decide)).then handFreed_sameBut
    (by decide)

theorem startRinging_sameBut {l : Line} {b : Bearer} {s : State} : SameBut callParts s (startRinging l b s) :=
  (((((SameBut.refl _ s).then giveBearer_sameBut (by decide)).then enter_sameBut (by decide)).then
    callTarget_sameBut (by decide)).then
    place_sameBut (by decide)).then startWheel_sameBut (by decide)

theorem withdrawOwn_sameBut {l : Line} {s : State} : SameBut callParts s (withdrawOwn l s) := by
  unfold withdrawOwn
  split
  · exact .ite (fun _ => ((SameBut.refl _ s).then clearBearer_sameBut (by decide)).then releaseReport_sameBut
      (by decide))
      fun _ => ((SameBut.refl _ s).then clearBearer_sameBut (by decide)).then lineReport_sameBut (by decide)
  · exact .refl _ s

theorem acceptIncoming_sameBut {l : Line} {b : Bearer} {ring : Bool} {s : State} :
    SameBut callParts s (acceptIncoming l b ring s) := by
  unfold acceptIncoming
  split
  · exact .ite (fun _ => startRinging_sameBut) fun _ =>
      (((SameBut.refl _ s).then engage_sameBut (by decide)).then enter_sameBut (by decide)).then callTarget_sameBut
        (by decide)
  · exact (((withdrawOwn_sameBut).then engage_sameBut (by decide)).then enter_sameBut (by decide)).then
      lineReport_sameBut (by decide)

theorem carryIncoming_sameBut {l : Line} {b : Bearer} {ring : Bool} {s : State} :
    SameBut callParts s (carryIncoming l b ring s) := by
  unfold carryIncoming
  dsimp only
  refine SameBut.then (SameBut.then ?_ acceptIncoming_sameBut (by decide)) reconsiderIf_sameBut (by decide)
  split
  · exact placeYielded_sameBut
  · exact .refl _ s

theorem reqFarAnswer_changes {line : Byte} : (reqFarAnswer line).Changes [.feed] :=
  onLine_changes line fun _ s =>
    .choice (fun _ => .ite (fun _ => callTarget_sameBut) fun _ => .refl _ s) fun _ => .refl _ s

theorem reqTestAbort_changes : reqTestAbort.Changes [.test, .feed] := fun s => by
  unfold reqTestAbort
  split
  · exact .refl _ s
  · exact .choice (fun _ => .refl _ s) fun _ => beginDisconnect_sameBut

/-! ## Settings -/

theorem resetProfileCounts_sameBut {p : Fin 8} {s : State} : SameBut [.sup] s (resetProfileCounts p s) :=
  .eachLine _ (.refl _ s) fun _ v => .ite (fun _ => resetCounts_sameBut) fun _ => .refl _ v

theorem reqSetProfile_changes {profile : Byte} {p : Profile} :
    (reqSetProfile profile p).Changes [.tables, .sup, .watch] := fun s => by
  unfold reqSetProfile
  dsimp only
  split
  · exact .choice (fun _ => (((SameBut.refl _ s).then setTables_sameBut (by decide)).then resetProfileCounts_sameBut
      (by decide)).then
      recomputeReference_sameBut (by decide)) fun _ => .refl _ s
  · exact .refl _ s

theorem reqSetClassMap_changes {priority standard economy alarm : Word16} :
    (reqSetClassMap priority standard economy alarm).Changes (callParts ++ [.tables, .watch]) := fun s =>
  .choice (fun _ => (((SameBut.refl _ s).then setTables_sameBut (by decide)).then recomputeReference_sameBut
    (by decide)).then runIdle_sameBut (by decide))
    fun _ => .refl _ s

theorem reqSetArbiterPhases_changes {t : Vector Byte 8} :
    (reqSetArbiterPhases t).Changes [.tables, .arbiter, .watch] := fun s =>
  .choice (fun _ => (((SameBut.refl _ s).then setTables_sameBut (by decide)).then setArbiter_sameBut (by decide)).then
    recomputeReference_sameBut (by decide)) fun _ => .refl _ s

theorem reqSetTimers_changes {t : Timers} : (reqSetTimers t).Changes [.tables, .watch, .quietRun] := fun s =>
  (((SameBut.refl _ s).then setTables_sameBut (by decide)).then recomputeReference_sameBut (by decide)).then
    quietDelayWritten_sameBut (by decide)

theorem reqSetSupplyThresholds_changes {t : Thresholds} :
    (reqSetSupplyThresholds t).Changes [.tables, .watch] := fun s =>
  .choice (fun _ => ((SameBut.refl _ s).then setTables_sameBut (by decide)).then recomputeReference_sameBut
    (by decide)) fun _ => .refl _ s

theorem reqClearSupplyDip_changes : reqClearSupplyDip.Changes [.supply] := fun _ => setSupply_sameBut

theorem reqArmMonitor_changes {interval : Byte} : (reqArmMonitor interval).Changes [.watch] := fun s =>
  .choice (fun _ => .refl _ s) fun _ => setMonitor_watch_sameBut

/-! ## Queries -/

theorem reqUnitQuery_changes {parts : List Part} {countdown : Option Nat} {isolated : Bool} {sect : Byte} :
    (reqUnitQuery countdown isolated sect).Changes parts := fun s => by
  unfold reqUnitQuery
  split <;> exact .refl _ s

/-! ## The calls restart -/

/-- The parts that a calls restart may change. -/
def restartParts : List Part := callParts ++ [.sup, .test, .quietRun, .bus]

theorem callsRestart_sameBut (s : State) : SameBut restartParts s (callsRestart s) := by
  unfold callsRestart
  dsimp only
  split
  · refine SameBut.then ?_ lineReport_sameBut (by decide)
    intro p hp
    cases p <;> first | exact absurd (by decide) hp | rfl
  · intro p hp
    cases p <;> first | exact absurd (by decide) hp | rfl

/-! ## Whole frames -/

section
variable {s : State}

theorem cancelReply_sameBut : SameBut [.bus] s (cancelReply s) := setBus_sameBut

theorem lineHigh_sameBut : SameBut [.bus] s (lineHigh s) := setBus_sameBut

theorem loseFrame_sameBut : SameBut [.bus] s (loseFrame s) :=
  .ite (fun _ => .refl _ s) fun _ => (setBus_sameBut).then lineHigh_sameBut (by decide)

theorem owe_sameBut {r : Reply} : SameBut [.bus] s (owe r s) := setBus_sameBut

theorem atRequest_sameBut (s : State) : SameBut [.bus, .watch, .reports] s s.atRequest :=
  ((SameBut.refl _ s).then cancelReply_sameBut (by decide)).then reloadMonitor_sameBut (by decide)

/-- A frame changes the bus, the control monitor's reload and what its request changes. -/
theorem takeFrame_sameBut {parts : List Part} {d : Addressee} {allowed : Bool} {q : Request}
    (h : q.Changes parts) (sub : [.bus, .watch, .reports] ⊆ parts) :
    SameBut parts s (takeFrame d allowed q s) := by
  have arrived : SameBut parts s (reloadMonitor (cancelReply s)) := (atRequest_sameBut s).mono sub
  have bus : [Part.bus] ⊆ parts := fun _ hp => sub (List.mem_cons.mpr (.inl (List.mem_singleton.mp hp)))
  unfold takeFrame
  refine .ite (fun _ => ?_) fun _ => (loseFrame_sameBut).mono bus
  dsimp only
  split
  · exact (arrived.trans (h _)).then owe_sameBut bus
  · exact .ite (fun _ => arrived.trans (h _)) fun _ => arrived

/-! ## Restarts -/

theorem readyExpiry_sameBut : SameBut [.bus] s (readyExpiry s) :=
  .ite (fun _ => setBus_sameBut) fun _ => .refl _ s

/-! ## The Bus Interface -/

theorem transmit_sameBut {payload : List Byte} : SameBut [.bus] s (transmit payload s) := setBus_sameBut

theorem transmitStart_sameBut : SameBut [.bus, .reports] s (transmitStart s) := by
  unfold transmitStart
  split
  · refine .ite (fun _ => ?_) fun _ => .refl _ s
    split
    · exact ((SameBut.refl _ s).then setReports_sameBut (by decide)).then transmit_sameBut (by decide)
    · exact (SameBut.refl _ s).then transmit_sameBut (by decide)
  · exact .refl _ s

theorem transmitEnd_sameBut : SameBut [.bus] s (transmitEnd s) := by
  unfold transmitEnd
  split
  · exact setBus_sameBut
  · exact .refl _ s

theorem discardFrame_sameBut : SameBut [.bus] s (discardFrame s) := setBus_sameBut

theorem gapExpiry_sameBut : SameBut [.bus] s (gapExpiry s) := .ite (fun _ => discardFrame_sameBut) fun _ => .refl _ s

theorem byteStart_sameBut : SameBut [.bus] s (byteStart s) := .ite (fun _ => setBus_sameBut) fun _ => .refl _ s

theorem lineAfterByte_sameBut {v : Byte} {parity stop : Bool} : SameBut [.bus] s (lineAfterByte v parity stop s) :=
  .ite (fun _ => (setBus_sameBut).then lineHigh_sameBut (by decide)) fun _ => setBus_sameBut

/-! ## One millisecond -/

/-- Ageing leaves every part without a timer. -/
theorem age_sameBut (s : State) :
    SameBut [.feed, .call, .bearers, .arbiter, .ringer, .test, .quietRun, .watch, .bus, .toneClock] s (age s) := by
  intro p hp
  cases p <;> first | exact absurd (by decide) hp | rfl

theorem whenDue_sameBut {parts : List Part} {due : State → Bool} {f : State → State}
    (h : ∀ v, SameBut parts v (f v)) (sub : [.quietRun] ⊆ parts) : SameBut parts s (whenDue due f s) :=
  .ite (fun _ => (h s).then (event_sameBut f s) sub) fun _ => .refl _ s

/-- The parts that the timers of lines, bearers and the unit may change when they run out. -/
def timerParts : List Part := callParts ++ [.tables, .watch, .sup, .quietRun, .test]

/-- A timer that acts through `f`, where `f` changes parts that timers may change. -/
theorem whenDue_timerParts {parts : List Part} {due : State → Bool} {f : State → State}
    (h : ∀ v, SameBut parts v (f v)) (sub : parts ⊆ timerParts) :
    SameBut timerParts s (whenDue due f s) := whenDue_sameBut (fun v => (h v).mono sub) (by decide)

theorem lineTimers_sameBut {l : Line} : SameBut timerParts s (lineTimers l s) :=
  (((((((whenDue_timerParts (fun _ => blankingEnd_sameBut) (by decide)).trans
    (whenDue_timerParts (fun _ => settleEnd_sameBut) (by decide))).trans
    (whenDue_timerParts (fun _ => answerExpiry_sameBut) (by decide))).trans
    (whenDue_timerParts (fun _ => waitLimitExpiry_sameBut) (by decide))).trans
    (whenDue_timerParts (fun _ => preemptionToneEnd_sameBut) (by decide))).trans
    (whenDue_timerParts (fun _ => tonePhaseEnd_sameBut) (by decide))).trans
    (whenDue_timerParts (fun _ => howlerPhaseEnd_sameBut) (by decide))).trans
    ((whenDue_timerParts (fun _ => retryWaitExpiry_sameBut) (by decide)).trans
    (whenDue_timerParts (fun _ => retryLookExpiry_sameBut) (by decide)))

theorem unitTimers_sameBut : SameBut timerParts s (unitTimers s) :=
  ((((((whenDue_timerParts (fun _ => handoverExpiry_sameBut) (by decide)).trans
    (whenDue_timerParts (fun _ => phaseBoundary_sameBut) (by decide))).trans
    (whenDue_timerParts (fun _ => connectExpiry_sameBut) (by decide))).trans
    (whenDue_timerParts (fun _ => lookExpiry_sameBut) (by decide))).trans
    (whenDue_timerParts (fun _ => disconnectExpiry_sameBut) (by decide))).trans
    (whenDue_timerParts (fun _ => countdownExpiry_sameBut) (by decide))).trans
    ((whenDue_timerParts (fun _ => auditExpiry_sameBut) (by decide)).trans
    (whenDue_timerParts (fun _ => quietExpiry_sameBut) (by decide)))

theorem busTimers_sameBut : SameBut [.bus, .reports, .quietRun] s (busTimers s) :=
  ((whenDue_sameBut (fun v => (SameBut.refl _ v).then gapExpiry_sameBut (by decide)) (by decide)).trans
    (whenDue_sameBut (fun v => (SameBut.refl _ v).then readyExpiry_sameBut (by decide)) (by decide))).trans
    ((whenDue_sameBut (fun v => (SameBut.refl _ v).then transmitEnd_sameBut (by decide)) (by decide)).trans
    (whenDue_sameBut (fun v => (SameBut.refl _ v).then transmitStart_sameBut (by decide)) (by decide)))

end

end Sys2Proof.Machine
end

section
/-! The ring collections (chapter 7): where the next line is placed, and what a fill keeps. -/

namespace Sys2Proof.Machine

/-! ## The phase that is placed in next (R126, R129) -/

section
variable {ph : PhaseLists} {room : Nat}

/-- Walking on from a best phase so far: the result is at most as long as every phase seen, and shorter than every
earlier one. -/
theorem foldl_betterPhase (xs : List (Fin 4)) (b : Fin 4) (sorted : (b :: xs).Pairwise (· < ·)) :
    ∃ p, xs.foldl (betterPhase ph) (some b) = some p ∧ p ∈ b :: xs ∧
      ∀ q ∈ b :: xs, ph[p].length ≤ ph[q].length ∧ (q < p → ph[p].length < ph[q].length) := by
  induction xs generalizing b with
  | nil => exact ⟨b, rfl, List.mem_singleton_self b, by simp⟩
  | cons x xs ih =>
    obtain ⟨⟨bx, bxs⟩, xxs, tail⟩ : ((b < x ∧ ∀ y ∈ xs, b < y) ∧ (∀ y ∈ xs, x < y) ∧ xs.Pairwise (· < ·)) := by
      simpa using sorted
    by_cases shorter : ph[x].length < ph[b].length
    · obtain ⟨p, walked, mem, best⟩ := ih x (List.pairwise_cons.mpr ⟨xxs, tail⟩)
      refine ⟨p, by rwa [List.foldl_cons, betterPhase, if_pos shorter], List.mem_cons_of_mem b mem, fun q hq => ?_⟩
      rcases List.mem_cons.mp hq with rfl | hq
      · have := (best x List.mem_cons_self).1
        omega
      · exact best q hq
    · obtain ⟨p, walked, mem, best⟩ := ih b (List.pairwise_cons.mpr ⟨bxs, tail⟩)
      refine ⟨p, by rwa [List.foldl_cons, betterPhase, if_neg shorter], ?_, fun q hq => ?_⟩
      · rcases List.mem_cons.mp mem with rfl | mem <;> simp [*]
      · obtain ⟨atMost, below⟩ := best b List.mem_cons_self
        rcases List.mem_cons.mp hq with rfl | hq
        · exact ⟨atMost, below⟩
        · rcases List.mem_cons.mp hq with rfl | hq
          · exact ⟨by omega, fun earlier => by have := below (by omega); omega⟩
          · exact best q (List.mem_cons_of_mem _ hq)

/-- Two phases that are both next to be placed in are the same. -/
theorem nextPhase_unique {p q : Fin 4} (hp : nextPhase ph room p) (hq : nextPhase ph room q) : p = q := by
  obtain ⟨-, bestP⟩ := hp
  obtain ⟨-, bestQ⟩ := hq
  obtain ⟨pq, earlierQ⟩ := bestP q
  obtain ⟨qp, earlierP⟩ := bestQ p
  rcases lt_trichotomy p q with lt | eq | gt
  · have := earlierP lt; omega
  · exact eq
  · have := earlierQ gt; omega

/-- Where a phase has room, the walk finds the next one to be placed in; where none has, it finds none. -/
theorem bestPhase_spec : (∃ p, bestPhase ph room = some p ∧ nextPhase ph room p) ∨
    bestPhase ph room = none ∧ ∀ p : Fin 4, room ≤ ph[p].length := by
  have sorted : ((List.finRange 4).filter fun p => decide (ph[p].length < room)).Pairwise (· < ·) :=
    (List.pairwise_lt_finRange 4).filter _
  have seen : ∀ p : Fin 4, p ∈ (List.finRange 4).filter (fun p => decide (ph[p].length < room)) ↔
      ph[p].length < room := by simp
  unfold bestPhase
  cases roomy : (List.finRange 4).filter fun p => decide (ph[p].length < room) with
  | nil =>
    simp only [roomy, List.not_mem_nil, false_iff, not_lt] at seen
    exact .inr ⟨rfl, seen⟩
  | cons b xs =>
    rw [roomy] at sorted seen
    obtain ⟨p, walked, mem, best⟩ := foldl_betterPhase (ph := ph) xs b sorted
    have short := (seen p).mp mem
    refine .inl ⟨p, walked, short, fun q => ?_⟩
    by_cases hq : ph[q].length < room
    · exact best q ((seen q).mpr hq)
    · omega

theorem bestPhase_eq_some_iff {p : Fin 4} : bestPhase ph room = some p ↔ nextPhase ph room p := by
  rcases bestPhase_spec (ph := ph) (room := room) with ⟨q, found, next⟩ | ⟨missing, full⟩
  · rw [found, Option.some_inj]
    exact ⟨fun e => e ▸ next, fun h => nextPhase_unique next h⟩
  · constructor
    · simp [missing]
    · rintro ⟨short, -⟩
      exact absurd (full p) (by omega)

theorem bestPhase_eq_none_iff : bestPhase ph room = none ↔ ∀ p : Fin 4, room ≤ ph[p].length := by
  rcases bestPhase_spec (ph := ph) (room := room) with ⟨q, found, short, -⟩ | ⟨missing, full⟩
  · constructor
    · simp [found]
    · intro full
      exact absurd (full q) (by omega)
  · exact ⟨fun _ => full, fun _ => missing⟩

end

/-! ## Phase lists -/

/-- The lines of the four phases, phase by phase. -/
def phaseLines (ph : PhaseLists) : List Line := ph[(0 : Fin 4)] ++ ph[(1 : Fin 4)] ++ ph[(2 : Fin 4)] ++
  ph[(3 : Fin 4)]

theorem mem_phaseLines {ph : PhaseLists} {l : Line} : l ∈ phaseLines ph ↔ ∃ p : Fin 4, l ∈ ph[p] := by
  simp only [phaseLines, List.mem_append]
  constructor
  · rintro (((h | h) | h) | h) <;> exact ⟨_, h⟩
  · rintro ⟨p, h⟩
    match p, h with
    | 0, h | 1, h | 2, h | 3, h => simp only [h, true_or, or_true]

section
variable (ph : PhaseLists) (p q : Fin 4) (l : Line)

theorem append_get : (PhaseLists.append ph p l)[q] = if q = p then ph[p] ++ [l] else ph[q] := by
  by_cases h : q = p
  · subst h; simp [PhaseLists.append]
  · have ne : (p : Nat) ≠ q := fun e => h (Fin.ext e.symm)
    simp [PhaseLists.append, h, Vector.getElem_set_ne, ne]

theorem phaseLines_append_count (m : Line) :
    (phaseLines (PhaseLists.append ph p l)).count m = (phaseLines ph).count m + if l = m then 1 else 0 := by
  simp only [phaseLines, append_get, List.count_append]
  match p with
  | 0 | 1 | 2 | 3 => simp [List.count_append, List.count_singleton]; omega

end

/-! ## A fill (R129) -/

section
variable {permitted : Line → Bool} {room : Nat} {l : Line} {rest : List Line} {ph : PhaseLists}

theorem fillWalk_place {p : Fin 4} (h : permitted l = true) (next : nextPhase ph room p) :
    fillWalk permitted room (l :: rest) ph = fillWalk permitted room rest (PhaseLists.append ph p l) := by
  rw [fillWalk, if_pos h, (bestPhase_eq_some_iff).mpr next]

theorem fillWalk_full (h : permitted l = true) (full : ∀ p : Fin 4, room ≤ ph[p].length) :
    fillWalk permitted room (l :: rest) ph = (ph, l :: rest) := by
  rw [fillWalk, if_pos h, (bestPhase_eq_none_iff).mpr full]

theorem fillWalk_skip (h : permitted l = false) :
    fillWalk permitted room (l :: rest) ph =
      ((fillWalk permitted room rest ph).1, l :: (fillWalk permitted room rest ph).2) := by
  rw [fillWalk, if_neg (by simp [h])]

/-- The shape of a fill: the queue is empty, or its head is placed, ends the fill, or keeps its place. -/
theorem fillWalk_induction {motive : List Line → PhaseLists → PhaseLists × List Line → Prop}
    (nil : ∀ ph, motive [] ph (ph, []))
    (place : ∀ l rest ph p, permitted l = true → nextPhase ph room p →
      motive rest (PhaseLists.append ph p l) (fillWalk permitted room rest (PhaseLists.append ph p l)) →
      motive (l :: rest) ph (fillWalk permitted room rest (PhaseLists.append ph p l)))
    (full : ∀ l rest ph, permitted l = true → (∀ p : Fin 4, room ≤ ph[p].length) →
      motive (l :: rest) ph (ph, l :: rest))
    (skip : ∀ l rest ph, permitted l = false → motive rest ph (fillWalk permitted room rest ph) →
      motive (l :: rest) ph ((fillWalk permitted room rest ph).1, l :: (fillWalk permitted room rest ph).2))
    (queue : List Line) (ph : PhaseLists) : motive queue ph (fillWalk permitted room queue ph) := by
  induction queue generalizing ph with
  | nil => exact nil ph
  | cons l rest ih =>
    cases h : permitted l with
    | false =>
      rw [fillWalk_skip h]
      exact skip l rest ph h (ih ph)
    | true =>
      rcases bestPhase_spec (ph := ph) (room := room) with ⟨p, -, next⟩ | ⟨-, crowded⟩
      · rw [fillWalk_place h next]
        exact place l rest ph p h next (ih _)
      · rw [fillWalk_full h crowded]
        exact full l rest ph h crowded

/-- A line appended to a phase with room leaves the phases within the capacity. -/
theorem append_within {p : Fin 4} (within : ∀ q : Fin 4, ph[q].length ≤ room) (next : nextPhase ph room p)
  (q : Fin 4) :
    (PhaseLists.append ph p l)[q].length ≤ room := by
  obtain ⟨short, -⟩ := next
  rw [append_get]
  split
  · simpa using short
  · exact within q

theorem fillWalk_within (queue : List Line) (ph : PhaseLists) (within : ∀ p : Fin 4, ph[p].length ≤ room)
  (p : Fin 4) :
    (fillWalk permitted room queue ph).1[p].length ≤ room := by
  induction queue, ph using fillWalk_induction (permitted := permitted) (room := room) with
  | nil ph => exact within p
  | place l rest ph q h next ih => exact ih (append_within within next)
  | full l rest ph h crowded => exact within p
  | skip l rest ph h ih => exact ih within

theorem fillWalk_sublist (queue : List Line) (ph : PhaseLists) :
    (fillWalk permitted room queue ph).2.Sublist queue := by
  induction queue, ph using fillWalk_induction (permitted := permitted) (room := room) with
  | nil ph => exact List.Sublist.refl _
  | place l rest ph q h next ih => exact ih.cons l
  | full l rest ph h crowded => exact List.Sublist.refl _
  | skip l rest ph h ih => exact ih.cons_cons l

/-- A fill loses and invents no line. -/
theorem fillWalk_count (queue : List Line) (ph : PhaseLists) (m : Line) :
    (phaseLines (fillWalk permitted room queue ph).1).count m + (fillWalk permitted room queue ph).2.count m =
      (phaseLines ph).count m + queue.count m := by
  induction queue, ph using fillWalk_induction (permitted := permitted) (room := room) with
  | nil ph => rfl
  | place l rest ph q h next ih =>
    rw [ih, phaseLines_append_count, List.count_cons]
    simp only [beq_iff_eq]
    omega
  | full l rest ph h crowded => rfl
  | skip l rest ph h ih =>
    simp only [List.count_cons]
    omega

/-- A line that is not permitted stays in the queue. -/
theorem fillWalk_keeps_unpermitted (queue : List Line) (ph : PhaseLists) (m : Line) (h : permitted m = false) :
    queue.count m ≤ (fillWalk permitted room queue ph).2.count m := by
  induction queue, ph using fillWalk_induction (permitted := permitted) (room := room) with
  | nil ph => exact Nat.le_refl _
  | place l rest ph q hl next ih =>
    have ne : l ≠ m := fun e => by simp [e, h] at hl
    rwa [List.count_cons_of_ne ne]
  | full l rest ph hl crowded => exact Nat.le_refl _
  | skip l rest ph hl ih =>
    simp only [List.count_cons]
    omega

/-- A permitted line is left in the queue only where every phase is full. -/
theorem fillWalk_leaves_full (queue : List Line) (ph : PhaseLists)
    (left : ∃ m ∈ (fillWalk permitted room queue ph).2, permitted m = true) (p : Fin 4) :
    room ≤ (fillWalk permitted room queue ph).1[p].length := by
  induction queue, ph using fillWalk_induction (permitted := permitted) (room := room) with
  | nil ph => simp at left
  | place l rest ph q hl next ih => exact ih left
  | full l rest ph hl crowded => exact crowded p
  | skip l rest ph hl ih =>
    obtain ⟨m, mem, hm⟩ := left
    rcases List.mem_cons.mp mem with rfl | mem
    · simp [hl] at hm
    · exact ih ⟨m, mem, hm⟩

/-- A line that a fill leaves in a phase was in it before, or is a permitted line of the queue. -/
theorem fillWalk_mem (queue : List Line) (ph : PhaseLists) (p : Fin 4) (m : Line)
    (h : m ∈ (fillWalk permitted room queue ph).1[p]) : m ∈ ph[p] ∨ permitted m = true := by
  induction queue, ph using fillWalk_induction (permitted := permitted) (room := room) with
  | nil ph => exact .inl h
  | place l rest ph q hl next ih =>
    rcases ih h with mem | mem
    · rw [append_get] at mem
      split at mem
      · subst p
        rcases List.mem_append.mp mem with mem | mem
        · exact .inl mem
        · rw [List.mem_singleton.mp mem]
          exact .inr hl
      · exact .inl mem
    · exact .inr mem
  | full l rest ph hl crowded => exact .inl h
  | skip l rest ph hl ih => exact ih h

end

/-- Settles O37, a clause for each law of the fill, and its walk by the head of the queue. -/
theorem fillKeepsCapacityAndLines : Obligations.FillKeepsCapacityAndLines := by
  intro permitted room queue ph within
  refine ⟨fillWalk_within queue ph within, fillWalk_sublist queue ph, ?_, fun l _ h =>
    fillWalk_keeps_unpermitted queue ph l h, fun left p => ?_, ?_⟩
  · refine List.perm_iff_count.mpr fun m => ?_
    change (phaseLines _ ++ _).count m = (phaseLines ph ++ queue).count m
    rw [List.count_append, List.count_append, fillWalk_count]
  · exact Nat.le_antisymm (fillWalk_within queue ph within p) (fillWalk_leaves_full queue ph left p)
  · rintro l rest rfl
    refine ⟨fun p h next => fillWalk_place h next, fun h full => fillWalk_full h fun p => (full p).ge, fun h => ?_⟩
    rw [fillWalk_skip h]
    exact ⟨rfl, rfl⟩

end Sys2Proof.Machine
end

section
/-! What every operation keeps of the queue of commands, the report queues, the filtered currents, the early digits,
  the
ring collections and the receive line's timers: one lemma for each operation, from which the invariants of these parts
are read off a step. -/

namespace Sys2Proof.Machine

/-! ## The ring collections by counting -/

/-- How many places line `l` has in the phases and the queue. -/
def Ringer.places (r : Ringer) (l : Line) : Nat := (phaseLines r.phases).count l + r.queue.count l

theorem ringCapacity_eq_ringRoom (s : State) : s.supply.level.ringCapacity = s.ringRoom := by
  unfold State.ringRoom
  cases s.supply.level <;> rfl

/-- The ring collections are tied but for the class of line `l`, which may have changed. -/
structure RingsTiedBut (l : Line) (s : State) : Prop where
  placed : ∀ m : Line, s.ringer.places m = if s.call[m].state = .ringing then 1 else 0
  atCritical : s.supply.level = .critical → ∀ (p : Fin 4) (m : Line), m ∈ s.ringer.phases[p] → m ≠ l →
    s.classOf m = .priority
  wheel : s.ringer.wheel = .stopped ↔ ∀ m : Line, s.call[m].state ≠ .ringing

theorem RingsTied.places {s : State} (h : RingsTied s) (m : Line) :
    s.ringer.places m = if s.call[m].state = .ringing then 1 else 0 := by
  rw [← h.placed m, Ringer.places, ← List.count_append]
  rfl

theorem RingsTied.ofPlaces {s : State} (placed : ∀ m : Line, s.ringer.places m = if s.call[m].state = .ringing then
  1 else 0)
    (atCritical : s.supply.level = .critical → ∀ (p : Fin 4) (m : Line), m ∈ s.ringer.phases[p] →
      s.classOf m = .priority)
    (wheel : s.ringer.wheel = .stopped ↔ ∀ m : Line, s.call[m].state ≠ .ringing) : RingsTied s :=
  ⟨fun m => by
    rw [← placed m, Ringer.places, ← List.count_append]
    rfl, atCritical, wheel⟩

theorem RingsTied.but {s : State} (h : RingsTied s) (l : Line) : RingsTiedBut l s :=
  ⟨h.places, fun critical p m mem _ => h.atCritical critical p m mem, h.wheel⟩

/-- A line that stands in a phase is Ringing. -/
theorem ringing_of_mem {s : State} (placed : ∀ m : Line, s.ringer.places m = if s.call[m].state = .ringing then 1
  else 0)
    {p : Fin 4} {m : Line} (mem : m ∈ s.ringer.phases[p]) : s.call[m].state = .ringing := by
  by_contra quiet
  have none := placed m
  rw [if_neg quiet, Ringer.places, Nat.add_eq_zero_iff, List.count_eq_zero] at none
  exact none.1 ((mem_phaseLines).mpr ⟨p, mem⟩)

/-- What a line's class may have changed does not matter while the line stands in no phase that asks for one. -/
theorem RingsTiedBut.tied {l : Line} {s : State} (h : RingsTiedBut l s)
    (free : s.supply.level = .critical → s.call[l].state = .ringing → s.classOf l = .priority) : RingsTied s :=
  .ofPlaces h.placed (fun critical p m mem => by
    by_cases e : m = l
    · subst e
      exact free critical (ringing_of_mem h.placed mem)
    · exact h.atCritical critical p m mem e) h.wheel

theorem anyRinging_iff {s : State} : s.anyRinging = true ↔ ∃ l : Line, s.call[l].state = .ringing := by
  simp [State.anyRinging, allLines]

/-! ### Fills and removals -/

section
variable {s : State} {l : Line}

theorem fill_places (m : Line) : (fill s).ringer.places m = s.ringer.places m := fillWalk_count ..

theorem fill_mem {p : Fin 4} {m : Line} (h : m ∈ (fill s).ringer.phases[p]) :
    m ∈ s.ringer.phases[p] ∨ s.permitted m = true := fillWalk_mem _ _ p m h

theorem fill_within (h : PhasesInCapacity s) : PhasesInCapacity (fill s) := fun p => by
  have within := fillWalk_within (permitted := s.permitted) s.ringer.queue s.ringer.phases
    (room := s.supply.level.ringCapacity) (by rw [ringCapacity_eq_ringRoom]; exact h) p
  rwa [ringCapacity_eq_ringRoom] at within

/-- At Critical only a line of class Priority is permitted (R125). -/
theorem permitted_atCritical {m : Line} (h : s.permitted m = true) (critical : s.supply.level = .critical) :
    s.classOf m = .priority := by
  unfold State.permitted at h
  rw [critical] at h
  cases c : s.classOf m <;> simp [c, Level.permits] at h ⊢

theorem fill_tied (h : RingsTied s) : RingsTied (fill s) :=
  .ofPlaces (fun m => (fill_places m).trans (h.places m)) (fun critical p m mem =>
    (fill_mem mem).elim (h.atCritical critical p m) (permitted_atCritical · critical)) h.wheel

theorem phaseLines_tabulate_filter (ph : PhaseLists) (keep : Line → Bool) :
    phaseLines (tabulate fun p => ph[p].filter keep) = (phaseLines ph).filter keep := by
  simp only [phaseLines, tabulate_get, List.filter_append]

theorem without_places (r : Ringer) (m : Line) : (r.without l).places m = if m = l then 0 else r.places m := by
  have gone : ∀ lines : List Line, (lines.filter fun x => x ≠ l).count m = if m = l then 0 else lines.count m := by
    intro lines
    split
    · next e => subst e; simp [List.count_eq_zero]
    · next ne => exact List.count_filter (by simpa using ne)
  unfold Ringer.places Ringer.without
  dsimp only
  rw [phaseLines_tabulate_filter, gone, gone]
  split <;> rfl

theorem without_mem {r : Ringer} {p : Fin 4} {m : Line} (h : m ∈ (r.without l).phases[p]) :
    m ∈ r.phases[p] ∧ m ≠ l := by
  simp only [Ringer.without, tabulate_get, List.mem_filter, decide_eq_true_eq] at h
  exact h

/-- The ring collections without line `l`, before the wheel is looked at. -/
def ringRemoved (l : Line) (s : State) : State :=
  if (s.ringer.phaseOf l).isSome then fill (s.setRinger (s.ringer.without l)) else s.setRinger (s.ringer.without l)

theorem ringRemove_eq : ringRemove l s = stopWheel (ringRemoved l s) := rfl

theorem ringRemoved_frame : (ringRemoved l s).call = s.call ∧ (ringRemoved l s).ringer.wheel = s.ringer.wheel ∧
    (ringRemoved l s).supply = s.supply ∧ (ringRemoved l s).entries = s.entries := by
  unfold ringRemoved
  split <;> exact ⟨rfl, rfl, rfl, rfl⟩

theorem ringRemoved_places (m : Line) :
    (ringRemoved l s).ringer.places m = if m = l then 0 else s.ringer.places m := by
  unfold ringRemoved
  split
  · exact (fill_places m).trans (without_places _ m)
  · exact without_places _ m

theorem ringRemoved_mem {p : Fin 4} {m : Line} (h : m ∈ (ringRemoved l s).ringer.phases[p]) :
    m ∈ s.ringer.phases[p] ∧ m ≠ l ∨ s.permitted m = true := by
  unfold ringRemoved at h
  split at h
  · exact (fill_mem h).imp_left without_mem
  · exact .inl (without_mem h)

theorem without_within (h : PhasesInCapacity s) : PhasesInCapacity (s.setRinger (s.ringer.without l)) := fun p => by
  have shorter : ((s.ringer.without l).phases[p]).length ≤ s.ringer.phases[p].length := by
    simp only [Ringer.without, tabulate_get]
    exact List.length_filter_le _ _
  exact shorter.trans (h p)

theorem ringRemoved_within (h : PhasesInCapacity s) : PhasesInCapacity (ringRemoved l s) := by
  unfold ringRemoved
  split
  · exact fill_within (without_within h)
  · exact without_within h

theorem stopWheel_phases : (stopWheel s).ringer.phases = s.ringer.phases ∧
    (stopWheel s).ringer.queue = s.ringer.queue := by
  unfold stopWheel
  split <;> exact ⟨rfl, rfl⟩

theorem stopWheel_wheel : (stopWheel s).ringer.wheel = if s.anyRinging then s.ringer.wheel else .stopped := by
  unfold stopWheel
  split <;> rfl

theorem stopWheel_within (h : PhasesInCapacity s) : PhasesInCapacity (stopWheel s) := by
  unfold stopWheel
  split <;> exact h

end

/-- What a vector reads after one entry has been set. -/
theorem set_get {α : Type} {n : Nat} (v : Vector α n) (l m : Fin n) (x : α) :
    (v.set l x)[m] = if m = l then x else v[m] := by
  split
  · next e => subst e; simp
  · next ne =>
    have ne' : (l : Nat) ≠ m := fun e => ne (Fin.ext e.symm)
    simp [Vector.getElem_set_ne, ne']

/-! ## What is kept -/

/-- From `s` to `t` the queue of commands stays, and the invariants of single parts are kept; that of the ring
collections under the condition `c`. -/
structure Keeps (c : Prop) (s t : State) : Prop where
  pending : t.pending = s.pending
  filter : FilterInRange s → FilterInRange t
  ready : ReadyWhileHigh s → ReadyWhileHigh t
  reports : ReportsBounded s → ReportsBounded t
  early : EarlyDigitsBounded s → EarlyDigitsBounded t
  phases : PhasesInCapacity s → PhasesInCapacity t
  rings : c → RingsTied s → RingsTied t

/-- The parts that these invariants do not speak of. -/
def unkept : List Part :=
  [.tables, .scanner, .brk, .feed, .bearers, .arbiter, .test, .quietRun, .watch, .strapPins, .toneClock, .inRestart]

section
variable {c : Prop} {s t u : State} {l : Line} {b : Bearer}

theorem Keeps.refl (s : State) : Keeps c s s := ⟨rfl, id, id, id, id, id, fun _ => id⟩

theorem Keeps.trans (h : Keeps c s t) (k : Keeps c t u) : Keeps c s u :=
  ⟨k.pending.trans h.pending, k.filter ∘ h.filter, k.ready ∘ h.ready, k.reports ∘ h.reports, k.early ∘ h.early,
    k.phases ∘ h.phases, fun hc => k.rings hc ∘ h.rings hc⟩

/-- What the invariants of the ring collections speak of: the phases and the queue, whether the wheel is stopped,
which lines are Ringing, the supply level and the classes. -/
structure SameRings (s t : State) : Prop where
  phases : t.ringer.phases = s.ringer.phases
  queue : t.ringer.queue = s.ringer.queue
  wheel : t.ringer.wheel = .stopped ↔ s.ringer.wheel = .stopped
  ringing : ∀ l : Line, t.call[l].state = .ringing ↔ s.call[l].state = .ringing
  level : t.supply.level = s.supply.level
  entries : t.entries = s.entries

theorem SameRings.room (h : SameRings s t) : t.ringRoom = s.ringRoom := by
  unfold State.ringRoom
  rw [h.level]

theorem SameRings.inCapacity (h : SameRings s t) (k : PhasesInCapacity s) : PhasesInCapacity t := fun p => by
  rw [h.phases, h.room]
  exact k p

theorem SameRings.tiedBut (h : SameRings s t) (k : RingsTiedBut l s) : RingsTiedBut l t := by
  refine ⟨fun m => ?_, fun critical p m mem ne => ?_, ?_⟩
  · simp only [Ringer.places, h.phases, h.queue, h.ringing]
    exact k.placed m
  · rw [h.level] at critical
    rw [h.phases] at mem
    rw [State.classOf, h.entries]
    exact k.atCritical critical p m mem ne
  · rw [h.wheel, k.wheel]
    simp only [ne_eq, h.ringing]

theorem SameRings.tied (h : SameRings s t) (k : RingsTied s) : RingsTied t := by
  refine .ofPlaces (fun m => ?_) (fun critical p m mem => ?_) ?_
  · exact (h.tiedBut (k.but m)).placed m
  · rw [h.level] at critical
    rw [h.phases] at mem
    rw [State.classOf, h.entries]
    exact k.atCritical critical p m mem
  · rw [h.wheel, k.wheel]
    simp only [ne_eq, h.ringing]

/-- From equal call records and ring collections. -/
theorem SameRings.ofEq (call : t.call = s.call) (ringer : t.ringer = s.ringer) (supply : t.supply = s.supply)
    (entries : t.entries = s.entries) : SameRings s t :=
  ⟨by rw [ringer], by rw [ringer], by rw [ringer], fun l => by rw [call], by rw [supply], entries⟩

theorem FilterInRange.ofEq (h : t.sup = s.sup) (k : FilterInRange s) : FilterInRange t := by
  unfold FilterInRange
  rw [h]
  exact k

theorem ReadyWhileHigh.ofEq (h : t.bus = s.bus) (k : ReadyWhileHigh s) : ReadyWhileHigh t := by
  unfold ReadyWhileHigh
  rw [h]
  exact k

theorem ReportsBounded.ofEq (h : t.reports = s.reports) (k : ReportsBounded s) : ReportsBounded t := by
  unfold ReportsBounded
  rw [h]
  exact k

theorem EarlyDigitsBounded.ofEq (h : t.call = s.call) (k : EarlyDigitsBounded s) : EarlyDigitsBounded t := by
  unfold EarlyDigitsBounded
  rw [h]
  exact k

/-- What changes other parts alone keeps the invariants. -/
theorem Keeps.ofSameBut {mine : List Part} (h : SameBut mine s t) (sub : mine ⊆ unkept) : Keeps c s t := by
  have other : SameBut unkept s t := h.mono sub
  have rings : SameRings s t := .ofEq (other .call (by decide)) (other .ringer (by decide))
    (other .supply (by decide))
    (other .entries (by decide))
  exact ⟨other .pending (by decide), .ofEq (other .sup (by decide)), .ofEq (other .bus (by decide)),
    .ofEq (other .reports (by decide)), .ofEq (other .call (by decide)), rings.inCapacity, fun _ => rings.tied⟩

/-- A further change of other parts. -/
theorem Keeps.then {mine : List Part} (h : Keeps c s t) (k : SameBut mine t u) (sub : mine ⊆ unkept) :
    Keeps c s u := h.trans (.ofSameBut k sub)

theorem Keeps.ite {d : Prop} [Decidable d] (h : d → Keeps c s t) (k : ¬d → Keeps c s u) :
    Keeps c s (if d then t else u) := by
  split
  · exact h ‹d›
  · exact k ‹¬d›

theorem Keeps.each {α : Type} (f : α → State → State) (xs : List α) (h : Keeps c s t)
    (k : ∀ x v, Keeps c v (f x v)) : Keeps c s (each xs f t) :=
  each_keeps (Keeps c s) f xs t (fun x _ v hv => hv.trans (k x v)) h

/-! ### Supervision and bus -/

/-- A write of a line's supervision state with a filtered current that is in range if the line's was. -/
theorem setSup_keeps {x : Supervision} (h : -32768 ≤ s.sup[l].f ∧ s.sup[l].f ≤ 32752 →
    -32768 ≤ x.f ∧ x.f ≤ 32752 := by exact id) : Keeps c s (s.setSup l x) := by
  have rings : SameRings s (s.setSup l x) := .ofEq rfl rfl rfl rfl
  refine ⟨rfl, fun k m => ?_, id, id, id, rings.inCapacity, fun _ => rings.tied⟩
  rw [State.setSup_sup, set_get]
  split
  · exact h (k l)
  · exact k m

/-- A write of the Bus Interface that runs the 5 ms of the ready mark only with the line high. -/
theorem setBus_keeps {x : Bus} (h : ReadyWhileHigh s → x.readyTimer ≠ none → x.lowTimer = none := by exact id) :
    Keeps c s (s.setBus x) := by
  have rings : SameRings s (s.setBus x) := .ofEq rfl rfl rfl rfl
  exact ⟨rfl, id, h, id, id, rings.inCapacity, fun _ => rings.tied⟩

/-! ### Reports -/

theorem setReports_keeps {x : Reports} (h : ReportsBounded s → x.urgent.length ≤ 16 ∧ x.routine.length ≤ 48) :
    Keeps c s (s.setReports x) :=
  ⟨rfl, id, id, h, id, id, fun _ => (SameRings.ofEq (s := s) (t := s.setReports x) rfl rfl rfl rfl).tied⟩

theorem report_keeps {urgent : Bool} {r : Report} : Keeps c s (s.report urgent r) :=
  setReports_keeps fun h => s.reports.append_bounded urgent r h

/-! ### Line records -/

/-- A line record with its early digits within bounds. -/
def CallRecord.earlyBounded (x : CallRecord) : Prop :=
  x.early.length ≤ 8 ∧ (x.state ≠ .waiting → x.state ≠ .seizing → x.early = [] ∧ x.lost = false)

theorem setCall_early {x : CallRecord} (h : EarlyDigitsBounded s) (k : x.earlyBounded)
  (call : t.call = s.call.set l x) :
    EarlyDigitsBounded t := fun m => by
  rw [call, set_get]
  split
  · exact k
  · exact h m

/-- A write of the line record that keeps whether the line is Ringing, with early digits within bounds. -/
theorem setCall_keeps {x : CallRecord} (ringing : x.state = .ringing ↔ s.call[l].state = .ringing)
    (early : s.call[l].earlyBounded → x.earlyBounded) : Keeps c s (s.setCall l x) := by
  have rings : SameRings s (s.setCall l x) := by
    refine ⟨rfl, rfl, Iff.rfl, fun m => ?_, rfl, rfl⟩
    rw [State.setCall_call, set_get]
    split
    · next e => subst e; exact ringing
    · rfl
  exact ⟨rfl, id, id, id, fun h => setCall_early h (early (h l)) rfl, rings.inCapacity, fun _ => rings.tied⟩

/-- A write of the line record that keeps the call state and the early digits. -/
theorem setCall_keeps_same {x : CallRecord} (state : x.state = s.call[l].state := by rfl)
    (early : x.early = s.call[l].early := by rfl) (lost : x.lost = s.call[l].lost := by rfl) : Keeps c s
      (s.setCall l x) := by
  refine setCall_keeps (by rw [state]) fun h => ?_
  unfold CallRecord.earlyBounded
  rw [state, early, lost]
  exact h

/-! ### Ringing -/

theorem setRinger_keeps {x : Ringer} (phases : x.phases = s.ringer.phases) (queue : x.queue = s.ringer.queue)
    (wheel : x.wheel = .stopped ↔ s.ringer.wheel = .stopped) : Keeps c s (s.setRinger x) := by
  have rings : SameRings s (s.setRinger x) := ⟨phases, queue, wheel, fun _ => Iff.rfl, rfl, rfl⟩
  exact ⟨rfl, id, id, id, id, rings.inCapacity, fun _ => rings.tied⟩

/-- The record that `enter` writes. -/
def CallRecord.entering (n old : CallRecord) : CallRecord :=
  if n.state.joined then { n with early := old.early, lost := old.lost } else { n with early := [], lost := false }

@[simp] theorem CallRecord.entering_state (n old : CallRecord) : (n.entering old).state = n.state := by
  unfold entering
  split <;> rfl

/-- `enter` before the Ring Scheduler's part. -/
def enterCall (l : Line) (n : CallRecord) (s : State) : State :=
  let s' := s.setCall l (n.entering s.call[l])
  let s' := if s.call[l].state.timed && n.state.timed then s' else s'.setBrk l {}
  if n.state.joined then s' else s'.setArrivals (s'.arbiter.arrivals.filter fun a => a.line ≠ l)

theorem enter_eq (n : CallRecord) : enter l n s =
    if s.call[l].state = .ringing ∧ n.state ≠ .ringing then ringRemove l (enterCall l n s) else enterCall l n s := rfl

theorem enterCall_frame (n : CallRecord) : (enterCall l n s).call = s.call.set l (n.entering s.call[l]) ∧
    (enterCall l n s).ringer = s.ringer ∧ (enterCall l n s).supply = s.supply ∧
    (enterCall l n s).entries = s.entries ∧ (enterCall l n s).reports = s.reports := by
  unfold enterCall
  dsimp only
  split <;> split <;> exact ⟨rfl, rfl, rfl, rfl, rfl⟩

theorem enter_call (n : CallRecord) : (enter l n s).call = s.call.set l (n.entering s.call[l]) := by
  rw [enter_frame]
  rfl

theorem entering_bounded {n old : CallRecord} (h : old.earlyBounded) : (n.entering old).earlyBounded := by
  unfold CallRecord.entering CallRecord.earlyBounded
  obtain ⟨short, -⟩ := h
  cases joined : n.state.joined with
  | false => simp
  | true =>
    refine ⟨short, fun notWaiting notSeizing => ?_⟩
    cases e : n.state <;> simp_all [CallState.joined]

/-- A line that enters a state other than Ringing leaves the ring collections tied, whatever its class has become. -/
theorem enter_tied {n : CallRecord} (h : RingsTiedBut l s) (quiet : n.state ≠ .ringing) : RingsTied (enter l n s) :=
  by
  obtain ⟨call, ringer, supply, entries, -⟩ := enterCall_frame (l := l) (s := s) n
  have state : ∀ m : Line, (enterCall l n s).call[m].state = if m = l then n.state else s.call[m].state := by
    intro m
    rw [call, set_get]
    split <;> simp
  rw [enter_eq]
  split
  · next leaves =>
    obtain ⟨callR, wheelR, supplyR, entriesR⟩ := ringRemoved_frame (l := l) (s := enterCall l n s)
    obtain ⟨phases, queue⟩ := stopWheel_phases (s := ringRemoved l (enterCall l n s))
    have stopped : SameBut [.ringer] _ (stopWheel (ringRemoved l (enterCall l n s))) := stopWheel_sameBut
    have sameCall : _ = _ := stopped .call (by decide)
    have sameSupply : _ = _ := stopped .supply (by decide)
    have sameEntries : _ = _ := stopped .entries (by decide)
    rw [ringRemove_eq]
    refine .ofPlaces (fun m => ?_) (fun critical p m mem => ?_) ?_
    · rw [Ringer.places, phases, queue, sameCall, callR, state]
      change (ringRemoved l (enterCall l n s)).ringer.places m = _
      rw [ringRemoved_places, ringer]
      by_cases e : m = l
      · rw [if_pos e, if_pos e, if_neg quiet]
      · rw [if_neg e, if_neg e, h.placed m]
    · rw [sameSupply, supplyR, supply] at critical
      rw [phases] at mem
      rw [State.classOf, sameEntries, entriesR, entries]
      rcases ringRemoved_mem mem with ⟨mem, ne⟩ | permitted
      · rw [ringer] at mem
        exact h.atCritical critical p m mem ne
      · have := permitted_atCritical permitted (by rw [supply, critical])
        rwa [State.classOf, entries] at this
    · have running : s.ringer.wheel ≠ .stopped := fun e => h.wheel.mp e l leaves.1
      rw [stopWheel_wheel, sameCall]
      by_cases any : (ringRemoved l (enterCall l n s)).anyRinging = true
      · obtain ⟨m, ringing⟩ := (anyRinging_iff).mp any
        rw [if_pos any, wheelR, ringer]
        exact ⟨fun e => absurd e running, fun none => absurd ringing (none m)⟩
      · rw [if_neg any]
        refine ⟨fun _ m ringing => any ((anyRinging_iff).mpr ⟨m, ringing⟩), fun _ => rfl⟩
  · next stays =>
    have old : s.call[l].state ≠ .ringing := fun e => stays ⟨e, quiet⟩
    have rings : SameRings s (enterCall l n s) := by
      refine ⟨by rw [ringer], by rw [ringer], by rw [ringer], fun m => ?_, by rw [supply], entries⟩
      rw [state]
      split
      · next e => rw [e]; exact iff_of_false quiet old
      · rfl
    exact (rings.tiedBut h).tied fun _ ringing => by
      rw [state, if_pos rfl] at ringing
      exact absurd ringing quiet

theorem enterCall_within {n : CallRecord} (h : PhasesInCapacity s) : PhasesInCapacity (enterCall l n s) := fun p => by
  obtain ⟨-, ringer, supply, -, -⟩ := enterCall_frame (l := l) (s := s) n
  rw [State.ringRoom, ringer, supply]
  exact h p

theorem enter_within {n : CallRecord} (h : PhasesInCapacity s) : PhasesInCapacity (enter l n s) := by
  rw [enter_eq]
  split
  · rw [ringRemove_eq]
    exact stopWheel_within (ringRemoved_within (enterCall_within h))
  · exact enterCall_within h

theorem enter_early {n : CallRecord} (h : EarlyDigitsBounded s) : EarlyDigitsBounded (enter l n s) :=
  setCall_early h (entering_bounded (h l)) (enter_call n)

theorem enter_reports {n : CallRecord} : (enter l n s).reports = s.reports := enter_sameBut .reports (by decide)

theorem enter_keeps {n : CallRecord} (quiet : n.state ≠ .ringing := by simp) : Keeps c s (enter l n s) :=
  ⟨enter_sameBut .pending (by decide), .ofEq (enter_sameBut .sup (by decide)), .ofEq (enter_sameBut .bus (by decide)),
    .ofEq enter_reports, enter_early, enter_within, fun _ h => enter_tied (h.but l) quiet⟩

/-! ### Calls -/

theorem goIdle_keeps : Keeps c s (goIdle l s) := (enter_keeps (by simp)).then callTarget_sameBut (by decide)

theorem enterLockout_keeps {k : LockoutCause} : Keeps c s (enterLockout l k s) := by
  have locked : Keeps c s (callTarget l .active (enter l (lockoutRecord k s) s)) :=
    (enter_keeps (by simp [lockoutRecord])).then callTarget_sameBut (by decide)
  unfold enterLockout
  dsimp only
  split
  · exact locked.trans goIdle_keeps
  · exact locked

theorem releaseUse_keeps {k : ReleaseCause} : Keeps c s (releaseUse l k s) := by
  unfold releaseUse
  split
  · exact (Keeps.ofSameBut clearBearer_sameBut (by decide)).trans report_keeps
  · exact .refl s

theorem answerCall_keeps : Keeps c s (answerCall l s) := by
  unfold answerCall
  split
  · exact (((Keeps.ofSameBut engage_sameBut (by decide)).trans (enter_keeps (by simp [connectedRecord]))).then
      callTarget_sameBut (by decide)).trans report_keeps
  · exact .refl s

theorem ringLimitReached_keeps : Keeps c s (ringLimitReached l s) := by
  unfold ringLimitReached
  split
  · split
    · exact ((report_keeps).then clearBearer_sameBut (by decide)).trans goIdle_keeps
    · exact goIdle_keeps
  · exact .refl s

theorem faultedRecord_state (k : FaultKind) : (faultedRecord k).state = .faulted := by cases k <;> rfl

theorem faultEntry_keeps {k : FaultKind} : Keeps c s (faultEntry l k s) :=
  (((report_keeps).trans releaseUse_keeps).trans (enter_keeps (by simp [faultedRecord_state]))).then
    callTarget_sameBut (by decide)

theorem tonePhaseEnd_keeps : Keeps c s (tonePhaseEnd l s) :=
  .ite (fun _ => Keeps.then setCall_keeps_same callTarget_sameBut (by decide)) fun _ => .refl s

theorem preemptionToneEnd_keeps : Keeps c s (preemptionToneEnd l s) :=
  .ite (fun _ => setCall_keeps_same) fun _ => .refl s

theorem howlerPhaseEnd_keeps : Keeps c s (howlerPhaseEnd l s) :=
  .ite (fun _ => Keeps.then setCall_keeps_same callTarget_sameBut (by decide)) fun _ => .refl s

theorem ringCountStep_keeps : Keeps c s (ringCountStep s) :=
  .each _ _ (setRinger_keeps rfl rfl Iff.rfl) fun _ _ => ringLimitReached_keeps

theorem phaseBoundary_keeps : Keeps c s (phaseBoundary s) := by
  unfold phaseBoundary
  split
  · exact .refl s
  · next p time running =>
    have ended : SameBut [.feed] s (each s.ringer.phases[p] (fun l => callTarget l .standby) s) :=
      .each _ _ (.refl _ s) fun _ _ => callTarget_sameBut
    have same : _ = _ := ended .ringer (by decide)
    have moved : Keeps c s ((each s.ringer.phases[p] (fun l => callTarget l .standby) s).setRinger
        { (each s.ringer.phases[p] (fun l => callTarget l .standby) s).ringer with wheel := .running (p + 1) 0 }) :=
      (Keeps.ofSameBut ended (by decide)).trans (setRinger_keeps rfl rfl (by rw [same, running]; simp))
    exact Keeps.then (.ite (fun _ => moved.trans ringCountStep_keeps) fun _ => moved) startPhase_sameBut (by decide)

/-! ### Admission -/

theorem grantBearer_keeps : Keeps c s (grantBearer l b s) :=
  (((Keeps.ofSameBut giveBearer_sameBut (by decide)).then setStanding_sameBut (by decide)).trans
    (enter_keeps (by simp [seizingRecord]))).trans
    report_keeps

theorem startHandover_keeps : Keeps c s (startHandover l b s) := by
  unfold startHandover
  split
  · exact .refl s
  · exact (((((((report_keeps).trans enterLockout_keeps).then giveBearer_sameBut (by decide)).then
      disconnect_sameBut (by decide)).then
      setStanding_sameBut (by decide)).trans enter_keeps).then setArbiter_sameBut (by decide))

theorem priorityStep_keeps : Keeps c s (priorityStep l s) := by
  unfold priorityStep
  split
  · exact .refl s
  · split
    · exact startHandover_keeps
    · exact .refl s

theorem join_keeps : Keeps c s (join l s) := by
  have joined {x : List Arrival} : Keeps c s (s.setArrivals x) := Keeps.ofSameBut setArbiter_sameBut (by decide)
  unfold join
  dsimp only
  split
  · exact joined.trans grantBearer_keeps
  · exact .ite (fun _ => joined.trans priorityStep_keeps) fun _ => joined

theorem reconsiderWaiters_keeps (ps : List Line) (s : State) : Keeps c s (reconsiderWaiters ps s) := by
  induction ps generalizing s with
  | nil => exact .refl s
  | cons p rest ih =>
    unfold reconsiderWaiters
    split
    · exact (grantBearer_keeps).trans (ih _)
    · exact priorityStep_keeps

theorem reconsider_keeps : Keeps c s (reconsider s) := reconsiderWaiters_keeps _ s

theorem reconsiderIf_keeps {a : Bool} : Keeps c s (reconsiderIf a s) :=
  .ite (fun _ => reconsider_keeps) fun _ => .refl s

theorem freedRun_keeps : Keeps c s (freedRun b s) := by
  unfold freedRun
  split
  · exact grantBearer_keeps
  · split
    · exact (Keeps.ofSameBut setArbiter_sameBut (by decide)).trans grantBearer_keeps
    · exact .refl s

theorem runIdle_keeps : Keeps c s (runIdle s) := .each _ _ (.refl s) fun _ _ => freedRun_keeps

theorem handFreed_keeps : Keeps c s (handFreed b s) := .ite (fun _ => freedRun_keeps) fun _ => .refl s

theorem placeYielded_keeps : Keeps c s (placeYielded l s) := by
  unfold placeYielded
  split
  · exact grantBearer_keeps
  · exact (Keeps.ofSameBut setStanding_sameBut (by decide)).trans (enter_keeps (by simp [waitingRecord]))

theorem handoverExpiry_keeps : Keeps c s (handoverExpiry s) := by
  unfold handoverExpiry
  split
  · exact .refl s
  · exact ((((Keeps.ofSameBut giveBearer_sameBut (by decide)).trans (enter_keeps (by simp [seizingRecord]))).trans
      report_keeps).then setArbiter_sameBut (by decide)).trans reconsider_keeps

theorem offHookHandling_keeps : Keeps c s (offHookHandling l s) :=
  .ite (fun _ => enterLockout_keeps) fun _ =>
    ((enter_keeps (by simp [waitingRecord])).then callTarget_sameBut (by decide)).trans join_keeps

/-! ### Decisions -/

/-- A ninth digit is not buffered (R80). -/
theorem callDigit_keeps {v : Nat} : Keeps c s (callDigit l v s) := by
  have buffered (h : s.call[l].state = .waiting ∨ s.call[l].state = .seizing) : Keeps c s
      (if s.call[l].early.length < Config.earlyCapacity then
        s.setCall l { s.call[l] with early := s.call[l].early ++ [v] }
      else s.setCall l { s.call[l] with lost := true }) := by
    refine .ite (fun room => setCall_keeps Iff.rfl fun _ => ?_) fun _ => setCall_keeps Iff.rfl fun bounded => ?_
    · refine ⟨by rw [List.length_append, List.length_singleton]; exact room, fun notWaiting notSeizing => ?_⟩
      exact (h.elim notWaiting notSeizing).elim
    · exact ⟨bounded.1, fun notWaiting notSeizing => (h.elim notWaiting notSeizing).elim⟩
  unfold callDigit
  dsimp only
  split
  · next h => exact buffered (.inl h)
  · next h => exact buffered (.inr h)
  · exact report_keeps
  · exact .refl s

theorem callFlash_keeps : Keeps c s (callFlash l s) := by
  unfold callFlash
  split
  · exact report_keeps
  · exact .refl s

theorem callClear_keeps : Keeps c s (callClear l s) := by
  unfold callClear
  dsimp only
  split
  · exact goIdle_keeps
  · split
    · exact (((Keeps.ofSameBut clearBearer_sameBut (by decide)).trans report_keeps).trans goIdle_keeps).trans
        reconsider_keeps
    · exact ((Keeps.ofSameBut clearBearer_sameBut (by decide)).trans report_keeps).trans goIdle_keeps
  · exact ((report_keeps).then clearBearer_sameBut (by decide)).trans goIdle_keeps
  · exact .refl s

theorem clearDecision_keeps : Keeps c s (clearDecision l s) :=
  .ite (fun _ => (callClear_keeps).then setBrk_sameBut (by decide)) fun _ => .refl s

theorem digitEnd_keeps : Keeps c s (digitEnd l s) := by
  have timed {x : BreakTiming} : Keeps c s (s.setBrk l x) := .ofSameBut setBrk_sameBut (by decide)
  unfold digitEnd
  dsimp only
  split
  · split
    · exact timed.trans callDigit_keeps
    · exact timed
  · exact .refl s

theorem breakDecision_keeps {h : Hook} : Keeps c s (breakDecision l h s) := by
  have timed {x : BreakTiming} : Keeps c s (s.setBrk l x) := .ofSameBut setBrk_sameBut (by decide)
  unfold breakDecision
  dsimp only
  split
  · exact timed
  · exact .refl s
  · exact .ite (fun _ => timed.trans callFlash_keeps) fun _ => timed

theorem sampleTick_keeps : Keeps c s (sampleTick l s) := by
  have timed {x : BreakTiming} : Keeps c s (s.setBrk l x) := .ofSameBut setBrk_sameBut (by decide)
  unfold sampleTick
  dsimp only
  split
  · split
    · exact .ite (fun _ => timed.trans clearDecision_keeps) fun _ => timed
    · exact timed
  · split
    · exact .ite (fun _ => timed.trans digitEnd_keeps) fun _ => timed
    · exact timed

theorem callHook_keeps {h : Hook} : Keeps c s (callHook l h s) := by
  unfold callHook
  split
  · exact offHookHandling_keeps
  · exact answerCall_keeps
  · exact goIdle_keeps
  · exact .refl s

theorem deliverHook_keeps : Keeps c s (deliverHook l s) := by
  have ended : Keeps c s (endQuiet s) := .ofSameBut endQuiet_sameBut (by decide)
  exact .ite (fun _ => ended.trans breakDecision_keeps) fun _ => ended.trans callHook_keeps

theorem hookDecision_keeps : Keeps c s (hookDecision l s) :=
  .ite (fun _ => Keeps.trans setSup_keeps deliverHook_keeps) fun _ => .refl s

theorem ringTripDecision_keeps : Keeps c s (ringTripDecision l s) := by
  exact .ite (fun _ => .ite (fun _ => Keeps.trans setSup_keeps answerCall_keeps) fun _ =>
    Keeps.trans setSup_keeps deliverHook_keeps) fun _ => .refl s

theorem callFault_keeps {k : FaultKind} : Keeps c s (callFault l k s) := by
  unfold callFault
  dsimp only
  split
  · exact .refl s
  · exact .refl s
  · exact .ite (fun _ => Keeps.then setCall_keeps_same callTarget_sameBut (by decide)) fun _ => .refl s
  · exact (faultEntry_keeps).trans reconsiderIf_keeps

theorem faultDecision_keeps {k : FaultKind} : Keeps c s (faultDecision l k s) :=
  .ite (fun _ => ((Keeps.then setSup_keeps endQuiet_sameBut (by decide)).then protect_sameBut (by decide)).trans
    callFault_keeps) fun _ => .refl s

theorem waitLimitExpiry_keeps : Keeps c s (waitLimitExpiry l s) := .ite (fun _ => enterLockout_keeps) fun _ => .refl s

theorem answerExpiry_keeps : Keeps c s (answerExpiry l s) :=
  .ite (fun _ => (releaseUse_keeps).trans enterLockout_keeps) fun _ => .refl s

theorem retryWaitExpiry_keeps : Keeps c s (retryWaitExpiry l s) :=
  .ite (fun _ => Keeps.then setCall_keeps_same callTarget_sameBut (by decide)) fun _ => .refl s

theorem retryLookExpiry_keeps : Keeps c s (retryLookExpiry l s) := by
  have cleared {r : Report} : Keeps c s (goIdle l (s.report true r)) := (report_keeps).trans goIdle_keeps
  unfold retryLookExpiry
  dsimp only
  split
  · split
    · exact cleared.trans offHookHandling_keeps
    · exact cleared
  · exact .refl s

/-! ### Testing -/

theorem toDisabled_keeps : Keeps c s (toDisabled l s) := ((enter_keeps (by simp)).trans
  (setSup_keeps fun _ => by decide)).then callTarget_sameBut (by decide)

theorem returnPrior_keeps {prior : CallState} : Keeps c s (returnPrior l prior s) := by
  unfold returnPrior
  dsimp only
  split
  · exact toDisabled_keeps
  · exact (enter_keeps (by simp)).then callTarget_sameBut (by decide)
  · exact (enter_keeps (by simp)).then callTarget_sameBut (by decide)
  · exact goIdle_keeps

theorem returnLine_keeps {e : EndingStatus} {v : Option Verdict} : Keeps c s (returnLine l e v s) := by
  unfold returnLine
  dsimp only
  split
  · split
    · exact toDisabled_keeps
    · exact faultEntry_keeps
  · have cleared {r : Report} : Keeps c s (goIdle l (s.report true r)) := (report_keeps).trans goIdle_keeps
    split
    · split
      · exact cleared.trans offHookHandling_keeps
      · exact cleared
    · exact returnPrior_keeps
  · exact returnPrior_keeps

theorem endSession_keeps {x : Session} : Keeps c s (endSession x s) :=
  ((((Keeps.ofSameBut setTest_sameBut (by decide)).trans report_keeps).trans setSup_keeps).trans
    returnLine_keeps).then
    handback_sameBut (by decide)

theorem yieldSession_keeps {x : Session} : Keeps c s (yieldSession x s) :=
  ((((Keeps.ofSameBut setTest_sameBut (by decide)).trans report_keeps).trans setSup_keeps).trans
    offHookHandling_keeps).then
    handback_sameBut (by decide)

theorem lookOffHook_keeps : Keeps c s (lookOffHook s) := by
  unfold lookOffHook
  split
  · exact .ite (fun _ => yieldSession_keeps) fun _ => .refl s
  · exact .refl s

theorem lookSample_keeps {v : Int} : Keeps c s (lookSample l v s) := by
  unfold lookSample
  split
  · exact .refl s
  · exact .ite (fun _ => .ite (fun _ => yieldSession_keeps) fun _ => .ofSameBut setSession_sameBut (by decide)) fun
      _ => .refl s

theorem finishDisconnect_keeps {x : Session} : Keeps c s (finishDisconnect x s) :=
  .ite (fun _ => endSession_keeps) fun _ => .refl s

theorem disconnectExpiry_keeps : Keeps c s (disconnectExpiry s) := by
  unfold disconnectExpiry
  split
  · exact .ite (fun _ => (Keeps.ofSameBut setSession_sameBut (by decide)).trans finishDisconnect_keeps) fun _ =>
      .refl s
  · exact .refl s

theorem targetReached_keeps : Keeps c s (targetReached l s) := by
  unfold targetReached
  split
  · exact .refl s
  · refine .ite (fun _ => ?_) fun _ => .refl s
    split
    · exact .ofSameBut finishConnect_sameBut (by decide)
    · exact .ofSameBut setSession_sameBut (by decide)
    · exact .ofSameBut beginMeasurement_sameBut (by decide)
    · exact finishDisconnect_keeps
    · exact .refl s

theorem settleEnd_keeps : Keeps c s (settleEnd l s) := by
  have settled {x : Feed} : Keeps c s (s.setFeed l x) := .ofSameBut setFeed_sameBut (by decide)
  exact .ite (fun _ => .ite (fun _ => settled.trans targetReached_keeps) fun _ => settled) fun _ => .refl s

theorem startSession_keeps {mode : TestMode} {ms : List Measurement} : Keeps c s (startSession l mode ms s) :=
  ((((Keeps.ofSameBut setTest_sameBut (by decide)).trans (enter_keeps (by simp [CallRecord.suspend]))).then
    setFeed_sameBut
    (by decide)).then
    endQuiet_sameBut (by decide)).then testTarget_sameBut (by decide)

/-! ### Supply -/

/-- What a phase keeps at a fall and what it gives up are its lines, if it held each once. -/
theorem keptAtFall_count {lv : Level} {lines : List Line} {m : Line} (once : lines.count m ≤ 1) :
    (keptAtFall s lv lines).count m + (movedAtFall s lv lines).count m = lines.count m := by
  have sub : (keptAtFall s lv lines).Sublist lines := (List.take_sublist _ _).trans List.filter_sublist
  have atMost := sub.count_le m
  unfold movedAtFall
  by_cases mem : m ∈ keptAtFall s lv lines
  · have kept : 0 < (keptAtFall s lv lines).count m := List.count_pos_iff.mpr mem
    have moved : (lines.filter fun l => decide (l ∉ keptAtFall s lv lines)).count m = 0 := by
      simp [List.count_eq_zero, mem]
    omega
  · rw [List.count_eq_zero.mpr mem, List.count_filter (by simpa using mem), Nat.zero_add]

/-- The state of a fall before its fill. -/
def ringFallen (s : State) : State :=
  let lv := s.supply.level
  let moved := (List.finRange 4).flatMap fun p => movedAtFall s lv s.ringer.phases[p]
  each moved (fun l => callTarget l .standby) (s.setRinger { s.ringer with
    phases := tabulate fun p => keptAtFall s lv s.ringer.phases[p]
    queue := moved ++ s.ringer.queue })

theorem ringFall_eq : ringFall s = fill (ringFallen s) := rfl

theorem ringFallen_frame : SameBut [.feed] (s.setRinger { s.ringer with
    phases := tabulate fun p => keptAtFall s s.supply.level s.ringer.phases[p]
    queue := ((List.finRange 4).flatMap fun p => movedAtFall s s.supply.level s.ringer.phases[p]) ++ s.ringer.queue })
    (ringFallen s) := .each _ _ (.refl _ _) fun _ _ => callTarget_sameBut

theorem ringFallen_places {m : Line} (once : s.ringer.places m ≤ 1) :
    (ringFallen s).ringer.places m = s.ringer.places m := by
  have ringer : (ringFallen s).ringer = _ := ringFallen_frame .ringer (by decide)
  have few : ∀ p : Fin 4, s.ringer.phases[p].count m ≤ 1 := fun p => by
    have le : s.ringer.phases[p].count m ≤ (phaseLines s.ringer.phases).count m := by
      simp only [phaseLines, List.count_append]
      match p with
      | 0 | 1 | 2 | 3 => omega
    exact le.trans ((Nat.le_add_right _ _).trans once)
  have c0 := keptAtFall_count (s := s) (lv := s.supply.level) (few 0)
  have c1 := keptAtFall_count (s := s) (lv := s.supply.level) (few 1)
  have c2 := keptAtFall_count (s := s) (lv := s.supply.level) (few 2)
  have c3 := keptAtFall_count (s := s) (lv := s.supply.level) (few 3)
  rw [ringer]
  simp only [Ringer.places, phaseLines, State.setRinger_ringer, tabulate_get, List.count_append,
    show (List.finRange 4) = [0, 1, 2, 3] from rfl, List.flatMap_cons, List.flatMap_nil, List.count_nil]
  omega

theorem keptAtFall_mem {lv : Level} {lines : List Line} {m : Line} (h : m ∈ keptAtFall s lv lines) :
    lv.permits (s.classOf m) = true := by
  have := List.mem_of_mem_take h
  simpa using (List.mem_filter.mp this).2

theorem ringFall_within : PhasesInCapacity (ringFall s) := by
  rw [ringFall_eq]
  refine fill_within fun p => ?_
  have ringer : (ringFallen s).ringer = _ := ringFallen_frame .ringer (by decide)
  have supply : (ringFallen s).supply = _ := ringFallen_frame .supply (by decide)
  rw [← ringCapacity_eq_ringRoom, ringer, supply]
  simp only [State.setRinger_ringer, State.setRinger_supply, tabulate_get]
  exact List.length_take_le _ _

/-- A fall ties the ring collections to the level that it falls to. -/
theorem ringFall_tied (placed : ∀ m : Line, s.ringer.places m = if s.call[m].state = .ringing then 1 else 0)
    (wheel : s.ringer.wheel = .stopped ↔ ∀ m : Line, s.call[m].state ≠ .ringing) : RingsTied (ringFall s) := by
  have ringer : (ringFallen s).ringer = _ := ringFallen_frame .ringer (by decide)
  have supply : (ringFallen s).supply = _ := ringFallen_frame .supply (by decide)
  have call : (ringFallen s).call = _ := ringFallen_frame .call (by decide)
  have entries : (ringFallen s).entries = _ := ringFallen_frame .entries (by decide)
  rw [ringFall_eq]
  refine fill_tied (.ofPlaces (fun m => ?_) (fun critical p m mem => ?_) ?_)
  · have once : s.ringer.places m ≤ 1 := by rw [placed]; split <;> simp
    rw [ringFallen_places once, placed, call]
    rfl
  · rw [ringer] at mem
    simp only [State.setRinger_ringer, tabulate_get] at mem
    rw [supply] at critical
    have permitted := keptAtFall_mem mem
    rw [State.classOf, entries]
    exact permitted_atCritical (s := s) permitted critical
  · rw [ringer, call]
    exact wheel

/-- A rise takes no room from the phases, and is not to Critical. -/
theorem rise_room {old lv : Level} (differs : lv ≠ old) (rises : ¬old.code < lv.code) :
    lv ≠ .critical ∧ old.ringCapacity ≤ lv.ringCapacity := by
  cases old <;> cases lv <;> simp [Level.code, Level.ringCapacity] at differs rises ⊢

theorem ringLevel_keeps {lv : Level} (differs : lv ≠ s.supply.level) (r : Report) :
    Keeps c s (if s.supply.level.code < lv.code
      then ringFall ((s.setSupply { s.supply with level := lv }).report true r)
      else fill ((s.setSupply { s.supply with level := lv }).report true r)) := by
  have reported : ReportsBounded s → ReportsBounded ((s.setSupply { s.supply with level := lv }).report true r) :=
    s.reports.append_bounded true r
  split
  · refine ⟨ringFall_sameBut .pending (by decide), fun h => ?_, fun h => ?_, fun h => ?_, fun h => ?_,
      fun _ => ringFall_within, fun _ h => ringFall_tied h.places h.wheel⟩
    · exact FilterInRange.ofEq (s := s) (ringFall_sameBut .sup (by decide)) h
    · exact ReadyWhileHigh.ofEq (s := s) (ringFall_sameBut .bus (by decide)) h
    · exact (reported h).ofEq (ringFall_sameBut .reports (by decide))
    · exact EarlyDigitsBounded.ofEq (s := s) (ringFall_sameBut .call (by decide)) h
  · next rises =>
    obtain ⟨notCritical, roomier⟩ := rise_room differs rises
    refine ⟨rfl, id, id, reported, id, fun h => fill_within fun p => ?_, fun _ h => fill_tied ?_⟩
    · rw [← ringCapacity_eq_ringRoom]
      refine Nat.le_trans ?_ roomier
      rw [ringCapacity_eq_ringRoom]
      exact h p
    · exact .ofPlaces h.places (fun critical => absurd critical notCritical) h.wheel

theorem levelChange_keeps {lv : Level} (differs : lv ≠ s.supply.level) : Keeps c s (levelChange lv s) := by
  have changed := ringLevel_keeps (c := c) differs
    { kind := .supply, value := some (supplyValue lv s.supply.dip) }
  have run : Keeps c s (if s.supply.level.code < lv.code
      then ringFall ((s.setSupply { s.supply with level := lv }).report true
        { kind := .supply, value := some (supplyValue lv s.supply.dip) })
      else runIdle (fill ((s.setSupply { s.supply with level := lv }).report true
        { kind := .supply, value := some (supplyValue lv s.supply.dip) }))) := by
    split at changed
    · next falls => rw [if_pos falls]; exact changed
    · next rises => rw [if_neg rises]; exact changed.trans runIdle_keeps
  exact .ite (fun _ => run.then cutShort_sameBut (by decide)) fun _ => run

/-- A write of the Supply Watch that keeps the level. -/
theorem setSupply_keeps {x : Supply} (level : x.level = s.supply.level := by rfl) : Keeps c s (s.setSupply x) := by
  have rings : SameRings s (s.setSupply x) := ⟨rfl, rfl, Iff.rfl, fun _ => Iff.rfl, level, rfl⟩
  exact ⟨rfl, id, id, id, id, rings.inCapacity, fun _ => rings.tied⟩

theorem supplySample_keeps {v : Int} : Keeps c s (supplySample v s) :=
  .ite (fun _ => .refl s) fun _ => .ite
    (fun _ => .ite (fun _ => (setSupply_keeps).trans (setSupply_keeps)) fun differs =>
      ((setSupply_keeps).trans (setSupply_keeps)).trans (levelChange_keeps differs))
    fun _ => setSupply_keeps

/-! ### Samples, the control monitor, the audit -/

theorem event_keeps {f : State → State} (h : Keeps c s (f s)) : Keeps c s (event f s) := h.then (event_sameBut f s)
  (by decide)

theorem lineSample_keeps {v : Int} {ringTrip : Bool} (low : -2048 ≤ v) (high : v ≤ 2047) :
    Keeps c s (lineSample l v ringTrip s) := by
  have sampled {x : Supervision} (h : x.f = filterUpdate (s.profileOf l).k.toNat s.sup[l].f v) :
      Keeps c s (s.setSup l x) := setSup_keeps fun ⟨lowF, highF⟩ => by
    rw [h]
    exact filterUpdate_inRange low high lowF highF
  unfold lineSample
  dsimp only
  split
  · exact .refl s
  · exact (sampled (Supervision.sampleTesting_f ..)).trans lookSample_keeps
  · have decided {x : Supervision} (h : x.f = filterUpdate (s.profileOf l).k.toNat s.sup[l].f v) : Keeps c s
        (match x.decision (s.profileOf l).m.toNat with
          | .none => s.setSup l x
          | .hook => hookDecision l (s.setSup l x)
          | .fault k => faultDecision l k (s.setSup l x)
          | .ringTrip => ringTripDecision l (s.setSup l x)) := by
      split
      · exact sampled h
      · exact (sampled h).trans hookDecision_keeps
      · exact (sampled h).trans faultDecision_keeps
      · exact (sampled h).trans ringTripDecision_keeps
    have moved := decided (Supervision.sample_f s.sup[l] (s.profileOf l) s.feed[l] v ringTrip)
    exact .ite (fun _ => moved.trans sampleTick_keeps) fun _ => moved

/-- A converted current is within the converter's range (R3). -/
theorem convertSense_range (current : Int) : -2048 ≤ convertSense current ∧ convertSense current ≤ 2047 := by
  unfold convertSense clampInt
  omega

theorem visit_keeps {current : Int} {ringTrip : Bool} : Keeps c s (visit l current ringTrip s) :=
  have ⟨low, high⟩ := convertSense_range current
  .ite (fun _ => .refl s) fun _ => (Keeps.ofSameBut setScanner_sameBut (by decide)).trans (lineSample_keeps low high)

theorem isolateLine_keeps : Keeps c s (isolateLine l s) := by
  unfold isolateLine
  split
  · exact enterLockout_keeps
  · exact (releaseUse_keeps).trans enterLockout_keeps
  · exact .refl s

theorem countdownExpiry_keeps : Keeps c s (countdownExpiry s) :=
  .ite (fun _ => Keeps.then (.each _ allLines (.ofSameBut setMonitor_watch_sameBut (by decide)) fun _ _ =>
    isolateLine_keeps) setArbiter_sameBut (by decide)) fun _ => .refl s

theorem reloadMonitor_keeps : Keeps c s (reloadMonitor s) := by
  have reloaded : Keeps c s (if s.monitor.isolated then
      (s.setMonitor { s.monitor with isolated := false }).report true { kind := .controlRestored } else s) :=
    .ite (fun _ => (Keeps.ofSameBut setMonitor_watch_sameBut (by decide)).trans report_keeps) fun _ => .refl s
  exact .ite (fun _ => reloaded.then setMonitor_watch_sameBut (by decide)) fun _ => reloaded

theorem resetEnabledCounts_keeps : Keeps c s (resetEnabledCounts s) :=
  .each _ allLines (.refl s) fun _ v => .ite (fun _ => setSup_keeps) fun _ => .refl v

theorem revertTables_keeps : Keeps c s (revertTables s) :=
  (((((Keeps.ofSameBut setTables_sameBut (by decide)).then recomputeReference_sameBut (by decide)).trans
    resetEnabledCounts_keeps).then
    quietDelayWritten_sameBut (by decide)).then setArbiter_sameBut (by decide)).trans runIdle_keeps

theorem auditExpiry_keeps : Keeps c s (auditExpiry s) := by
  have started {x : Option Nat} : Keeps c s (s.setMonitor { s.monitor with audit := x }) :=
    .ofSameBut setMonitor_watch_sameBut (by decide)
  exact .ite (fun _ => .ite (fun _ => started) fun _ => (started.trans report_keeps).trans revertTables_keeps)
    fun _ => .refl s

end

end Sys2Proof.Machine
end

section
/-! What requests, frames, restarts and one millisecond keep of the report queues, the early digits and the ring
collections, and with it the invariants of one part. -/

namespace Sys2Proof.Machine

/-! ## Requests -/

/-- Every Ringing line is enabled, as the tied call records have it. -/
def RingingEnabled (s : State) : Prop := ∀ l : Line, s.call[l].state = .ringing → s.entries[l].enabled = true

theorem CallsTied.ringingEnabled {s : State} (h : CallsTied s) : RingingEnabled s := fun l ringing => by
  by_contra off
  have := (h.disabled l).mp (by simpa using off)
  rw [ringing] at this
  simp at this

/-- A request that keeps the invariants, where the condition has every Ringing line enabled. -/
def Request.Keeps (c : Prop) (q : Request) : Prop := ∀ s, (c → RingingEnabled s) → Machine.Keeps c s (q s).1

section
variable {c : Prop} {s t u : State} {l : Line} {b : Bearer} {q : Request}

theorem Keeps.choice {d : Prop} [Decidable d] {x y : State × Reply} (h : d → Keeps c s x.1) (k : ¬d → Keeps c s y.1) :
    Keeps c s (if d then x else y).1 := by
  split
  · exact h ‹d›
  · exact k ‹¬d›

theorem Request.Changes.keeps {parts : List Part} (h : q.Changes parts) (sub : parts ⊆ unkept) :
    q.Keeps c := fun s _ => .ofSameBut (h s) sub

theorem refuseWith_keeps {k : Cause} : (refuseWith k).Keeps c := fun s _ => .refl s

theorem onLine_keeps {f : Line → Request} {line : Byte} (h : ∀ l, (f l).Keeps c) : (onLine line f).Keeps c := by
  unfold onLine
  split
  · exact h _
  · exact refuseWith_keeps

theorem onBearer_keeps {f : Bearer → Request} {bearer : Byte} (h : ∀ b, (f b).Keeps c) :
    (onBearer bearer f).Keeps c := by
  unfold onBearer
  split
  · exact h _
  · exact refuseWith_keeps

theorem linkLost_keeps : Keeps c s (linkLost l s) := by
  unfold linkLost
  split
  · split
    · exact enterLockout_keeps
    · exact goIdle_keeps
  · exact enterLockout_keeps
  · exact goIdle_keeps
  · exact .refl s

theorem reqLinkDown_keeps : reqLinkDown.Keeps c := fun s _ => by
  have down {x : BearerTable} : Keeps c s ((s.setBearers x).setHandover none) :=
    (Keeps.ofSameBut setBearers_sameBut (by decide)).then setArbiter_sameBut (by decide)
  unfold reqLinkDown
  split
  · dsimp only
    exact .each linkLost allLines down fun _ _ => linkLost_keeps
  · exact .refl s

theorem reqBearerCheck_keeps {bearers : Word16} : (reqBearerCheck bearers).Keeps c := fun s _ =>
  .choice (fun _ => .refl s) fun _ => .choice (fun _ => .refl s) fun _ =>
    .each _ _ (.each _ _ (.refl s) fun _ _ => .ofSameBut setBearer_sameBut (by decide)) fun _ _ => freedRun_keeps

theorem reqUnbar_keeps {bearer : Byte} : (reqUnbar bearer).Keeps c := by
  refine onBearer_keeps fun b s _ => ?_
  dsimp only
  split
  · exact .refl s
  · exact (Keeps.ofSameBut setBearer_sameBut (by decide)).trans freedRun_keeps
  · exact .ofSameBut setBearer_sameBut (by decide)

theorem reqReleaseAcknowledge_keeps {bearer : Byte} : (reqReleaseAcknowledge bearer).Keeps c :=
  onBearer_keeps fun _ s _ =>
    .choice (fun _ => (Keeps.ofSameBut setBearer_sameBut (by decide)).trans handFreed_keeps) fun _ => .refl s

theorem judgeLate_keeps : Keeps c s (judgeLate l b s).1 := .choice (fun _ => .refl s) fun _ => .refl s

theorem flushDigits_keeps : Keeps c s (flushDigits l b s) := by
  have digits : Keeps c s (each s.call[l].early (fun v s => s.lineReport .digit l (some b) (some v)) s) :=
    .each _ _ (.refl s) fun _ _ => report_keeps
  exact .ite (fun _ => digits.trans report_keeps) fun _ => digits

theorem reqGrant_keeps {line bearer : Byte} : (reqGrant line bearer).Keeps c :=
  onLine_keeps fun _ => onBearer_keeps fun _ _ _ => .choice
    (fun _ => ((Keeps.ofSameBut engage_sameBut (by decide)).trans flushDigits_keeps).trans
      (enter_keeps (by simp [connectedRecord])))
    fun _ => judgeLate_keeps

theorem refuseSeize_keeps : Keeps c s (refuseSeize l b s) :=
  ((Keeps.ofSameBut freeBearer_sameBut (by decide)).trans enterLockout_keeps).trans handFreed_keeps

theorem reqRefuse_keeps {line bearer : Byte} : (reqRefuse line bearer).Keeps c :=
  onLine_keeps fun _ => onBearer_keeps fun _ _ _ => .choice (fun _ => refuseSeize_keeps) fun _ => judgeLate_keeps

theorem releaseConnected_keeps : Keeps c s (releaseConnected l b s) := by
  have freed : Keeps c s (freeBearer b s) := .ofSameBut freeBearer_sameBut (by decide)
  unfold releaseConnected
  refine Keeps.trans ?_ handFreed_keeps
  split
  · exact freed.trans enterLockout_keeps
  · exact freed.trans goIdle_keeps

theorem releaseRinging_keeps : Keeps c s (releaseRinging l b s) :=
  ((Keeps.ofSameBut freeBearer_sameBut (by decide)).trans goIdle_keeps).trans handFreed_keeps

theorem reqRelease_keeps {line bearer : Byte} : (reqRelease line bearer).Keeps c :=
  onLine_keeps fun _ => onBearer_keeps fun _ _ _ =>
    .choice (fun _ => refuseSeize_keeps) fun _ => .choice (fun _ => releaseConnected_keeps) fun _ =>
      .choice (fun _ => releaseRinging_keeps) fun _ => judgeLate_keeps

/-! ### A line that enters Ringing -/

theorem place_count (m : Line) : (place l s).ringer.places m = s.ringer.places m + if l = m then 1 else 0 := by
  unfold place
  dsimp only
  split
  · simp only [Ringer.places, State.setRinger_ringer, phaseLines_append_count]
    omega
  · simp only [Ringer.places, State.setRinger_ringer, List.count_append, List.count_singleton, beq_iff_eq]
    omega

theorem place_mem {p : Fin 4} {m : Line} (h : m ∈ (place l s).ringer.phases[p]) :
    m ∈ s.ringer.phases[p] ∨ m = l ∧ s.permitted l = true := by
  unfold place at h
  dsimp only at h
  split at h
  · next permitted _ =>
    simp only [State.setRinger_ringer, append_get] at h
    split at h
    · next e =>
      rcases List.mem_append.mp h with h | h
      · exact .inl (e ▸ h)
      · exact .inr ⟨List.mem_singleton.mp h, permitted⟩
    · exact .inl h
  · exact .inl h

theorem place_within (h : PhasesInCapacity s) : PhasesInCapacity (place l s) := by
  unfold place
  dsimp only
  split
  · next p _ best =>
    intro q
    have within : ∀ q : Fin 4, s.ringer.phases[q].length ≤ s.supply.level.ringCapacity := by
      rw [ringCapacity_eq_ringRoom]
      exact h
    have placed := append_within (l := l) within ((bestPhase_eq_some_iff).mp best) q
    rwa [ringCapacity_eq_ringRoom] at placed
  · exact h

theorem startWheel_ringer : (startWheel s).ringer.phases = s.ringer.phases ∧
    (startWheel s).ringer.queue = s.ringer.queue ∧ (startWheel s).ringer.wheel ≠ .stopped := by
  unfold startWheel
  split
  · have started : (startPhase 0 (s.setRinger { s.ringer with wheel := .running 0 0 })).ringer = _ :=
      startPhase_sameBut .ringer (by decide)
    rw [started]
    exact ⟨rfl, rfl, by simp⟩
  · next p n running => exact ⟨rfl, rfl, by simp [running]⟩

theorem placeStart_sameBut : SameBut [.ringer, .feed] s (startWheel (place l s)) :=
  ((SameBut.refl _ s).then place_sameBut (by decide)).then startWheel_sameBut (by decide)

/-- The placement of a Ringing line that has no place yet, and the start of the wheel, tie the ring collections. -/
theorem placeStart_tied (ringing : s.call[l].state = .ringing)
    (placed : ∀ m : Line, s.ringer.places m = if m ≠ l ∧ s.call[m].state = .ringing then 1 else 0)
    (atCritical : s.supply.level = .critical → ∀ (p : Fin 4) (m : Line), m ∈ s.ringer.phases[p] →
      s.classOf m = .priority) : RingsTied (startWheel (place l s)) := by
  obtain ⟨phases, queue, wheel⟩ := startWheel_ringer (s := place l s)
  have call : (startWheel (place l s)).call = s.call := placeStart_sameBut .call (by decide)
  have supply : (startWheel (place l s)).supply = s.supply := placeStart_sameBut .supply (by decide)
  have entries : (startWheel (place l s)).entries = s.entries := placeStart_sameBut .entries (by decide)
  refine .ofPlaces (fun m => ?_) (fun critical p m mem => ?_) ?_
  · rw [Ringer.places, phases, queue, call]
    change (place l s).ringer.places m = _
    rw [place_count, placed]
    by_cases e : m = l
    · rw [e, if_neg (fun h => h.1 rfl), if_pos rfl, if_pos ringing]
    · rw [if_neg fun h : l = m => e h.symm]
      simp only [ne_eq, e, not_false_eq_true, true_and, Nat.add_zero]
  · rw [supply] at critical
    rw [phases] at mem
    rw [State.classOf, entries]
    rcases place_mem mem with mem | ⟨rfl, permitted⟩
    · exact atCritical critical p m mem
    · exact permitted_atCritical permitted critical
  · rw [call]
    exact iff_of_false wheel fun quiet => quiet l ringing

theorem placeStart_within (h : PhasesInCapacity s) : PhasesInCapacity (startWheel (place l s)) := fun p => by
  obtain ⟨phases, -, -⟩ := startWheel_ringer (s := place l s)
  have supply : (startWheel (place l s)).supply = (place l s).supply := startWheel_sameBut .supply (by decide)
  rw [phases, State.ringRoom, supply]
  exact place_within h p

/-- The ring collections take in a line that enters Ringing. -/
theorem startRinging_keeps (idle : s.call[l].state ≠ .ringing) : Keeps c s (startRinging l b s) := by
  let n : CallRecord := { state := .ringing, bearer := some b }
  let v := callTarget l .standby (enter l n (giveBearer b .reserved l s))
  have entered : enter l n (giveBearer b .reserved l s) = enterCall l n (giveBearer b .reserved l s) := by
    rw [enter_eq, if_neg fun h => h.2 rfl]
  obtain ⟨call, ringer, supply, entries, reports⟩ := enterCall_frame (l := l) (s := giveBearer b .reserved l s) n
  rw [← entered] at call ringer supply entries reports
  have sameCall : v.call = s.call.set l (n.entering s.call[l]) := call
  have state : ∀ m : Line, v.call[m].state = if m = l then .ringing else s.call[m].state := by
    intro m
    rw [sameCall, set_get]
    split <;> simp [n]
  have sameRinger : v.ringer = s.ringer := ringer
  have sameSupply : v.supply = s.supply := supply
  have sameEntries : v.entries = s.entries := entries
  have within (h : PhasesInCapacity s) : PhasesInCapacity v := fun p => by
    rw [State.ringRoom, sameRinger, sameSupply]
    exact h p
  change Keeps c s (startWheel (place l v))
  have pending : v.pending = s.pending := enter_sameBut (l := l) (n := n) (s := giveBearer b .reserved l s) .pending
    (by decide)
  have sup : v.sup = s.sup := enter_sameBut (l := l) (n := n) (s := giveBearer b .reserved l s) .sup (by decide)
  have bus : v.bus = s.bus := enter_sameBut (l := l) (n := n) (s := giveBearer b .reserved l s) .bus (by decide)
  refine ⟨(placeStart_sameBut .pending (by decide)).trans pending, .ofEq
    ((placeStart_sameBut .sup (by decide)).trans sup),
    .ofEq ((placeStart_sameBut .bus (by decide)).trans bus),
    .ofEq ((placeStart_sameBut .reports (by decide)).trans reports), fun h =>
    setCall_early h (entering_bounded (h l)) ((placeStart_sameBut .call (by decide)).trans sameCall),
    fun h => placeStart_within (within h), fun _ h => placeStart_tied (by rw [state, if_pos rfl]) (fun m => ?_) ?_⟩
  · rw [sameRinger, h.places, state]
    by_cases e : m = l
    · rw [e, if_neg idle, if_neg fun k => k.1 rfl]
    · simp only [ne_eq, e, not_false_eq_true, true_and, if_false]
  · rw [sameSupply, sameRinger]
    simp only [State.classOf, sameEntries]
    exact h.atCritical

theorem withdrawOwn_keeps : Keeps c s (withdrawOwn l s) := by
  unfold withdrawOwn
  split
  · exact .ite (fun _ => (Keeps.ofSameBut clearBearer_sameBut (by decide)).trans report_keeps)
      fun _ => (Keeps.ofSameBut clearBearer_sameBut (by decide)).trans report_keeps
  · exact .refl s

theorem acceptIncoming_keeps {ring : Bool} : Keeps c s (acceptIncoming l b ring s) := by
  have connects : Keeps c s (enter l (connectedRecord b) (engage b l s)) :=
    (Keeps.ofSameBut engage_sameBut (by decide)).trans (enter_keeps (by simp [connectedRecord]))
  unfold acceptIncoming
  split
  · next idle =>
    exact .ite (fun _ => startRinging_keeps (by rw [idle]; decide)) fun _ => connects.then callTarget_sameBut
      (by decide)
  · exact (((withdrawOwn_keeps).then engage_sameBut (by decide)).trans
      (enter_keeps (by simp [connectedRecord]))).trans report_keeps

theorem carryIncoming_keeps {ring : Bool} : Keeps c s (carryIncoming l b ring s) := by
  unfold carryIncoming
  dsimp only
  refine Keeps.trans (Keeps.trans ?_ acceptIncoming_keeps) reconsiderIf_keeps
  split
  · exact placeYielded_keeps
  · exact .refl s

theorem reqIncoming_keeps {line bearer ring : Byte} : (reqIncoming line bearer ring).Keeps c := fun s _ => by
  have ended : Keeps c s (endQuiet s) := .ofSameBut endQuiet_sameBut (by decide)
  unfold reqIncoming
  dsimp only
  split
  · refine .choice (fun _ => ended) fun _ => ?_
    split
    all_goals first
      | exact ended
      | exact .choice (fun _ => ended.trans carryIncoming_keeps) fun _ => ended
  · exact ended

theorem reqTestLine_keeps {line measurements mode : Byte} : (reqTestLine line measurements mode).Keeps c :=
  onLine_keeps fun _ s _ => .choice (fun _ => .refl s) fun _ => .choice (fun _ => .refl s) fun _ =>
    .choice (fun _ => .refl s) fun _ => .choice (fun _ => startSession_keeps) fun _ => .refl s

/-! ### Set Line -/

/-- Line `l` moves from a phase to the head of the queue. -/
def ringDemoted (l : Line) (p : Fin 4) (s : State) : State :=
  s.setRinger { s.ringer with
    phases := s.ringer.phases.set p (s.ringer.phases[p].filter fun x => x ≠ l), queue := l :: s.ringer.queue }

theorem ringDemoted_mem {p q : Fin 4} {m : Line} (h : m ∈ (ringDemoted l p s).ringer.phases[q]) :
    m ∈ s.ringer.phases[q] ∧ (q = p → m ≠ l) := by
  simp only [ringDemoted, State.setRinger_ringer, set_get] at h
  split at h
  · next e =>
    obtain ⟨mem, ne⟩ := List.mem_filter.mp h
    exact ⟨e ▸ mem, fun _ => by simpa using ne⟩
  · next ne => exact ⟨h, fun e => absurd e ne⟩

theorem count_filter_ne (lines : List Line) (l m : Line) :
    (lines.filter fun x => x ≠ l).count m = if m = l then 0 else lines.count m := by
  split
  · next e => subst e; simp [List.count_eq_zero]
  · next ne => exact List.count_filter (by simpa using ne)

/-- The phases without line `l` in phase `p`: all that is lost is `l`'s place there. -/
theorem phaseLines_set_filter (ph : PhaseLists) (p : Fin 4) (l m : Line) :
    (phaseLines (ph.set p (ph[p].filter fun x => x ≠ l))).count m + (if m = l then ph[p].count l else 0) =
      (phaseLines ph).count m := by
  simp only [phaseLines, set_get, List.count_append]
  match p with
  | 0 | 1 | 2 | 3 =>
    simp only [Fin.reduceEq, if_true, if_false, count_filter_ne]
    split
    · next e => subst e; omega
    · omega

theorem ringDemoted_places {p : Fin 4} (one : s.ringer.phases[p].count l = 1) (m : Line) :
    (ringDemoted l p s).ringer.places m = s.ringer.places m := by
  have moved := phaseLines_set_filter s.ringer.phases p l m
  simp only [Ringer.places, ringDemoted, State.setRinger_ringer, List.count_cons, beq_iff_eq]
  rw [one] at moved
  by_cases e : m = l
  · rw [if_pos e] at moved
    rw [if_pos e.symm]
    omega
  · rw [if_neg e] at moved
    rw [if_neg fun k : l = m => e k.symm]
    omega

theorem ringDemoted_within {p : Fin 4} (h : PhasesInCapacity s) : PhasesInCapacity (ringDemoted l p s) := fun q => by
  refine Nat.le_trans ?_ (h q)
  simp only [ringDemoted, State.setRinger_ringer, set_get]
  split
  · next e => subst e; exact List.length_filter_le _ _
  · exact Nat.le_refl _

/-- What a change of class at Critical does to the ring collections (R132), by the line's place and class. -/
theorem ringClassChange_cases : (ringClassChange l s = s ∧ (s.supply.level = .critical → s.ringer.phaseOf l = none)) ∨
    (ringClassChange l s = fill s ∧ s.permitted l = true) ∨
    ∃ p, s.ringer.phaseOf l = some p ∧ ringClassChange l s = fill (callTarget l .standby (ringDemoted l p s)) := by
  unfold ringClassChange
  split
  · split
    · next permitted => exact .inr (.inl ⟨rfl, permitted⟩)
    · split
      · next p found => exact .inr (.inr ⟨p, found, rfl⟩)
      · next out => exact .inl ⟨rfl, fun _ => out⟩
  · next notCritical => exact .inl ⟨rfl, fun critical => absurd critical notCritical⟩

theorem phaseOf_mem {r : Ringer} {p : Fin 4} (h : r.phaseOf l = some p) : l ∈ r.phases[p] := by
  simpa using List.find?_some h

theorem phaseOf_none {r : Ringer} (h : r.phaseOf l = none) (p : Fin 4) : l ∉ r.phases[p] := by
  simpa using List.find?_eq_none.mp h p (List.mem_finRange p)

theorem ringClassChange_tied (h : RingsTiedBut l s) : RingsTied (ringClassChange l s) := by
  rcases ringClassChange_cases (l := l) (s := s) with ⟨same, out⟩ | ⟨filled, permitted⟩ | ⟨p, found, demoted⟩
  · rw [same]
    exact .ofPlaces h.placed (fun critical p m mem => h.atCritical critical p m mem fun e =>
      phaseOf_none (out critical) p (e ▸ mem)) h.wheel
  · rw [filled]
    exact fill_tied (h.tied fun critical _ => permitted_atCritical permitted critical)
  · have mem := phaseOf_mem found
    have one := h.placed l
    rw [if_pos (ringing_of_mem h.placed mem)] at one
    have once : ∀ q : Fin 4, q ≠ p → l ∉ s.ringer.phases[q] := by
      intro q ne mem'
      have := List.count_pos_iff.mpr mem
      have := List.count_pos_iff.mpr mem'
      simp only [Ringer.places, phaseLines, List.count_append] at one
      match p, q with
      | 0, 1 | 0, 2 | 0, 3 | 1, 0 | 1, 2 | 1, 3 | 2, 0 | 2, 1 | 2, 3 | 3, 0 | 3, 1 | 3, 2 => omega
      | 0, 0 | 1, 1 | 2, 2 | 3, 3 => exact ne rfl
    have single : s.ringer.phases[p].count l = 1 := by
      have := List.count_pos_iff.mpr mem
      have le : s.ringer.phases[p].count l ≤ (phaseLines s.ringer.phases).count l := by
        simp only [phaseLines, List.count_append]
        match p with
        | 0 | 1 | 2 | 3 => omega
      rw [Ringer.places] at one
      omega
    rw [demoted]
    refine fill_tied (.ofPlaces (fun m => (ringDemoted_places single m).trans (h.placed m))
      (fun critical q m mem' => ?_) h.wheel)
    obtain ⟨mem'', away⟩ := ringDemoted_mem mem'
    refine h.atCritical critical q m mem'' fun e => ?_
    subst e
    by_cases same : q = p
    · exact away same rfl
    · exact once q same mem''

theorem ringClassChange_within (h : PhasesInCapacity s) : PhasesInCapacity (ringClassChange l s) := by
  rcases ringClassChange_cases (l := l) (s := s) with ⟨same, -⟩ | ⟨filled, -⟩ | ⟨p, -, demoted⟩
  · rw [same]
    exact h
  · rw [filled]
    exact fill_within h
  · rw [demoted]
    exact fill_within (s := callTarget l .standby (ringDemoted l p s)) (ringDemoted_within h)

/-- From a line entry that has just been written the ring collections are tied but for the line's class, and tied if
the class is the `same`; the other invariants do not speak of it. -/
structure KeepsWritten (l : Line) (same : Prop) (s t : State) : Prop where
  pending : t.pending = s.pending
  filter : FilterInRange s → FilterInRange t
  ready : ReadyWhileHigh s → ReadyWhileHigh t
  reports : ReportsBounded s → ReportsBounded t
  early : EarlyDigitsBounded s → EarlyDigitsBounded t
  phases : PhasesInCapacity s → PhasesInCapacity t
  rings : RingsTiedBut l s → (same → RingsTied s) → RingsTied t

section
variable {same : Prop}

theorem KeepsWritten.keeps (h : KeepsWritten l same s t) (k : Keeps True t u) : KeepsWritten l same s u :=
  ⟨k.pending.trans h.pending, k.filter ∘ h.filter, k.ready ∘ h.ready, k.reports ∘ h.reports, k.early ∘ h.early,
    k.phases ∘ h.phases, fun tied is => k.rings trivial (h.rings tied is)⟩

/-- What keeps the other invariants, and ties the ring collections. -/
theorem KeepsWritten.ofKeeps (h : Keeps False s t) (rings : RingsTiedBut l s → (same → RingsTied s) → RingsTied t) :
    KeepsWritten l same s t :=
  ⟨h.pending, h.filter, h.ready, h.reports, h.early, h.phases, rings⟩

/-- A line that is not Ringing has no place for a class to matter. -/
theorem KeepsWritten.ofQuiet (quiet : s.call[l].state ≠ .ringing) : KeepsWritten l same s s :=
  .ofKeeps (.refl s) fun h _ => h.tied fun _ ringing => absurd ringing quiet

theorem disableLine_keeps : KeepsWritten l same s (disableLine l s) := by
  have released : SameBut [.bearers, .arbiter, .reports] s (releaseUse l .disabled s) := releaseUse_sameBut
  have rings : SameRings s (releaseUse l .disabled s) := .ofEq (released .call (by decide))
    (released .ringer (by decide)) (released .supply (by decide)) (released .entries (by decide))
  have left : KeepsWritten l same s (enter l { state := .disabled } (releaseUse l .disabled s)) :=
    .ofKeeps ((releaseUse_keeps).trans (enter_keeps (by simp))) fun h _ => enter_tied (rings.tiedBut h) (by simp)
  exact left.keeps (((Keeps.ofSameBut callTarget_sameBut (by decide)).trans (setSup_keeps fun _ => by decide)).trans
    reconsiderIf_keeps)

/-- The line's counts as a change of its profile leaves them (R22). -/
def recounted (l : Line) (old new : LineEntry) (s : State) : State :=
  if old.profile ≠ new.profile then resetCounts l s else s

theorem rewriteLine_eq {old new : LineEntry} : rewriteLine l old new s =
    if old.cls ≠ new.cls ∧ (recounted l old new s).call[l].state = .ringing
    then ringClassChange l (recounted l old new s) else recounted l old new s := rfl

theorem recounted_sameBut {old new : LineEntry} : SameBut [.sup] s (recounted l old new s) :=
  .ite (fun _ => resetCounts_sameBut) fun _ => .refl _ s

theorem ringClassChange_keeps : Keeps False s (ringClassChange l s) :=
  ⟨ringClassChange_sameBut .pending (by decide), .ofEq (ringClassChange_sameBut .sup (by decide)),
    .ofEq (ringClassChange_sameBut .bus (by decide)), .ofEq (ringClassChange_sameBut .reports (by decide)),
    .ofEq (ringClassChange_sameBut .call (by decide)), ringClassChange_within, nofun⟩

theorem rewriteLine_keeps {old new : LineEntry} : KeepsWritten l (old.cls = new.cls) s (rewriteLine l old new s) := by
  have counted : SameBut [.sup] s (recounted l old new s) := recounted_sameBut
  have keeps : Keeps False s (recounted l old new s) := .ite (fun _ => setSup_keeps) fun _ => .refl s
  have rings : SameRings s (recounted l old new s) :=
    .ofEq (counted .call (by decide)) (counted .ringer (by decide)) (counted .supply (by decide))
      (counted .entries (by decide))
  rw [rewriteLine_eq]
  split
  · exact .ofKeeps (keeps.trans ringClassChange_keeps) fun h _ => ringClassChange_tied (rings.tiedBut h)
  · next stays =>
    refine .ofKeeps keeps fun h is => ?_
    by_cases e : old.cls = new.cls
    · exact rings.tied (is e)
    · exact (rings.tiedBut h).tied fun _ ringing => absurd ⟨e, ringing⟩ stays

theorem lineWritten_keeps {old new : LineEntry} : KeepsWritten l (old.cls = new.cls) s (lineWritten l old new s) := by
  unfold lineWritten
  dsimp only
  split
  · next disabled _ =>
    have quiet : s.call[l].state ≠ .ringing := by
      intro ringing
      rw [ringing] at disabled
      simp at disabled
    refine (KeepsWritten.ofQuiet quiet).keeps (.ite (fun _ => ?_) fun _ => ?_)
    · exact ((Keeps.then setCall_keeps_same callTarget_sameBut (by decide)).trans
        (setSup_keeps fun _ => by decide)).then
        endQuiet_sameBut (by decide)
    · exact (Keeps.trans (setSup_keeps fun _ => by decide) goIdle_keeps).then endQuiet_sameBut (by decide)
  · split
    · next testing =>
      refine (KeepsWritten.ofQuiet (by rw [testing]; decide)).keeps ?_
      exact ((Keeps.then setCall_keeps_same callTarget_sameBut (by decide)).trans
        (setSup_keeps fun _ => by decide)).then
        dropLooks_sameBut (by decide)
    · exact disableLine_keeps
  · exact rewriteLine_keeps
  · next disabled _ =>
    refine KeepsWritten.ofQuiet fun ringing => ?_
    rw [ringing] at disabled
    simp at disabled

end

theorem reqSetLine_keeps {line enabled profile cls preemptible : Byte} :
    (reqSetLine line enabled profile cls preemptible).Keeps c := by
  refine onLine_keeps fun l s _ => ?_
  dsimp only
  split
  · next e p k pre _ _ _ _ =>
    let new : LineEntry := { enabled := e, profile := p, cls := k, preemptible := pre }
    have keeps : KeepsWritten l (s.entries[l].cls = new.cls) (s.setEntry l new) _ := lineWritten_keeps
    have classOf (m : Line) : (s.setEntry l new).classOf m = if m = l then new.cls else s.classOf m := by
      rw [State.classOf, State.setEntry_entries, set_get]
      split <;> rfl
    refine ⟨keeps.pending, keeps.filter, keeps.ready, keeps.reports, keeps.early, keeps.phases, fun _ h =>
      keeps.rings ⟨h.places, ?_, h.wheel⟩ fun same =>
      .ofPlaces h.places ?_ h.wheel⟩
    · intro critical p m mem ne
      rw [classOf, if_neg ne]
      exact h.atCritical critical p m mem
    · intro critical p m mem
      rw [classOf]
      split
      · next e => rw [← same, ← e]; exact h.atCritical critical p m mem
      · exact h.atCritical critical p m mem
  · exact .refl s

theorem reqSetProfile_keeps {profile : Byte} {p : Profile} : (reqSetProfile profile p).Keeps c := fun s _ => by
  have counted (i : Fin 8) (v : State) : Keeps c v (resetProfileCounts i v) :=
    .each _ allLines (.refl v) fun _ v => .ite (fun _ => setSup_keeps) fun _ => .refl v
  unfold reqSetProfile
  dsimp only
  split
  · exact .choice (fun _ => ((Keeps.ofSameBut setTables_sameBut (by decide)).trans (counted _ _)).then
      recomputeReference_sameBut (by decide))
      fun _ => .refl s
  · exact .refl s

theorem reqSetClassMap_keeps {priority standard economy alarm : Word16} :
    (reqSetClassMap priority standard economy alarm).Keeps c := fun s _ =>
  .choice (fun _ => ((Keeps.ofSameBut setTables_sameBut (by decide)).then recomputeReference_sameBut
    (by decide)).trans
    runIdle_keeps)
    fun _ => .refl s

theorem reqSetAttention_keeps {value : Byte} : (reqSetAttention value).Keeps c := fun s _ => by
  unfold reqSetAttention
  split
  · exact setReports_keeps id
  · exact .refl s

/-! ### Restarts -/

/-- No line is Ringing and the ring collections are those of a restart. -/
theorem RingsTied.ofRestarted (ringer : s.ringer = Ringer.restarted)
  (quiet : ∀ l : Line, s.call[l].state ≠ .ringing) :
    RingsTied s := by
  have none (m : Line) : Ringer.restarted.places m = 0 := by
    simp [Ringer.places, Ringer.restarted, State.cold, phaseLines]
  refine .ofPlaces (fun m => ?_) (fun _ p m mem => ?_) ?_
  · rw [ringer, none, if_neg (quiet m)]
  · have := List.count_pos_iff.mpr ((mem_phaseLines).mpr ⟨p, mem⟩)
    have := none m
    rw [← ringer, Ringer.places] at this
    omega
  · rw [ringer]
    exact iff_of_true rfl quiet

theorem PhasesInCapacity.ofRestarted (ringer : s.ringer = Ringer.restarted) : PhasesInCapacity s := fun p => by
  rw [ringer]
  simp [Ringer.restarted, State.cold]

theorem callsRestart_call {m : Line} :
    (callsRestart s).call[m] = s.call[m].callsRestart s.entries[m].enabled := by
  unfold callsRestart
  dsimp only
  split <;> exact tabulate_get ..

theorem callsRestart_sup {m : Line} : (callsRestart s).sup[m] =
    s.sup[m].callsRestart s.entries[m].enabled (decide (s.call[m].state = .testing)) := by
  unfold callsRestart
  dsimp only
  split <;> exact tabulate_get ..

theorem callsRestart_ringer : (callsRestart s).ringer = Ringer.restarted := by
  unfold callsRestart
  dsimp only
  split <;> rfl

theorem callsRestart_keeps (enabled : c → RingingEnabled s) : Keeps c s (callsRestart s) := by
  refine ⟨callsRestart_sameBut s .pending (by decide), fun h m => ?_, fun h => ?_, fun _ => ?_, fun h m => ?_,
    fun _ => .ofRestarted callsRestart_ringer, fun hc _ =>
    .ofRestarted callsRestart_ringer fun m => ?_⟩
  · rw [callsRestart_sup]
    unfold Supervision.callsRestart
    split
    · decide
    · exact h m
  · unfold callsRestart
    dsimp only
    split <;> exact h
  · unfold callsRestart
    dsimp only
    split
    · exact Reports.append_bounded _ _ _ (by simp)
    · simp [ReportsBounded]
  · rw [callsRestart_call]
    unfold CallRecord.callsRestart
    split
    · simp
    · split
      · simp
      · exact h m
  · rw [callsRestart_call]
    unfold CallRecord.callsRestart
    split
    · simp
    · next off =>
      split
      · simp
      · exact fun ringing => off (enabled hc m ringing)

/-! ### Frames -/

theorem requestOf_keeps {before : State} {code : Nat} {p : List Byte} : (requestOf before code p).Keeps c := by
  unfold requestOf
  dsimp only
  split
  · exact fun s _ => .refl s
  · exact onLine_keeps fun _ s _ => .refl s
  · exact onBearer_keeps fun _ s _ => .refl s
  · exact (reqUnitQuery_changes (parts := [])).keeps (by decide)
  · exact fun s _ => .refl s
  · exact fun s _ => .refl s
  · exact reqSetProfile_keeps
  · exact reqSetLine_keeps
  · exact reqSetClassMap_keeps
  · exact (reqSetArbiterPhases_changes).keeps (by decide)
  · exact (reqSetTimers_changes).keeps (by decide)
  · exact (reqSetSupplyThresholds_changes).keeps (by decide)
  · exact reqSetAttention_keeps
  · exact fun s _ => setSupply_keeps
  · exact (reqArmMonitor_changes).keeps (by decide)
  · split
    · exact fun s enabled => callsRestart_keeps enabled
    · exact refuseWith_keeps
  · split
    · exact reqLinkDown_keeps
    · split
      · exact (reqLinkUp_changes).keeps (by decide)
      · exact refuseWith_keeps
  · exact reqBearerCheck_keeps
  · exact (reqBar_changes).keeps (by decide)
  · exact reqUnbar_keeps
  · exact reqReleaseAcknowledge_keeps
  · exact reqGrant_keeps
  · exact reqRefuse_keeps
  · exact reqRelease_keeps
  · exact reqIncoming_keeps
  · exact (reqFarAnswer_changes).keeps (by decide)
  · exact reqTestLine_keeps
  · exact (reqTestAbort_changes).keeps (by decide)
  · exact refuseWith_keeps

theorem payloadRequest_keeps {before : State} {p : List Byte} : (payloadRequest before p).Keeps c := by
  unfold payloadRequest
  dsimp only
  split
  · exact refuseWith_keeps
  · split
    · exact requestOf_keeps
    · exact refuseWith_keeps

theorem lineHigh_keeps : Keeps c s (lineHigh s) := setBus_keeps fun _ _ => rfl

theorem loseFrame_keeps : Keeps c s (loseFrame s) := .ite (fun _ => .refl s) fun _ =>
  Keeps.trans setBus_keeps lineHigh_keeps

theorem takeFrame_keeps {d : Addressee} {allowed : Bool} (h : q.Keeps c) (enabled : c → RingingEnabled s) :
    Keeps c s (takeFrame d allowed q s) := by
  have arrived : Keeps c s s.atRequest := Keeps.trans (setBus_keeps fun _ _ => rfl) reloadMonitor_keeps
  have asked : Keeps c s.atRequest (q s.atRequest).1 := h _ fun hc l ringing => by
    have call : s.atRequest.call = s.call := atRequest_sameBut s .call (by decide)
    have entries : s.atRequest.entries = s.entries := atRequest_sameBut s .entries (by decide)
    rw [call] at ringing
    rw [entries]
    exact enabled hc l ringing
  unfold takeFrame
  refine .ite (fun _ => ?_) fun _ => loseFrame_keeps
  dsimp only
  split
  · exact (arrived.trans asked).trans setBus_keeps
  · exact .ite (fun _ => arrived.trans asked) fun _ => arrived

theorem beginRestart_keeps : Keeps c s (beginRestart s) := by
  have call (m : Line) : (beginRestart s).call[m] = { state := .disabled } := by
    simp [beginRestart, State.cold]
  refine ⟨rfl, fun _ m => ?_, fun _ running => absurd rfl running,
    fun _ => by simp [ReportsBounded, beginRestart, State.cold], fun _ m => ?_, fun _ => .ofRestarted rfl,
    fun _ _ => .ofRestarted rfl fun m => ?_⟩
  · simp [beginRestart, State.cold]
  · rw [call]
    simp
  · rw [call]
    simp

theorem endRestart_keeps {cause : Nat} : Keeps c s (s.endRestart cause) := by
  have rings : SameRings s (s.endRestart cause) := .ofEq rfl rfl rfl rfl
  refine ⟨rfl, id, fun _ running => ?_, fun ⟨_, routine⟩ => ⟨by simp [State.endRestart], routine⟩, id,
    rings.inCapacity, fun _ => rings.tied⟩
  change s.bus.readyLeft ≠ none at running
  change s.bus.lowTimer = none
  unfold Bus.readyLeft at running
  split at running
  · assumption
  · exact absurd rfl running

theorem fullRestart_keeps {k : RestartCause} : Keeps c s (fullRestart k s) :=
  (beginRestart_keeps).trans endRestart_keeps

end

end Sys2Proof.Machine
end

section
/-! What the Bus Interface, one millisecond and every command keep, and the invariants of single parts as statements
about a step. -/

namespace Sys2Proof.Machine

section
variable {c : Prop} {s t : State} {l : Line} {b : Bearer}

/-! ## The Bus Interface -/

theorem takeRestartFull_keeps : Keeps c s (takeRestartFull s) := by
  have arrived : Keeps c s s.atRequest := Keeps.trans (setBus_keeps fun _ _ => rfl) reloadMonitor_keeps
  exact .ite (fun _ => arrived.trans fullRestart_keeps) fun _ => loseFrame_keeps

theorem takePayload_keeps {d : Addressee} {p : List Byte} (enabled : c → RingingEnabled s) :
    Keeps c s (takePayload d p s) :=
  .ite (fun _ => takeRestartFull_keeps) fun _ => takeFrame_keeps payloadRequest_keeps enabled

theorem discardFrame_keeps : Keeps c s (discardFrame s) := setBus_keeps

theorem gapExpiry_keeps : Keeps c s (gapExpiry s) := .ite (fun _ => discardFrame_keeps) fun _ => .refl s

theorem judgeFrame_keeps {check : Byte} (enabled : c → RingingEnabled s) : Keeps c s (judgeFrame check s) := by
  unfold judgeFrame
  dsimp only
  exact .ite (fun _ => .ite (fun _ => takePayload_keeps enabled) fun _ => .ite (fun _ => takePayload_keeps enabled)
    fun _ => discardFrame_keeps) fun _ => discardFrame_keeps

theorem goodByte_keeps {v : Byte} (enabled : c → RingingEnabled s) : Keeps c s (goodByte v s) := by
  have assembled {a : Assembly} : Keeps c s (assemble a s) := setBus_keeps
  unfold goodByte
  dsimp only
  split
  · exact .ite (fun _ => assembled) fun _ => .refl s
  · exact assembled
  · exact .ite (fun _ => assembled) fun _ => discardFrame_keeps
  · exact assembled
  · exact judgeFrame_keeps enabled

theorem takeByte_keeps {v : Byte} {err : Bool} (enabled : c → RingingEnabled s) : Keeps c s (takeByte v err s) :=
  .ite (fun _ => .ite (fun _ => .refl s) fun _ => discardFrame_keeps) fun _ => goodByte_keeps enabled

theorem byteStart_keeps : Keeps c s (byteStart s) :=
  .ite (fun _ => setBus_keeps fun _ running => absurd rfl running) fun _ => .refl s

theorem lineAfterByte_keeps {v : Byte} {parity stop : Bool} : Keeps c s (lineAfterByte v parity stop s) :=
  .ite (fun _ => Keeps.trans setBus_keeps lineHigh_keeps) fun _ => setBus_keeps fun _ running => absurd rfl running

/-- What leaves the line records and entries keeps every Ringing line enabled. -/
theorem RingingEnabled.ofSameBut {parts : List Part} (h : SameBut parts s t) (enabled : RingingEnabled s)
    (call : Part.call ∉ parts := by decide) (entries : Part.entries ∉ parts := by decide) : RingingEnabled t := by
  have sameCall : t.call = s.call := h .call call
  have sameEntries : t.entries = s.entries := h .entries entries
  unfold RingingEnabled
  rw [sameCall, sameEntries]
  exact enabled

theorem bytePart_keeps {v : Byte} {part : BytePart} (enabled : c → RingingEnabled s) : Keeps c s (bytePart v part s)
  := by
  cases part with
  | start => exact byteStart_keeps
  | rest parity stop =>
    exact .ite (fun _ => .refl s) fun _ => .ite
      (fun _ => (lineAfterByte_keeps).trans (takeByte_keeps fun hc => (enabled hc).ofSameBut lineAfterByte_sameBut))
      fun _ => lineAfterByte_keeps

theorem afterPoll_bounded (q : Reports) (h : q.urgent.length ≤ 16 ∧ q.routine.length ≤ 48) :
    q.afterPoll.urgent.length ≤ 16 ∧ q.afterPoll.routine.length ≤ 48 := by
  simp only [Reports.afterPoll, List.length_drop]
  omega

theorem transmitStart_keeps : Keeps c s (transmitStart s) := by
  unfold transmitStart
  split
  · refine .ite (fun _ => ?_) fun _ => .refl s
    split
    · exact (setReports_keeps (afterPoll_bounded s.reports)).trans setBus_keeps
    · exact setBus_keeps
  · exact .refl s

theorem transmitEnd_keeps : Keeps c s (transmitEnd s) := by
  unfold transmitEnd
  split
  · exact setBus_keeps
  · exact .refl s

theorem readyExpiry_keeps : Keeps c s (readyExpiry s) :=
  .ite (fun _ => setBus_keeps fun _ running => absurd rfl running) fun _ => .refl s

/-! ## Restarts as commands -/

/-- What changes the restart flag and the bus keeps the rest, if the 5 ms of the ready mark do not run. -/
theorem busBreak_keeps : Keeps c s (busBreak s) := by
  refine .ite (fun _ => .refl s) fun _ => (beginRestart_keeps (s := s)).trans ?_
  have rings : SameRings (beginRestart s)
      { beginRestart s with bus := { (beginRestart s).bus with lowTimer := some Config.busBreakMs }, inRestart :=
        true } :=
    .ofEq rfl rfl rfl rfl
  exact ⟨rfl, id, fun _ running => absurd rfl running, id, id, rings.inCapacity, fun _ => rings.tied⟩

theorem powerOn_keeps {pins : Straps} {lineHigh : Bool} : Keeps c s (powerOn pins lineHigh s) := by
  have rings {x : Bus} : SameRings s ((s.setStrapPins pins).setBus x) := .ofEq rfl rfl rfl rfl
  let x : Bus := { (s.setStrapPins pins).bus with lowTimer := if lineHigh then none else some 0 }
  have begun := beginRestart_keeps (c := c) (s := (s.setStrapPins pins).setBus x)
  have restarted := begun.trans (endRestart_keeps (cause := RestartCause.powerOn.code))
  refine ⟨restarted.pending, restarted.filter, fun _ running => ?_, restarted.reports, restarted.early,
    fun h => restarted.phases (rings.inCapacity h), fun hc h => restarted.rings hc (rings.tied h)⟩
  cases lineHigh with
  | true => rfl
  | false => exact absurd rfl running

theorem receiveLineHigh_keeps {pins : Straps} : Keeps c s (receiveLineHigh pins s) := by
  have pinned : Keeps c s (s.setStrapPins pins) := .ofSameBut setStrapPins_sameBut (by decide)
  exact .ite (fun _ => (pinned.trans (setBus_keeps fun _ _ => rfl)).trans endRestart_keeps) fun _ =>
    pinned.trans lineHigh_keeps

theorem roundStart_keeps : Keeps c s (roundStart s) := .ofSameBut roundStart_sameBut (by decide)

/-! ## One millisecond -/

theorem age_call {m : Line} : (age s).call[m] = s.call[m].age := tabulate_get ..

theorem CallRecord.age_same (x : CallRecord) : x.age.state = x.state ∧ x.age.early = x.early ∧ x.age.lost = x.lost
  := by
  unfold CallRecord.age
  split <;> exact ⟨rfl, rfl, rfl⟩

theorem Wheel.age_stopped (w : Wheel) : w.age = .stopped ↔ w = .stopped := by
  cases w <;> simp [Wheel.age]

theorem age_keeps : Keeps c s (age s) := by
  have rings : SameRings s (age s) := by
    refine ⟨rfl, rfl, Wheel.age_stopped _, fun m => ?_, rfl, rfl⟩
    rw [age_call, (CallRecord.age_same _).1]
  refine ⟨rfl, id, fun h running => ?_, id, fun h m => ?_, rings.inCapacity, fun _ => rings.tied⟩
  · have high : s.bus.lowTimer = none := h fun stopped => running (by
      change s.bus.readyTimer.map (· - 1) = none
      rw [stopped]
      rfl)
    change s.bus.lowTimer.map (· + 1) = none
    rw [high]
    rfl
  · obtain ⟨state, early, lost⟩ := CallRecord.age_same s.call[m]
    rw [age_call, state, early, lost]
    exact h m

theorem whenDue_keeps {due : State → Bool} {f : State → State} (h : ∀ v, Keeps c v (f v)) :
    Keeps c s (whenDue due f s) := .ite (fun _ => event_keeps (h s)) fun _ => .refl s

theorem lineTimers_keeps : Keeps c s (lineTimers l s) :=
  (((((((whenDue_keeps (fun _ => .ofSameBut blankingEnd_sameBut (by decide))).trans
    (whenDue_keeps fun _ => settleEnd_keeps)).trans
    (whenDue_keeps fun _ => answerExpiry_keeps)).trans
    (whenDue_keeps fun _ => waitLimitExpiry_keeps)).trans
    (whenDue_keeps fun _ => preemptionToneEnd_keeps)).trans
    (whenDue_keeps fun _ => tonePhaseEnd_keeps)).trans
    (whenDue_keeps fun _ => howlerPhaseEnd_keeps)).trans
    ((whenDue_keeps fun _ => retryWaitExpiry_keeps).trans
    (whenDue_keeps fun _ => retryLookExpiry_keeps))

theorem bearerTimers_keeps : Keeps c s (bearerTimers b s) := whenDue_keeps fun _ => .ofSameBut guardExpiry_sameBut
  (by decide)

theorem unitTimers_keeps : Keeps c s (unitTimers s) := by
  unfold unitTimers
  exact ((((((whenDue_keeps (fun _ => handoverExpiry_keeps)).trans
    (whenDue_keeps fun _ => phaseBoundary_keeps)).trans
    (whenDue_keeps fun _ => .ofSameBut connectExpiry_sameBut (by decide))).trans
    (whenDue_keeps fun _ => .ofSameBut lookExpiry_sameBut (by decide))).trans
    (whenDue_keeps fun _ => disconnectExpiry_keeps)).trans
    (whenDue_keeps fun _ => countdownExpiry_keeps)).trans
    ((whenDue_keeps fun _ => auditExpiry_keeps).trans
    (whenDue_keeps fun _ => .ofSameBut quietExpiry_sameBut (by decide)))

theorem busTimers_keeps : Keeps c s (busTimers s) := by
  unfold busTimers
  exact ((whenDue_keeps fun _ => gapExpiry_keeps).trans (whenDue_keeps fun _ => readyExpiry_keeps)).trans
    ((whenDue_keeps fun _ => transmitEnd_keeps).trans (whenDue_keeps fun _ => transmitStart_keeps))

theorem lineTimer_keeps : Keeps c s (lineTimer s) := by
  unfold lineTimer
  split
  · exact .ite (fun _ => busBreak_keeps) fun _ => .refl s
  · exact .refl s

theorem tick_keeps : Keeps c s (tick s) := by
  refine .ite (fun _ => setBus_keeps fun h running => ?_) fun _ => ?_
  · change s.bus.lowTimer.map (· + 1) = none
    rw [h running]
    rfl
  · have lines : Keeps c s (eachLine lineTimers (age s)) := .each _ allLines age_keeps fun _ _ => lineTimers_keeps
    have bearers : Keeps c s (each allBearers bearerTimers (eachLine lineTimers (age s))) :=
      .each _ allBearers lines fun _ _ => bearerTimers_keeps
    exact ((bearers.trans unitTimers_keeps).trans busTimers_keeps).trans lineTimer_keeps

/-! ## Commands -/

/-- A command answers a next state, and keeps the invariants of single parts; those of the ring collections where
every Ringing line is enabled. -/
theorem exec_keeps (i : Instr) (s : State) : ∃ t, exec i s = .next t ∧ Keeps (RingingEnabled s) s t := by
  have framed {q : Request} (d : Addressee) (allowed : Bool) (h : q.Keeps (RingingEnabled s)) :
      Keeps (RingingEnabled s) s (event (takeFrame d allowed q) s) := event_keeps (takeFrame_keeps h id)
  cases i with
  | senseSample line current ringTrip => exact ⟨_, rfl, event_keeps visit_keeps⟩
  | scanRoundStart => exact ⟨_, rfl, roundStart_keeps⟩
  | hookDecision line => exact ⟨_, rfl, event_keeps hookDecision_keeps⟩
  | overcurrentDecision line => exact ⟨_, rfl, event_keeps faultDecision_keeps⟩
  | foreignBatteryDecision line => exact ⟨_, rfl, event_keeps faultDecision_keeps⟩
  | ringTripDecision line => exact ⟨_, rfl, event_keeps ringTripDecision_keeps⟩
  | clearDecision line => exact ⟨_, rfl, event_keeps clearDecision_keeps⟩
  | digitEnd line => exact ⟨_, rfl, event_keeps digitEnd_keeps⟩
  | settleEnd line => exact ⟨_, rfl, event_keeps settleEnd_keeps⟩
  | blankingEnd line => exact ⟨_, rfl, .ofSameBut blankingEnd_sameBut (by decide)⟩
  | waitLimitExpiry line => exact ⟨_, rfl, event_keeps waitLimitExpiry_keeps⟩
  | tonePhaseExpiry line => exact ⟨_, rfl, event_keeps tonePhaseEnd_keeps⟩
  | preemptionToneEnd line => exact ⟨_, rfl, preemptionToneEnd_keeps⟩
  | howlerPhaseExpiry line => exact ⟨_, rfl, event_keeps howlerPhaseEnd_keeps⟩
  | retryWaitExpiry line => exact ⟨_, rfl, event_keeps retryWaitExpiry_keeps⟩
  | retryLookExpiry line => exact ⟨_, rfl, event_keeps retryLookExpiry_keeps⟩
  | guardExpiry bearer => exact ⟨_, rfl, event_keeps (.ofSameBut guardExpiry_sameBut (by decide))⟩
  | handoverExpiry => exact ⟨_, rfl, event_keeps handoverExpiry_keeps⟩
  | ringPhaseBoundary => exact ⟨_, rfl, event_keeps phaseBoundary_keeps⟩
  | ringLimitReached line => exact ⟨_, rfl, event_keeps ringLimitReached_keeps⟩
  | supplySample value => exact ⟨_, rfl, event_keeps supplySample_keeps⟩
  | quietTimerExpiry => exact ⟨_, rfl, event_keeps (.ofSameBut quietExpiry_sameBut (by decide))⟩
  | monitorCountdownExpiry => exact ⟨_, rfl, event_keeps countdownExpiry_keeps⟩
  | auditTimerExpiry => exact ⟨_, rfl, event_keeps auditExpiry_keeps⟩
  | testConverterSample value => exact ⟨_, rfl, event_keeps (.ofSameBut converterSample_sameBut (by decide))⟩
  | measurementWindowEnd => exact ⟨_, rfl, event_keeps (.ofSameBut windowEnd_sameBut (by decide))⟩
  | testConnectExpiry => exact ⟨_, rfl, event_keeps (.ofSameBut connectExpiry_sameBut (by decide))⟩
  | testLookExpiry => exact ⟨_, rfl, event_keeps (.ofSameBut lookExpiry_sameBut (by decide))⟩
  | lookOffHook => exact ⟨_, rfl, event_keeps lookOffHook_keeps⟩
  | testDisconnectExpiry => exact ⟨_, rfl, event_keeps disconnectExpiry_keeps⟩
  | gapTimerExpiry => exact ⟨_, rfl, gapExpiry_keeps⟩
  | replyTransmitStart => exact ⟨_, rfl, transmitStart_keeps⟩
  | replyTransmitEnd => exact ⟨_, rfl, transmitEnd_keeps⟩
  | busBreak => exact ⟨_, rfl, busBreak_keeps⟩
  | receiveLineHigh address rate => exact ⟨_, rfl, receiveLineHigh_keeps⟩
  | readyMarkSet => exact ⟨_, rfl, readyExpiry_keeps⟩
  | powerOn straps lineHigh => exact ⟨_, rfl, powerOn_keeps⟩
  | poll dest => exact ⟨_, rfl, takeFrame_keeps (fun v _ => .refl v) id⟩
  | lineQuery dest line => exact ⟨_, rfl, takeFrame_keeps (onLine_keeps fun _ v _ => .refl v) id⟩
  | bearerQuery dest bearer => exact ⟨_, rfl, takeFrame_keeps (onBearer_keeps fun _ v _ => .refl v) id⟩
  | unitQuery dest sect => exact ⟨_, rfl, takeFrame_keeps ((reqUnitQuery_changes (parts := [])).keeps (by decide)) id⟩
  | testResult dest => exact ⟨_, rfl, takeFrame_keeps (fun v _ => .refl v) id⟩
  | readDigest dest => exact ⟨_, rfl, takeFrame_keeps (fun v _ => .refl v) id⟩
  | setProfile dest profile k m tOn tOff tOver flags => exact ⟨_, rfl, framed dest _ reqSetProfile_keeps⟩
  | setLine dest line enabled profile cls preemptible => exact ⟨_, rfl, framed dest _ reqSetLine_keeps⟩
  | setClassMap dest priority standard economy alarm => exact ⟨_, rfl, framed dest _ reqSetClassMap_keeps⟩
  | setArbiterPhases dest c0 c1 c2 c3 c4 c5 c6 c7 => exact ⟨_, rfl, framed dest _
    ((reqSetArbiterPhases_changes).keeps (by decide))⟩
  | setTimers dest answer guard wait congestion howler ringLimit quietDelay =>
    exact ⟨_, rfl, framed dest _ ((reqSetTimers_changes).keeps (by decide))⟩
  | setSupplyThresholds dest criticalEnter criticalExit lowEnter lowExit =>
    exact ⟨_, rfl, framed dest _ ((reqSetSupplyThresholds_changes).keeps (by decide))⟩
  | setAttention dest value => exact ⟨_, rfl, framed dest _ reqSetAttention_keeps⟩
  | clearSupplyDip dest => exact ⟨_, rfl, framed dest _ fun _ _ => setSupply_keeps⟩
  | armMonitor dest interval => exact ⟨_, rfl, framed dest _ ((reqArmMonitor_changes).keeps (by decide))⟩
  | restartFull dest address rate =>
    refine ⟨_, rfl, .ite (fun _ => ?_) fun _ => loseFrame_keeps⟩
    exact (Keeps.ofSameBut setStrapPins_sameBut (by decide)).trans takeRestartFull_keeps
  | restartCalls dest => exact ⟨_, rfl, framed dest _ fun _ enabled => callsRestart_keeps enabled⟩
  | linkStateUp dest count => exact ⟨_, rfl, framed dest _ ((reqLinkUp_changes).keeps (by decide))⟩
  | linkStateDown dest count => exact ⟨_, rfl, framed dest _ reqLinkDown_keeps⟩
  | bearerCheck dest bearers => exact ⟨_, rfl, framed dest _ reqBearerCheck_keeps⟩
  | bar dest bearer => exact ⟨_, rfl, framed dest _ ((reqBar_changes).keeps (by decide))⟩
  | unbar dest bearer => exact ⟨_, rfl, framed dest _ reqUnbar_keeps⟩
  | releaseAcknowledge dest bearer => exact ⟨_, rfl, framed dest _ reqReleaseAcknowledge_keeps⟩
  | grant dest line bearer => exact ⟨_, rfl, framed dest _ reqGrant_keeps⟩
  | refuse dest line bearer => exact ⟨_, rfl, framed dest _ reqRefuse_keeps⟩
  | release dest line bearer => exact ⟨_, rfl, framed dest _ reqRelease_keeps⟩
  | incoming dest line bearer ring => exact ⟨_, rfl, framed dest _ reqIncoming_keeps⟩
  | farAnswer dest line => exact ⟨_, rfl, framed dest _ ((reqFarAnswer_changes).keeps (by decide))⟩
  | testLine dest line measurements mode => exact ⟨_, rfl, framed dest _ reqTestLine_keeps⟩
  | testAbort dest => exact ⟨_, rfl, framed dest _ ((reqTestAbort_changes).keeps (by decide))⟩
  | busByteReceived value part => exact ⟨_, rfl, event_keeps (bytePart_keeps id)⟩
  | unknownRequestCode dest code =>
    exact ⟨_, rfl, .ite (fun _ => .refl s) fun _ => takeFrame_keeps refuseWith_keeps id⟩
  | storageDisturbance index value =>
    exact ⟨_, rfl, .ite (fun _ => event_keeps (.ofSameBut disturb_sameBut (by decide))) fun _ => .refl s⟩

/-- What a command does to `s` without its queue is what it does in a step. -/
theorem step_keeps (h : step s = .next t) : ∃ v, Keeps (RingingEnabled s) v t ∧ (∃ rest, v = s.setPending rest) := by
  unfold step at h
  split at h
  · next empty =>
    cases h
    exact ⟨s, tick_keeps, [], by rw [← empty]; rfl⟩
  · next i rest waiting =>
    obtain ⟨u, answered, keeps⟩ := exec_keeps i (s.setPending rest)
    rw [answered] at h
    cases h
    exact ⟨_, keeps, rest, rfl⟩

end

/-! ## The invariants of single parts -/

/-- Settles O4: every operation that queues a report appends it within the capacities. -/
theorem stepKeepsReportsBounded : Obligations.StepKeepsReportsBounded := by
  intro s t h stepped
  obtain ⟨v, keeps, rest, rfl⟩ := step_keeps stepped
  exact keeps.reports h

/-- Settles O5: a filtered current is written by a sample, which moves it within its range, or set to 0. -/
theorem stepKeepsFilterInRange : Obligations.StepKeepsFilterInRange := by
  intro s t h stepped
  obtain ⟨v, keeps, rest, rfl⟩ := step_keeps stepped
  exact keeps.filter h

/-- The first clause of O6: early digits are appended to a short buffer alone, and emptied in every other state. -/
theorem step_keeps_earlyDigitsBounded {s t : State} (h : EarlyDigitsBounded s) (stepped : step s = .next t) :
    EarlyDigitsBounded t := by
  obtain ⟨v, keeps, rest, rfl⟩ := step_keeps stepped
  exact keeps.early h

/-- Settles O7: placements go to phases with room, and what leaves Ringing leaves the ring collections. -/
theorem stepKeepsPhasesInCapacity : Obligations.StepKeepsPhasesInCapacity := by
  intro s t
  refine ⟨fun h stepped => ?_, fun calls h stepped => ?_⟩
  all_goals obtain ⟨v, keeps, rest, rfl⟩ := step_keeps stepped
  · exact keeps.phases h
  · exact keeps.rings calls.ringingEnabled ⟨h.placed, h.atCritical, h.wheel⟩

/-- The last clause of O54: what starts the 5 ms of the ready mark does so with the line high, and what makes the line
low ends them. -/
theorem step_keeps_readyWhileHigh {s t : State} (h : ReadyWhileHigh s) (stepped : step s = .next t) :
    ReadyWhileHigh t := by
  obtain ⟨v, keeps, rest, rfl⟩ := step_keeps stepped
  exact keeps.ready h

/-- The first clause of O2. -/
theorem exec_answers_next (i : Instr) (s : State) : ∃ t, exec i s = .next t ∧ t.pending = s.pending := by
  obtain ⟨t, answered, keeps⟩ := exec_keeps i s
  exact ⟨t, answered, keeps.pending⟩

end Sys2Proof.Machine
end

section
/-! Quiet operation and the quiet condition: what an event leaves of them, and what one millisecond does. -/

namespace Sys2Proof.Machine

section
variable {s t : State} {l : Line}

/-- The quiet timer's run leaves what the quiet condition reads. -/
theorem quietCondition_eq (entries : t.entries = s.entries)
    (call : ∀ l : Line, t.call[l].state = s.call[l].state)
    (bearers : ∀ b : Bearer, (t.bearer b).state = (s.bearer b).state)
    (test : t.test.session.isNone = s.test.session.isNone)
    (ringer : t.ringer.wheel = .stopped ↔ s.ringer.wheel = .stopped) : t.quietCondition = s.quietCondition := by
  simp only [State.quietCondition, entries, call, bearers, test, ringer]

theorem SameBut.quietCondition {parts : List Part} (h : SameBut parts s t)
    (read : ∀ p ∈ [Part.entries, .call, .bearers, .test, .ringer], p ∉ parts) :
    t.quietCondition = s.quietCondition := by
  have entries : t.entries = s.entries := h .entries (read _ (by decide))
  have call : t.call = s.call := h .call (read _ (by decide))
  have bearers : t.bearers = s.bearers := h .bearers (read _ (by decide))
  have test : t.test = s.test := h .test (read _ (by decide))
  have ringer : t.ringer = s.ringer := h .ringer (read _ (by decide))
  exact quietCondition_eq entries (by simp [call]) (by simp [State.bearer, bearers]) (by rw [test]) (by rw [ringer])

theorem runQuiet_quietCondition (before v : State) : (runQuiet before v).quietCondition = v.quietCondition := by
  unfold runQuiet
  dsimp only
  split
  · split
    · rfl
    · split
      · rfl
      · split <;> rfl
  · rfl

/-- After an event Quiet operation is in force only while the quiet condition holds, whatever went before. -/
theorem event_quietOnlyWhenIdle (f : State → State) (v : State) : QuietOnlyWhenIdle (event f v) := by
  intro quiet
  rw [event, runQuiet_quietCondition]
  by_contra fails
  rw [event, runQuiet, if_neg fails] at quiet
  exact Bool.noConfusion quiet

/-- A change keeps what Quiet operation asks for. -/
def KeepsQuiet (s t : State) : Prop := QuietOnlyWhenIdle s → QuietOnlyWhenIdle t

theorem KeepsQuiet.of_eq (quiet : t.monitor.quiet = s.monitor.quiet)
    (condition : t.quietCondition = s.quietCondition) : KeepsQuiet s t := by
  intro h on
  rw [condition]
  exact h (quiet ▸ on)

/-- What leaves the Quiet state and all that the quiet condition reads keeps it. -/
theorem KeepsQuiet.ofSameBut {parts : List Part} (h : SameBut parts s t)
    (read : ∀ p ∈ [Part.entries, .call, .bearers, .test, .ringer, .quietRun], p ∉ parts) : KeepsQuiet s t := by
  have quiet : t.monitor.quiet = s.monitor.quiet := (h .quietRun (read _ (by decide))).1
  exact .of_eq quiet (h.quietCondition fun p hp => read p (List.mem_append_left [Part.quietRun] hp))

theorem KeepsQuiet.of_off (off : t.monitor.quiet = false) : KeepsQuiet s t :=
  fun _ on => absurd on (by simp [off])

theorem KeepsQuiet.ite {c : Prop} [Decidable c] {u : State} (h : c → KeepsQuiet s t) (k : ¬c → KeepsQuiet s u) :
    KeepsQuiet s (if c then t else u) := by
  split
  · exact h ‹_›
  · exact k ‹_›

/-- The end of the Preemption tone leaves the call state of its line. -/
theorem preemptionToneEnd_keepsQuiet : KeepsQuiet s (preemptionToneEnd l s) := by
  refine .ite (fun _ => .of_eq rfl (quietCondition_eq rfl (fun m => ?_) (fun _ => rfl) rfl .rfl)) fun _ => fun h => h
  rw [State.setCall_call, set_get]
  split
  · next same => rw [same]
  · rfl

theorem age_bearer (b : Bearer) :
    (age s).bearer b = { s.bearer b with guard := ageTimer (s.bearer b).guard } := tabulate_get _ b

theorem age_keepsQuiet : KeepsQuiet s (age s) := by
  refine .of_eq rfl (quietCondition_eq rfl (fun m => ?_) (fun b => ?_) ?_ (Wheel.age_stopped _))
  · rw [age_call, (CallRecord.age_same _).1]
  · rw [age_bearer]
  · exact Option.isNone_map

theorem whenDue_keepsQuiet {due : State → Bool} {f : State → State} : KeepsQuiet s (whenDue due f s) :=
  .ite (fun _ _ => event_quietOnlyWhenIdle f s) fun _ h => h

theorem lineTimer_keepsQuiet : KeepsQuiet s (lineTimer s) := by
  unfold lineTimer
  split
  · exact .ite (fun _ => .ite (fun _ h => h) fun _ => .of_off rfl) fun _ h => h
  · exact fun h => h

theorem lineTimers_keepsQuiet : KeepsQuiet s (lineTimers l s) := by
  unfold lineTimers
  intro h
  iterate 9 apply whenDue_keepsQuiet
  exact h

theorem unitTimers_keepsQuiet : KeepsQuiet s (unitTimers s) := by
  unfold unitTimers
  intro h
  iterate 8 apply whenDue_keepsQuiet
  exact h

theorem busTimers_keepsQuiet : KeepsQuiet s (busTimers s) := by
  unfold busTimers
  intro h
  iterate 4 apply whenDue_keepsQuiet
  exact h

theorem tick_keepsQuiet : KeepsQuiet s (tick s) := by
  refine .ite (fun _ => .ofSameBut setBus_sameBut (by decide)) fun _ h => ?_
  have lines : QuietOnlyWhenIdle (eachLine lineTimers (age s)) :=
    eachLine_keeps _ _ _ (fun m v hv => lineTimers_keepsQuiet hv) (age_keepsQuiet h)
  have bearers : QuietOnlyWhenIdle (each allBearers bearerTimers (eachLine lineTimers (age s))) :=
    each_keeps _ _ _ _ (fun b _ v hv => whenDue_keepsQuiet hv) lines
  exact lineTimer_keepsQuiet (busTimers_keepsQuiet (unitTimers_keepsQuiet bearers))

theorem fullRestart_keepsQuiet {c : RestartCause} {v : State} : KeepsQuiet s (fullRestart c v) := .of_off rfl

theorem loseFrame_keepsQuiet : KeepsQuiet s (loseFrame s) := .ofSameBut loseFrame_sameBut (by decide)

theorem receiveLineHigh_keepsQuiet {pins : Straps} : KeepsQuiet s (receiveLineHigh pins s) := by
  have high : SameBut [.strapPins, .bus] s (lineHigh (s.setStrapPins pins)) :=
    SameBut.then (SameBut.then (.refl _ s) setStrapPins_sameBut (by decide)) lineHigh_sameBut (by decide)
  unfold receiveLineHigh
  dsimp only
  refine .ite (fun _ => ?_) fun _ => .ofSameBut high (by decide)
  exact .of_eq rfl (quietCondition_eq rfl (fun _ => rfl) (fun _ => rfl) rfl .rfl)

/-- A request that changes nothing keeps Quiet operation as it was. -/
theorem takeFrame_keepsQuiet {d : Addressee} {allowed : Bool} {q : Request} (h : q.Changes []) :
    KeepsQuiet s (takeFrame d allowed q s) := by
  have more : q.Changes [.bus, .watch, .reports] := h.mono (by decide)
  exact .ofSameBut (takeFrame_sameBut more (by decide)) (by decide)

theorem exec_keepsQuiet (i : Instr) (s : State) : ∃ t, exec i s = .next t ∧ KeepsQuiet s t := by
  cases i with
  | scanRoundStart => exact ⟨_, rfl, .ofSameBut roundStart_sameBut (by decide)⟩
  | blankingEnd line => exact ⟨_, rfl, .ofSameBut blankingEnd_sameBut (by decide)⟩
  | preemptionToneEnd line => exact ⟨_, rfl, preemptionToneEnd_keepsQuiet⟩
  | gapTimerExpiry => exact ⟨_, rfl, .ofSameBut gapExpiry_sameBut (by decide)⟩
  | replyTransmitStart => exact ⟨_, rfl, .ofSameBut transmitStart_sameBut (by decide)⟩
  | replyTransmitEnd => exact ⟨_, rfl, .ofSameBut transmitEnd_sameBut (by decide)⟩
  | busBreak => exact ⟨_, rfl, .ite (fun _ h => h) fun _ => .of_off rfl⟩
  | receiveLineHigh address rate => exact ⟨_, rfl, receiveLineHigh_keepsQuiet⟩
  | readyMarkSet => exact ⟨_, rfl, .ofSameBut readyExpiry_sameBut (by decide)⟩
  | powerOn straps high => exact ⟨_, rfl, fullRestart_keepsQuiet⟩
  | poll dest => exact ⟨_, rfl, takeFrame_keepsQuiet fun v => .refl _ v⟩
  | lineQuery dest line => exact ⟨_, rfl, takeFrame_keepsQuiet (onLine_changes _ fun _ v => .refl _ v)⟩
  | bearerQuery dest bearer => exact ⟨_, rfl, takeFrame_keepsQuiet (onBearer_changes _ fun _ v => .refl _ v)⟩
  | unitQuery dest sect => exact ⟨_, rfl, takeFrame_keepsQuiet reqUnitQuery_changes⟩
  | testResult dest => exact ⟨_, rfl, takeFrame_keepsQuiet fun v => .refl _ v⟩
  | readDigest dest => exact ⟨_, rfl, takeFrame_keepsQuiet fun v => .refl _ v⟩
  | restartFull dest address rate =>
    exact ⟨_, rfl, .ite (fun _ => .ite (fun _ => fullRestart_keepsQuiet) fun lost => absurd ‹_› lost)
      fun _ => loseFrame_keepsQuiet⟩
  | unknownRequestCode dest code =>
    exact ⟨_, rfl, .ite (fun _ h => h) fun _ => takeFrame_keepsQuiet (refuseWith_changes _)⟩
  | storageDisturbance index value =>
    exact ⟨_, rfl, .ite (fun _ _ => event_quietOnlyWhenIdle _ _) fun _ h => h⟩
  | _ => exact ⟨_, rfl, fun _ => event_quietOnlyWhenIdle _ _⟩

end

/-- Settles O8: the end of an event ends Quiet operation where the quiet condition fails, and what is no event leaves
both as they were. -/
theorem stepKeepsQuietOnlyWhenIdle : Obligations.StepKeepsQuietOnlyWhenIdle := by
  intro s t h stepped
  unfold step at stepped
  split at stepped
  · cases stepped
    exact tick_keepsQuiet h
  · next i rest waiting =>
    obtain ⟨u, answered, keeps⟩ := exec_keepsQuiet i (s.setPending rest)
    rw [answered] at stepped
    cases stepped
    exact keeps h

end Sys2Proof.Machine
end

section
/-! Lines and bearers in hand. An operation on calls unties a line or a bearer from the rest for a moment and ties it
again: `Tied` says that all but the lines and bearers in hand are tied. A line is taken up with the bearer it names,
what is in hand may be changed freely, and it is put down again once it is settled. -/

namespace Sys2Proof.Machine

/-- The handover record is for bearer `b` and line `l`. -/
def State.hands (s : State) (b : Bearer) (l : Line) : Prop :=
  ∃ h, s.arbiter.handover = some h ∧ h.bearer = b ∧ h.line = l

/-- The call state that a standing stands for (R106). -/
def Standing.state : Standing → CallState
  | .waiting => .waiting
  | .seizing => .seizing

/-- The session's looks are made for an enabled line alone, before a measurement (R137, R140). -/
def State.looksFit (s : State) (x : Session) : Prop :=
  (x.mode = .courteous → s.entries[x.line].enabled = true) ∧
    (x.phase = .look → s.entries[x.line].enabled = true ∧ x.remaining ≠ [])

/-- `CallsTied` for all but the lines `L` and the bearers `B`, which are in hand. `I` says whether the clause on
Isolated service is kept: while it begins, it is not. -/
structure Tied (I : Prop) (L : List Line) (B : List Bearer) (s : State) : Prop where
  named : ∀ (l : Line) (b : Bearer),
    (l ∉ L ∧ s.call[l].bearer = some b) ↔ (b ∉ B ∧ (s.bearer b).line = some l)
  agree : ∀ (l : Line) (b : Bearer), l ∉ L → s.call[l].bearer = some b →
    useAgrees s.call[l].state (s.bearer b).state
  lineNames : ∀ l : Line, l ∉ L → s.call[l].bearer = none →
    s.call[l].state ≠ .seizing ∧ s.call[l].state ≠ .connected ∧ s.call[l].state ≠ .ringing
  bearerNames : ∀ b : Bearer, b ∉ B → (s.bearer b).line = none → (s.bearer b).state.busy = true →
    (s.bearer b).state = .clearing
  connectionOnce : s.bearers.connection.Nodup
  connected : ∀ b : Bearer, b ∉ B → (b ∈ s.bearers.connection ↔ (s.bearer b).state = .engaged)
  handed : ∀ b : Bearer, b ∉ B → ((s.bearer b).state = .handover ↔ ∃ l, s.hands b l)
  handedLine : ∀ (b : Bearer) (l : Line), b ∉ B → s.hands b l → (s.bearer b).line = some l
  arrivedOnce : (s.arbiter.arrivals.map Arrival.line).Nodup
  stands : ∀ a ∈ s.arbiter.arrivals, a.line ∉ L → s.call[a.line].state = a.standing.state
  arrived : ∀ l : Line, l ∉ L → s.call[l].state.joined = true → ∃ a ∈ s.arbiter.arrivals, a.line = l
  isolated : I → s.monitor.isolated = true → ∀ l : Line, l ∉ L → s.call[l].state.joined = false
  disabled : ∀ l : Line, l ∉ L → (s.entries[l].enabled = false ↔
    s.call[l].state = .disabled ∨ s.call[l].state = .testing ∧ s.call[l].prior = some .disabled)
  tested : ∀ l : Line, l ∉ L → (s.call[l].state = .testing ↔ s.test.session.map Session.line = some l)
  looks : ∀ x, s.test.session = some x → x.line ∉ L → s.looksFit x
  linkDown : s.bearers.linkUp = false → ∀ b : Bearer, b ∉ B → (s.bearer b).state = .absent

section
variable {I : Prop} {L : List Line} {B : List Bearer} {s t : State} {l m : Line} {b : Bearer}

theorem State.hands_iff : (∃ l, s.hands b l) ↔ s.arbiter.handover.map Handover.bearer = some b := by
  unfold State.hands
  constructor
  · rintro ⟨_, h, record, rfl, -⟩
    rw [record]
    rfl
  · intro record
    obtain ⟨h, record, same⟩ := Option.map_eq_some_iff.mp record
    exact ⟨h.line, h, record, same, rfl⟩

/-- With nothing in hand all is tied. -/
theorem callsTied_iff : CallsTied s ↔ Tied True [] [] s := by
  have stand (x : Standing) : (match x with
      | .waiting => CallState.waiting
      | .seizing => CallState.seizing) = x.state := by cases x <;> rfl
  constructor
  · intro h
    refine ⟨by simpa using h.named, fun l b _ => h.agree l b, fun l _ => h.lineNames l, fun b _ => h.bearerNames b,
      h.connectionOnce, fun b _ => h.connected b, fun b _ => (h.handed b).trans State.hands_iff.symm, ?_,
      h.arrivedOnce, fun a mem _ => (h.stands a mem).trans (stand _), fun l _ => h.arrived l,
      fun _ on l _ => h.isolated on l, fun l _ => h.disabled l, fun l _ => h.tested l, fun x on _ => h.looks x on,
      fun down b _ => h.linkDown down b⟩
    rintro _ _ - ⟨record, on, rfl, rfl⟩
    exact h.handedLine record on
  · intro h
    have out {x : Line} : x ∉ ([] : List Line) := List.not_mem_nil
    have free {x : Bearer} : x ∉ ([] : List Bearer) := List.not_mem_nil
    exact ⟨by simpa using h.named, fun l b => h.agree l b out, fun l => h.lineNames l out,
      fun b => h.bearerNames b free, h.connectionOnce, fun b => h.connected b free,
      fun b => (h.handed b free).trans State.hands_iff, fun x on => h.handedLine _ _ free ⟨x, on, rfl, rfl⟩,
      h.arrivedOnce, fun a mem => (h.stands a mem out).trans (stand _).symm, fun l => h.arrived l out,
      fun on l => h.isolated trivial on l out, fun l => h.disabled l out, fun l => h.tested l out,
      fun x on => h.looks x on out, fun down b => h.linkDown down b free⟩

/-! ## Changes of what is in hand -/

/-- What reads the same of all that is not in hand is as tied as before. -/
theorem Tied.congr (h : Tied I L B s)
    (call : ∀ m ∉ L, t.call[m].state = s.call[m].state ∧ t.call[m].bearer = s.call[m].bearer ∧
      t.call[m].prior = s.call[m].prior)
    (bearer : ∀ b ∉ B, (t.bearer b).state = (s.bearer b).state ∧ (t.bearer b).line = (s.bearer b).line)
    (once : t.bearers.connection.Nodup)
    (connection : ∀ b ∉ B, b ∈ t.bearers.connection ↔ b ∈ s.bearers.connection)
    (link : t.bearers.linkUp = s.bearers.linkUp)
    (handover : ∀ b ∉ B, ∀ l, t.hands b l ↔ s.hands b l)
    (arrivedOnce : (t.arbiter.arrivals.map Arrival.line).Nodup)
    (arrivals : ∀ a : Arrival, a.line ∉ L → (a ∈ t.arbiter.arrivals ↔ a ∈ s.arbiter.arrivals))
    (isolated : I → t.monitor.isolated = true → s.monitor.isolated = true)
    (entries : ∀ m ∉ L, t.entries[m].enabled = s.entries[m].enabled)
    (tested : ∀ m ∉ L, t.test.session.map Session.line = some m ↔ s.test.session.map Session.line = some m)
    (looks : ∀ x, t.test.session = some x → x.line ∉ L → s.looksFit x) : Tied I L B t where
  named m c := by
    constructor
    · rintro ⟨out, names⟩
      obtain ⟨free, line⟩ := (h.named m c).mp ⟨out, (call m out).2.1 ▸ names⟩
      exact ⟨free, by rw [(bearer c free).2, line]⟩
    · rintro ⟨free, line⟩
      obtain ⟨out, names⟩ := (h.named m c).mpr ⟨free, (bearer c free).2 ▸ line⟩
      exact ⟨out, by rw [(call m out).2.1, names]⟩
  agree m c out names := by
    rw [(call m out).2.1] at names
    have free : c ∉ B := ((h.named m c).mp ⟨out, names⟩).1
    rw [(call m out).1, (bearer c free).1]
    exact h.agree m c out names
  lineNames m out none := by
    obtain ⟨state, names, -⟩ := call m out
    rw [state]
    exact h.lineNames m out (names ▸ none)
  bearerNames c free := by
    obtain ⟨state, line⟩ := bearer c free
    rw [state, line]
    exact h.bearerNames c free
  connectionOnce := once
  connected c free := by rw [connection c free, (bearer c free).1, h.connected c free]
  handed c free := by simp only [(bearer c free).1, h.handed c free, handover c free]
  handedLine c m free hands := by
    rw [(bearer c free).2]
    exact h.handedLine c m free ((handover c free m).mp hands)
  arrivedOnce := arrivedOnce
  stands a mem out := by rw [(call _ out).1, h.stands a ((arrivals a out).mp mem) out]
  arrived m out joined := by
    obtain ⟨a, mem, rfl⟩ := h.arrived m out ((call m out).1 ▸ joined)
    exact ⟨a, (arrivals a out).mpr mem, rfl⟩
  isolated i on m out := by rw [(call m out).1, h.isolated i (isolated i on) m out]
  disabled m out := by
    obtain ⟨state, -, prior⟩ := call m out
    rw [entries m out, state, prior, h.disabled m out]
  tested m out := by rw [(call m out).1, h.tested m out, tested m out]
  looks x on out := by
    rw [State.looksFit, entries x.line out]
    exact looks x on out
  linkDown down c free := by rw [(bearer c free).1, h.linkDown (link ▸ down) c free]

/-- The parts of the state that tie calls. -/
def tyingParts : List Part := [.entries, .call, .bearers, .arbiter, .test, .watch]

theorem Monitor.watch_isolated {x y : Monitor} (h : x.watch = y.watch) : x.isolated = y.isolated := by
  have same : x.watch.isolated = y.watch.isolated := by rw [h]
  exact same

/-- What changes other parts alone keeps all as tied as it was. -/
theorem Tied.ofSameBut {parts : List Part} (h : Tied I L B s) (k : SameBut parts s t)
    (read : ∀ p ∈ tyingParts, p ∉ parts) : Tied I L B t := by
  have entries : t.entries = s.entries := k .entries (read _ (by decide))
  have call : t.call = s.call := k .call (read _ (by decide))
  have bearers : t.bearers = s.bearers := k .bearers (read _ (by decide))
  have arbiter : t.arbiter = s.arbiter := k .arbiter (read _ (by decide))
  have test : t.test = s.test := k .test (read _ (by decide))
  have isolated : t.monitor.isolated = s.monitor.isolated := Monitor.watch_isolated (k .watch (read _ (by decide)))
  refine h.congr (by simp [call]) (by simp [State.bearer, bearers]) (bearers ▸ h.connectionOnce) (by simp [bearers])
    (by rw [bearers]) (by simp [State.hands, arbiter]) (arbiter ▸ h.arrivedOnce) (by simp [arbiter])
    (fun _ on => isolated ▸ on) (by simp [entries]) (by simp [test]) fun x on out => ?_
  exact h.looks x (test ▸ on) out

/-- A change of the line records alone that keeps the call state, the bearer and the prior state of lines not in
hand. -/
theorem Tied.ofCall (h : Tied I L B s) (k : SameBut [.call] s t)
    (call : ∀ m ∉ L, t.call[m].state = s.call[m].state ∧ t.call[m].bearer = s.call[m].bearer ∧
      t.call[m].prior = s.call[m].prior) : Tied I L B t := by
  have entries : t.entries = s.entries := k .entries (by decide)
  have bearers : t.bearers = s.bearers := k .bearers (by decide)
  have arbiter : t.arbiter = s.arbiter := k .arbiter (by decide)
  have test : t.test = s.test := k .test (by decide)
  have isolated : t.monitor.isolated = s.monitor.isolated := Monitor.watch_isolated (k .watch (by decide))
  refine h.congr call (by simp [State.bearer, bearers]) (bearers ▸ h.connectionOnce) (by simp [bearers])
    (by rw [bearers]) (by simp [State.hands, arbiter]) (arbiter ▸ h.arrivedOnce) (by simp [arbiter])
    (fun _ on => isolated ▸ on) (by simp [entries]) (by simp [test]) fun x on out => ?_
  exact h.looks x (test ▸ on) out

/-- The record of a line in hand may become anything. -/
theorem Tied.setCall {x : CallRecord} (h : Tied I L B s) (mem : l ∈ L) : Tied I L B (s.setCall l x) := by
  refine h.ofCall setCall_sameBut fun m out => ?_
  rw [s.setCall_get_ne l m x (fun e => out (e ▸ mem))]
  exact ⟨rfl, rfl, rfl⟩

/-- The record of any line may change in what ties nothing. -/
theorem Tied.setCall_same {x : CallRecord} (h : Tied I L B s) (state : x.state = s.call[l].state)
    (bearer : x.bearer = s.call[l].bearer) (prior : x.prior = s.call[l].prior) : Tied I L B (s.setCall l x) := by
  refine h.ofCall setCall_sameBut fun m _ => ?_
  rw [State.setCall_call, set_get]
  split
  · next same => rw [same]; exact ⟨state, bearer, prior⟩
  · exact ⟨rfl, rfl, rfl⟩

/-- Bearers in hand, and their places in the connection list, may change freely. -/
theorem Tied.setBearers {x : BearerTable} (h : Tied I L B s)
    (bearer : ∀ b ∉ B, x.recs[b].state = (s.bearer b).state ∧ x.recs[b].line = (s.bearer b).line)
    (once : x.connection.Nodup) (connection : ∀ b ∉ B, b ∈ x.connection ↔ b ∈ s.bearers.connection)
    (link : x.linkUp = s.bearers.linkUp) : Tied I L B (s.setBearers x) :=
  h.congr (fun _ _ => ⟨rfl, rfl, rfl⟩) bearer once connection link (fun _ _ _ => .rfl) h.arrivedOnce
    (fun _ _ => .rfl) (fun _ => id) (fun _ _ => rfl) (fun _ _ => .rfl) h.looks

theorem Tied.setBearer {x : BearerRecord} (h : Tied I L B s) (mem : b ∈ B) : Tied I L B (s.setBearer b x) := by
  refine h.setBearers (fun c free => ?_) h.connectionOnce (fun _ _ => .rfl) rfl
  have other : c ≠ b := fun e => free (e ▸ mem)
  have same : (s.setBearer b x).bearer c = s.bearer c := s.setBearer_get_ne b c x other
  exact ⟨congrArg BearerRecord.state same, congrArg BearerRecord.line same⟩

/-- A bearer in hand leaves the connection list. -/
theorem Tied.disconnected (h : Tied I L B s) (mem : b ∈ B) : Tied I L B (disconnect b s) := by
  refine h.setBearers (fun _ _ => ⟨rfl, rfl⟩) (h.connectionOnce.filter _) (fun c free => ?_) rfl
  have other : c ≠ b := fun e => free (e ▸ mem)
  simp [other]

/-- A bearer in hand is appended to the connection list. -/
theorem Tied.engagedBy (h : Tied I L B s) (mem : b ∈ B) (new : b ∉ s.bearers.connection) :
    Tied I L B (engage b l s) := by
  have given : Tied I L B (giveBearer b .engaged l s) := h.setBearer mem
  refine given.setBearers (fun _ _ => ⟨rfl, rfl⟩) ?_ (fun c free => ?_) rfl
  · exact List.nodup_append.mpr ⟨given.connectionOnce, List.nodup_singleton b,
      fun x hx y hy same => new (List.mem_singleton.mp hy ▸ same ▸ hx)⟩
  · have other : c ≠ b := fun e => free (e ▸ mem)
    simp [other]

/-- The entries of lines in hand, and a handover of a bearer in hand, may change freely. -/
theorem Tied.setArbiter {x : Arbiter} (h : Tied I L B s)
    (handover : ∀ b ∉ B, ∀ l, (∃ r, x.handover = some r ∧ r.bearer = b ∧ r.line = l) ↔ s.hands b l)
    (once : (x.arrivals.map Arrival.line).Nodup)
    (arrivals : ∀ a : Arrival, a.line ∉ L → (a ∈ x.arrivals ↔ a ∈ s.arbiter.arrivals)) :
    Tied I L B (s.setArbiter x) :=
  h.congr (fun _ _ => ⟨rfl, rfl, rfl⟩) (fun _ _ => ⟨rfl, rfl⟩) h.connectionOnce (fun _ _ => .rfl) rfl handover once
    arrivals (fun _ => id) (fun _ _ => rfl) (fun _ _ => .rfl) h.looks

theorem Tied.setHandover {x : Option Handover} (h : Tied I L B s)
    (mine : ∀ r, s.arbiter.handover = some r → r.bearer ∈ B) (yours : ∀ r, x = some r → r.bearer ∈ B) :
    Tied I L B (s.setHandover x) := by
  refine h.setArbiter (fun c free m => ?_) h.arrivedOnce fun _ _ => .rfl
  constructor
  · rintro ⟨r, on, rfl, -⟩
    exact absurd (yours r on) free
  · rintro ⟨r, on, rfl, -⟩
    exact absurd (mine r on) free

theorem Tied.setArrivals {x : List Arrival} (h : Tied I L B s) (once : (x.map Arrival.line).Nodup)
    (arrivals : ∀ a : Arrival, a.line ∉ L → (a ∈ x ↔ a ∈ s.arbiter.arrivals)) : Tied I L B (s.setArrivals x) :=
  h.setArbiter (fun _ _ _ => .rfl) once arrivals

/-- The standing of a line in hand may change. -/
theorem Tied.standingSet {x : Standing} (h : Tied I L B s) (mem : l ∈ L) : Tied I L B (setStanding l x s) := by
  refine h.setArrivals ?_ fun a out => ?_
  · have lines : (s.arbiter.arrivals.map fun a => if a.line = l then { a with standing := x } else a).map Arrival.line
        = s.arbiter.arrivals.map Arrival.line := by
      rw [List.map_map]
      refine List.map_congr_left fun a _ => ?_
      simp only [Function.comp]
      split <;> rfl
    rw [lines]
    exact h.arrivedOnce
  · have other : a.line ≠ l := fun e => out (e ▸ mem)
    simp only [List.mem_map]
    constructor
    · rintro ⟨a', mem', rfl⟩
      split at other
      · next e => exact absurd e other
      · next e => rw [if_neg e]; exact mem'
    · exact fun mem' => ⟨a, mem', if_neg other⟩

theorem Tied.ite {c : Prop} [Decidable c] {u : State} (h : c → Tied I L B t) (k : ¬c → Tied I L B u) :
    Tied I L B (if c then t else u) := by
  split
  · exact h ‹_›
  · exact k ‹_›

/-- A line in hand leaves the arrival list. -/
theorem Tied.leaveArrivals (h : Tied I L B s) (mem : l ∈ L) :
    Tied I L B (s.setArrivals (s.arbiter.arrivals.filter fun a => a.line ≠ l)) := by
  refine h.setArrivals (h.arrivedOnce.sublist (List.filter_sublist.map _)) fun a out => ?_
  have other : a.line ≠ l := fun e => out (e ▸ mem)
  simp [other]

/-- A line in hand enters any state. -/
theorem Tied.entered {n : CallRecord} (h : Tied I L B s) (mem : l ∈ L) : Tied I L B (enter l n s) := by
  have called : Tied I L B (s.setCall l (n.entering s.call[l])) := h.setCall mem
  have timed : Tied I L B (if s.call[l].state.timed && n.state.timed then s.setCall l (n.entering s.call[l])
      else (s.setCall l (n.entering s.call[l])).setBrk l {}) :=
    .ite (fun _ => called) fun _ => called.ofSameBut setBrk_sameBut (by decide)
  have entered : Tied I L B (enterCall l n s) := .ite (fun _ => timed) fun _ => timed.leaveArrivals mem
  rw [enter_eq]
  exact .ite (fun _ => entered.ofSameBut ringRemove_sameBut (by decide)) fun _ => entered

end

end Sys2Proof.Machine
end

section
/-! Taking up lines and bearers, putting them down once they are settled, and the changes of call state that do so. -/

namespace Sys2Proof.Machine

/-- Line `l` is as the arrival list, the settings and the session have it. -/
structure LineSettled (I : Prop) (l : Line) (s : State) : Prop where
  stands : ∀ a ∈ s.arbiter.arrivals, a.line = l → s.call[l].state = a.standing.state
  arrived : s.call[l].state.joined = true → ∃ a ∈ s.arbiter.arrivals, a.line = l
  isolated : I → s.monitor.isolated = true → s.call[l].state.joined = false
  disabled : s.entries[l].enabled = false ↔
    s.call[l].state = .disabled ∨ s.call[l].state = .testing ∧ s.call[l].prior = some .disabled
  tested : s.call[l].state = .testing ↔ s.test.session.map Session.line = some l
  looks : ∀ x, s.test.session = some x → x.line = l → s.looksFit x

/-- Bearer `b` is as the connection list, the handover record and the link have it. -/
structure BearerSettled (b : Bearer) (s : State) : Prop where
  connected : b ∈ s.bearers.connection ↔ (s.bearer b).state = .engaged
  handed : (s.bearer b).state = .handover ↔ ∃ l, s.hands b l
  handedLine : ∀ l, s.hands b l → (s.bearer b).line = some l
  linkDown : s.bearers.linkUp = false → (s.bearer b).state = .absent

/-- The line is enabled and not under test. -/
def State.inService (s : State) (l : Line) : Prop :=
  s.entries[l].enabled = true ∧ s.test.session.map Session.line ≠ some l

section
variable {I : Prop} {L : List Line} {B : List Bearer} {s t : State} {l m : Line} {b c : Bearer}

/-- What leaves the line entries and the session leaves the lines in service. -/
theorem State.inService.ofSameBut {parts : List Part} (k : s.inService l) (h : SameBut parts s t)
    (read : ∀ p ∈ [Part.entries, .test], p ∉ parts) : t.inService l := by
  have entries : t.entries = s.entries := h .entries (read _ (by decide))
  have test : t.test = s.test := h .test (read _ (by decide))
  unfold State.inService
  rw [entries, test]
  exact k

/-! ## Taking up -/

theorem Tied.free_of_names (h : Tied I L B s) (out : l ∉ L) (names : s.call[l].bearer = some b) :
    b ∉ B ∧ (s.bearer b).line = some l := (h.named l b).mp ⟨out, names⟩

theorem Tied.names_of_line (h : Tied I L B s) (free : b ∉ B) (line : (s.bearer b).line = some l) :
    l ∉ L ∧ s.call[l].bearer = some b := (h.named l b).mpr ⟨free, line⟩

/-- Less is said of the lines that are left when one that names no bearer is taken up. -/
theorem Tied.takeLine (h : Tied I L B s) (names : s.call[l].bearer = none) : Tied I (l :: L) B s where
  named m c := by
    rw [← h.named m c]
    constructor
    · exact fun ⟨out, k⟩ => ⟨fun mem => out (List.mem_cons_of_mem _ mem), k⟩
    · rintro ⟨out, k⟩
      refine ⟨fun mem => ?_, k⟩
      rcases List.mem_cons.mp mem with rfl | mem
      · exact absurd (names.symm.trans k) (by simp)
      · exact out mem
  agree m c out := h.agree m c (List.not_mem_of_not_mem_cons out)
  lineNames m out := h.lineNames m (List.not_mem_of_not_mem_cons out)
  bearerNames := h.bearerNames
  connectionOnce := h.connectionOnce
  connected := h.connected
  handed := h.handed
  handedLine := h.handedLine
  arrivedOnce := h.arrivedOnce
  stands a mem out := h.stands a mem (List.not_mem_of_not_mem_cons out)
  arrived m out := h.arrived m (List.not_mem_of_not_mem_cons out)
  isolated i on m out := h.isolated i on m (List.not_mem_of_not_mem_cons out)
  disabled m out := h.disabled m (List.not_mem_of_not_mem_cons out)
  tested m out := h.tested m (List.not_mem_of_not_mem_cons out)
  looks x on out := h.looks x on (List.not_mem_of_not_mem_cons out)
  linkDown := h.linkDown

/-- A bearer that no line has is taken up. -/
theorem Tied.takeBearer (h : Tied I L B s) (line : (s.bearer b).line = none) : Tied I L (b :: B) s :=
  { h with
    named := fun m c => by
      rw [h.named m c]
      constructor
      · rintro ⟨free, k⟩
        refine ⟨fun mem => ?_, k⟩
        rcases List.mem_cons.mp mem with rfl | mem
        · exact absurd (line.symm.trans k) (by simp)
        · exact free mem
      · exact fun ⟨free, k⟩ => ⟨fun mem => free (List.mem_cons_of_mem _ mem), k⟩
    bearerNames := fun c free => h.bearerNames c (List.not_mem_of_not_mem_cons free)
    connected := fun c free => h.connected c (List.not_mem_of_not_mem_cons free)
    handed := fun c free => h.handed c (List.not_mem_of_not_mem_cons free)
    handedLine := fun c m free => h.handedLine c m (List.not_mem_of_not_mem_cons free)
    linkDown := fun down c free => h.linkDown down c (List.not_mem_of_not_mem_cons free) }

/-- A line is taken up with the bearer it names. -/
theorem Tied.takeUse (h : Tied I L B s) (out : l ∉ L) (names : s.call[l].bearer = some b) :
    Tied I (l :: L) (b :: B) s := by
  obtain ⟨free, line⟩ := h.free_of_names out names
  exact
  { named := fun m c => by
      constructor
      · rintro ⟨away, k⟩
        obtain ⟨ne, away⟩ := List.ne_and_not_mem_of_not_mem_cons away
        obtain ⟨freeC, lineC⟩ := h.free_of_names away k
        refine ⟨fun mem => ?_, lineC⟩
        rcases List.mem_cons.mp mem with rfl | mem
        · exact ne (Option.some.inj (lineC.symm.trans line))
        · exact freeC mem
      · rintro ⟨away, k⟩
        obtain ⟨ne, away⟩ := List.ne_and_not_mem_of_not_mem_cons away
        obtain ⟨outM, namesM⟩ := h.names_of_line away k
        refine ⟨fun mem => ?_, namesM⟩
        rcases List.mem_cons.mp mem with rfl | mem
        · exact ne (Option.some.inj (namesM.symm.trans names))
        · exact outM mem
    agree := fun m c away => h.agree m c (List.not_mem_of_not_mem_cons away)
    lineNames := fun m away => h.lineNames m (List.not_mem_of_not_mem_cons away)
    bearerNames := fun c away => h.bearerNames c (List.not_mem_of_not_mem_cons away)
    connectionOnce := h.connectionOnce
    connected := fun c away => h.connected c (List.not_mem_of_not_mem_cons away)
    handed := fun c away => h.handed c (List.not_mem_of_not_mem_cons away)
    handedLine := fun c m away => h.handedLine c m (List.not_mem_of_not_mem_cons away)
    arrivedOnce := h.arrivedOnce
    stands := fun a mem away => h.stands a mem (List.not_mem_of_not_mem_cons away)
    arrived := fun m away => h.arrived m (List.not_mem_of_not_mem_cons away)
    isolated := fun i on m away => h.isolated i on m (List.not_mem_of_not_mem_cons away)
    disabled := fun m away => h.disabled m (List.not_mem_of_not_mem_cons away)
    tested := fun m away => h.tested m (List.not_mem_of_not_mem_cons away)
    looks := fun x on away => h.looks x on (List.not_mem_of_not_mem_cons away)
    linkDown := fun down c away => h.linkDown down c (List.not_mem_of_not_mem_cons away) }

/-- A supervised line that is not in hand is enabled and not under test. -/
theorem Tied.inService (h : Tied I L B s) (out : l ∉ L) (state : s.call[l].state.supervised = true) :
    s.inService l := by
  refine ⟨?_, fun on => ?_⟩
  · by_contra off
    rcases (h.disabled l out).mp (by simpa using off) with e | ⟨e, -⟩ <;> exact absurd state (by rw [e]; decide)
  · exact absurd state (by rw [(h.tested l out).mpr on]; decide)

/-- An Idle bearer has no line. -/
theorem Tied.lineless_of_idle (h : Tied I L B s) (free : b ∉ B) (idle : (s.bearer b).state = .idle) :
    (s.bearer b).line = none := by
  by_contra some
  obtain ⟨m, line⟩ := Option.ne_none_iff_exists'.mp some
  obtain ⟨out, names⟩ := h.names_of_line free line
  have agrees := h.agree m b out names
  rw [idle] at agrees
  revert agrees
  cases s.call[m].state <;> exact id

/-! ## Putting down -/

/-- A line that uses no bearer is put down. -/
theorem Tied.putLine (h : Tied I (l :: L) B s) (names : s.call[l].bearer = none)
    (unused : s.call[l].state ≠ .seizing ∧ s.call[l].state ≠ .connected ∧ s.call[l].state ≠ .ringing)
    (k : LineSettled I l s) : Tied I L B s :=
  have away {m : Line} (out : m ∉ L) (ne : m ≠ l) : m ∉ l :: L := List.not_mem_cons_of_ne_of_not_mem ne out
  { h with
    named := fun m c => by
      rw [← h.named m c]
      constructor
      · rintro ⟨out, names'⟩
        refine ⟨away out fun e => ?_, names'⟩
        subst e
        exact absurd (names.symm.trans names') (by simp)
      · exact fun ⟨out, names'⟩ => ⟨List.not_mem_of_not_mem_cons out, names'⟩
    agree := fun m c out names' => h.agree m c (away out fun e => by
      subst e
      exact absurd (names.symm.trans names') (by simp)) names'
    lineNames := fun m out none => by
      by_cases e : m = l
      · subst e; exact unused
      · exact h.lineNames m (away out e) none
    stands := fun a mem out => by
      by_cases e : a.line = l
      · rw [← k.stands a mem e]
        simp only [e]
      · exact h.stands a mem (away out e)
    arrived := fun m out joined => by
      by_cases e : m = l
      · subst e; exact k.arrived joined
      · exact h.arrived m (away out e) joined
    isolated := fun i on m out => by
      by_cases e : m = l
      · subst e; exact k.isolated i on
      · exact h.isolated i on m (away out e)
    disabled := fun m out => by
      by_cases e : m = l
      · subst e; exact k.disabled
      · exact h.disabled m (away out e)
    tested := fun m out => by
      by_cases e : m = l
      · subst e; exact k.tested
      · exact h.tested m (away out e)
    looks := fun x on out => by
      by_cases e : x.line = l
      · exact k.looks x on e
      · exact h.looks x on (away out e) }

/-- A bearer without a line is put down. -/
theorem Tied.putBearer (h : Tied I L (b :: B) s) (line : (s.bearer b).line = none)
    (unused : (s.bearer b).state.busy = true → (s.bearer b).state = .clearing) (k : BearerSettled b s) :
    Tied I L B s :=
  have away {c : Bearer} (free : c ∉ B) (ne : c ≠ b) : c ∉ b :: B := List.not_mem_cons_of_ne_of_not_mem ne free
  { h with
    named := fun m c => by
      rw [h.named m c]
      constructor
      · exact fun ⟨free, line'⟩ => ⟨List.not_mem_of_not_mem_cons free, line'⟩
      · rintro ⟨free, line'⟩
        refine ⟨away free fun e => ?_, line'⟩
        subst e
        exact absurd (line.symm.trans line') (by simp)
    bearerNames := fun c free none => by
      by_cases e : c = b
      · subst e; exact unused
      · exact h.bearerNames c (away free e) none
    connected := fun c free => by
      by_cases e : c = b
      · subst e; exact k.connected
      · exact h.connected c (away free e)
    handed := fun c free => by
      by_cases e : c = b
      · subst e; exact k.handed
      · exact h.handed c (away free e)
    handedLine := fun c m free => by
      by_cases e : c = b
      · subst e; exact k.handedLine m
      · exact h.handedLine c m (away free e)
    linkDown := fun down c free => by
      by_cases e : c = b
      · subst e; exact k.linkDown down
      · exact h.linkDown down c (away free e) }

/-- A line is put down with the bearer it uses. -/
theorem Tied.putUse (h : Tied I (l :: L) (b :: B) s) (out : l ∉ L) (free : b ∉ B)
    (names : s.call[l].bearer = some b) (line : (s.bearer b).line = some l)
    (agrees : useAgrees s.call[l].state (s.bearer b).state) (k : LineSettled I l s) (kb : BearerSettled b s) :
    Tied I L B s :=
  have away {m : Line} (out : m ∉ L) (ne : m ≠ l) : m ∉ l :: L := List.not_mem_cons_of_ne_of_not_mem ne out
  have off {c : Bearer} (free : c ∉ B) (ne : c ≠ b) : c ∉ b :: B := List.not_mem_cons_of_ne_of_not_mem ne free
  have only {m : Line} (outM : m ∉ L) (namesM : s.call[m].bearer = some b) : m = l := by
    by_contra ne
    exact ((h.named m b).mp ⟨away outM ne, namesM⟩).1 List.mem_cons_self
  have onlyB {c : Bearer} (freeC : c ∉ B) (lineC : (s.bearer c).line = some l) : c = b := by
    by_contra ne
    exact ((h.named l c).mpr ⟨off freeC ne, lineC⟩).1 List.mem_cons_self
  { named := fun m c => by
      constructor
      · rintro ⟨outM, namesM⟩
        by_cases e : m = l
        · subst e
          obtain rfl : c = b := Option.some.inj (namesM.symm.trans names)
          exact ⟨free, line⟩
        · obtain ⟨freeC, lineC⟩ := (h.named m c).mp ⟨away outM e, namesM⟩
          exact ⟨List.not_mem_of_not_mem_cons freeC, lineC⟩
      · rintro ⟨freeC, lineC⟩
        by_cases e : c = b
        · subst e
          obtain rfl : m = l := Option.some.inj (lineC.symm.trans line)
          exact ⟨out, names⟩
        · obtain ⟨outM, namesM⟩ := (h.named m c).mpr ⟨off freeC e, lineC⟩
          exact ⟨List.not_mem_of_not_mem_cons outM, namesM⟩
    agree := fun m c outM namesM => by
      by_cases e : m = l
      · subst e
        obtain rfl : c = b := Option.some.inj (namesM.symm.trans names)
        exact agrees
      · exact h.agree m c (away outM e) namesM
    lineNames := fun m outM none => by
      by_cases e : m = l
      · subst e
        exact absurd (names.symm.trans none) (by simp)
      · exact h.lineNames m (away outM e) none
    bearerNames := fun c freeC none => by
      by_cases e : c = b
      · subst e
        exact absurd (line.symm.trans none) (by simp)
      · exact h.bearerNames c (off freeC e) none
    connectionOnce := h.connectionOnce
    connected := fun c freeC => by
      by_cases e : c = b
      · subst e; exact kb.connected
      · exact h.connected c (off freeC e)
    handed := fun c freeC => by
      by_cases e : c = b
      · subst e; exact kb.handed
      · exact h.handed c (off freeC e)
    handedLine := fun c m freeC => by
      by_cases e : c = b
      · subst e; exact kb.handedLine m
      · exact h.handedLine c m (off freeC e)
    arrivedOnce := h.arrivedOnce
    stands := fun a mem outA => by
      by_cases e : a.line = l
      · rw [← k.stands a mem e]
        simp only [e]
      · exact h.stands a mem (away outA e)
    arrived := fun m outM joined => by
      by_cases e : m = l
      · subst e; exact k.arrived joined
      · exact h.arrived m (away outM e) joined
    isolated := fun i on m outM => by
      by_cases e : m = l
      · subst e; exact k.isolated i on
      · exact h.isolated i on m (away outM e)
    disabled := fun m outM => by
      by_cases e : m = l
      · subst e; exact k.disabled
      · exact h.disabled m (away outM e)
    tested := fun m outM => by
      by_cases e : m = l
      · subst e; exact k.tested
      · exact h.tested m (away outM e)
    looks := fun x on outX => by
      by_cases e : x.line = l
      · exact k.looks x on e
      · exact h.looks x on (away outX e)
    linkDown := fun down c freeC => by
      by_cases e : c = b
      · subst e; exact kb.linkDown down
      · exact h.linkDown down c (off freeC e) }

/-! ## Changes of call state -/

theorem enter_get (n : CallRecord) : (enter l n s).call[m] = if m = l then n.entering s.call[l] else s.call[m] := by
  rw [enter_call, set_get]

theorem enter_arrivals (n : CallRecord) : (enter l n s).arbiter.arrivals =
    if n.state.joined then s.arbiter.arrivals else s.arbiter.arrivals.filter fun a => a.line ≠ l := by
  rw [enter_frame]

theorem enter_handover (n : CallRecord) : (enter l n s).arbiter.handover = s.arbiter.handover := by
  rw [enter_frame]

@[simp] theorem CallRecord.entering_bearer (n old : CallRecord) : (n.entering old).bearer = n.bearer := by
  unfold entering
  split <;> rfl

@[simp] theorem CallRecord.entering_prior (n old : CallRecord) : (n.entering old).prior = n.prior := by
  unfold entering
  split <;> rfl

/-- What enters a state that is not of the arrival list is settled as its settings and the session have it. -/
theorem enter_settled {n : CallRecord} (unjoined : n.state.joined = false)
    (disabled : s.entries[l].enabled = false ↔ n.state = .disabled ∨ n.state = .testing ∧ n.prior = some .disabled)
    (tested : n.state = .testing ↔ s.test.session.map Session.line = some l)
    (looks : ∀ x, s.test.session = some x → x.line = l → s.looksFit x) : LineSettled I l (enter l n s) := by
  have record : (enter l n s).call[l] = n.entering s.call[l] := by rw [enter_get, if_pos rfl]
  have entries : (enter l n s).entries = s.entries := enter_sameBut .entries (by decide)
  have test : (enter l n s).test = s.test := enter_sameBut .test (by decide)
  refine ⟨fun a mem line => ?_, fun joined => ?_, fun _ _ => ?_, ?_, ?_, fun x on line => ?_⟩
  · rw [enter_arrivals, unjoined] at mem
    simp [line] at mem
  · rw [record, CallRecord.entering_state, unjoined] at joined
    exact absurd joined (by decide)
  · rw [record, CallRecord.entering_state, unjoined]
  · rw [record, entries, CallRecord.entering_state, CallRecord.entering_prior, disabled]
  · rw [record, test, CallRecord.entering_state, tested]
  · rw [State.looksFit, entries]
    exact looks x (test ▸ on) line

/-- A line in service is settled in a state of its own that is not of the arrival list. -/
theorem enter_settled_inService {n : CallRecord} (k : s.inService l) (unjoined : n.state.joined = false)
    (supervised : n.state.supervised = true) : LineSettled I l (enter l n s) := by
  obtain ⟨enabled, untested⟩ := k
  have notDisabled : n.state ≠ .disabled := fun e => absurd supervised (by rw [e]; decide)
  have notTesting : n.state ≠ .testing := fun e => absurd supervised (by rw [e]; decide)
  refine enter_settled unjoined (iff_of_false (by rw [enabled]; decide) ?_) (iff_of_false notTesting untested)
    fun x on line => absurd (by rw [on, ← line]; rfl) untested
  exact fun e => e.elim notDisabled fun e => notTesting e.1

/-- A line in service that is in the arrival list with the standing of its call state is settled, unless the unit is
Isolated. -/
theorem LineSettled.ofStanding {x : Standing} (k : s.inService l) (state : s.call[l].state = x.state)
    (entry : ∃ a ∈ s.arbiter.arrivals, a.line = l)
    (standing : ∀ a ∈ s.arbiter.arrivals, a.line = l → a.standing = x)
    (service : I → s.monitor.isolated = false) : LineSettled I l s := by
  obtain ⟨enabled, untested⟩ := k
  refine ⟨fun a mem line => ?_, fun _ => entry, fun i on => ?_, ?_, ?_, fun y on line => ?_⟩
  · rw [state, standing a mem line]
  · exact absurd on (by rw [service i]; decide)
  · rw [enabled, state]
    exact iff_of_false (by decide) (by cases x <;> simp [Standing.state])
  · rw [state]
    exact iff_of_false (by cases x <;> simp [Standing.state]) untested
  · exact absurd (by rw [on, ← line]; rfl) untested

/-- A line in hand of the arrival list is settled in a state of it, unless the unit is Isolated. -/
theorem enter_settled_joined {n : CallRecord} {x : Standing} (k : s.inService l) (state : n.state = x.state)
    (entry : ∃ a ∈ s.arbiter.arrivals, a.line = l)
    (standing : ∀ a ∈ s.arbiter.arrivals, a.line = l → a.standing = x)
    (service : I → s.monitor.isolated = false) : LineSettled I l (enter l n s) := by
  have joined : n.state.joined = true := by cases x <;> rw [state] <;> rfl
  have record : (enter l n s).call[l] = n.entering s.call[l] := by rw [enter_get, if_pos rfl]
  have isolated : (enter l n s).monitor.isolated = s.monitor.isolated :=
    Monitor.watch_isolated (enter_sameBut .watch (by decide))
  have arrivals : (enter l n s).arbiter.arrivals = s.arbiter.arrivals := by rw [enter_arrivals, if_pos joined]
  refine .ofStanding (k.ofSameBut enter_sameBut (by decide)) (x := x) ?_ ?_ ?_ fun i => isolated.trans (service i)
  · rw [record, CallRecord.entering_state, state]
  · rw [arrivals]
    exact entry
  · rw [arrivals]
    exact standing

theorem LineSettled.congr (k : LineSettled I l s) (call : t.call = s.call)
    (arrivals : t.arbiter.arrivals = s.arbiter.arrivals) (entries : t.entries = s.entries) (test : t.test = s.test)
    (isolated : t.monitor.isolated = s.monitor.isolated) : LineSettled I l t := by
  obtain ⟨stands, arrived, service, disabled, tested, looks⟩ := k
  refine ⟨?_, ?_, ?_, ?_, ?_, ?_⟩
  · rw [call, arrivals]; exact stands
  · rw [call, arrivals]; exact arrived
  · rw [call, isolated]; exact service
  · rw [call, entries]; exact disabled
  · rw [call, test]; exact tested
  · unfold State.looksFit; rw [entries, test]; exact looks

theorem BearerSettled.congr (k : BearerSettled b s) (bearers : t.bearers = s.bearers)
    (handover : t.arbiter.handover = s.arbiter.handover) : BearerSettled b t := by
  obtain ⟨connected, handed, handedLine, linkDown⟩ := k
  refine ⟨?_, ?_, ?_, ?_⟩ <;> simp only [State.bearer, State.hands, bearers, handover] at *
  · exact connected
  · exact handed
  · exact handedLine
  · exact linkDown

/-- The line in hand goes to a state in which it uses no bearer. -/
theorem Tied.enterUnused {n : CallRecord} (h : Tied I (l :: L) B s) (names : n.bearer = none)
    (unused : n.state ≠ .seizing ∧ n.state ≠ .connected ∧ n.state ≠ .ringing)
    (k : LineSettled I l (enter l n s)) : Tied I L B (enter l n s) := by
  have record : (enter l n s).call[l] = n.entering s.call[l] := by rw [enter_get, if_pos rfl]
  refine (h.entered List.mem_cons_self).putLine ?_ ?_ k
  · rw [record, CallRecord.entering_bearer, names]
  · rw [record, CallRecord.entering_state]
    exact unused

/-- The line and the bearer in hand go to a state in which the line uses the bearer. -/
theorem Tied.enterUse {n : CallRecord} (h : Tied I (l :: L) (b :: B) s) (out : l ∉ L) (free : b ∉ B)
    (names : n.bearer = some b) (line : (s.bearer b).line = some l)
    (agrees : useAgrees n.state (s.bearer b).state) (k : LineSettled I l (enter l n s))
    (kb : BearerSettled b s) : Tied I L B (enter l n s) := by
  have record : (enter l n s).call[l] = n.entering s.call[l] := by rw [enter_get, if_pos rfl]
  have bearers : (enter l n s).bearers = s.bearers := enter_sameBut .bearers (by decide)
  have same : (enter l n s).bearer b = s.bearer b := by rw [State.bearer, bearers]; rfl
  refine (h.entered List.mem_cons_self).putUse out free ?_ ?_ ?_ k (kb.congr bearers (enter_handover n))
  · rw [record, CallRecord.entering_bearer, names]
  · rw [same, line]
  · rw [record, CallRecord.entering_state, same]
    exact agrees

end

end Sys2Proof.Machine
end

section
/-! What ties calls is kept by the operations of the Bearer Table, the Call Handler and the Admission Arbiter. -/

namespace Sys2Proof.Machine

section
variable {I : Prop} {L : List Line} {B : List Bearer} {s t : State} {l m p : Line} {b c v : Bearer}

/-! ## Bearers -/

theorem setBearer_bearer {x : BearerRecord} : (s.setBearer b x).bearer c = if c = b then x else s.bearer c :=
  set_get ..

theorem clearBearer_bearer : (clearBearer b s).bearer c =
    if c = b then (s.bearer b).toClearing (secondsMs s.tables.timers.guard) else s.bearer c := by
  rw [clearBearer_frame]
  exact set_get ..

theorem freeBearer_bearer : (freeBearer b s).bearer c = if c = b then (s.bearer b).freed else s.bearer c :=
  set_get ..

theorem engage_bearer : (engage b l s).bearer c = if c = b then (s.bearer b).give .engaged l else s.bearer c :=
  set_get ..

theorem clearBearer_hands : ¬(clearBearer b s).hands b m := by
  rw [clearBearer_frame]
  rintro ⟨h, record, rfl, -⟩
  simp only at record
  split at record
  · exact absurd record (by simp)
  · next other => exact other (by rw [record]; rfl)

/-- A bearer in hand that is given back is tied again. -/
theorem Tied.cleared (h : Tied I L (b :: B) s) (up : s.bearers.linkUp = true) : Tied I L B (clearBearer b s) := by
  have given : Tied I L (b :: B) (clearBearer b s) := by
    have out : Tied I L (b :: B) (disconnect b
        (s.setBearer b ((s.bearer b).toClearing (secondsMs s.tables.timers.guard)))) :=
      (h.setBearer List.mem_cons_self).disconnected List.mem_cons_self
    refine .ite (fun its => out.setHandover (fun r on => ?_) fun r on => nomatch on) fun _ => out
    rw [on] at its
    exact Option.some.inj its ▸ List.mem_cons_self
  have record : (clearBearer b s).bearer b = (s.bearer b).toClearing (secondsMs s.tables.timers.guard) := by
    rw [clearBearer_bearer, if_pos rfl]
  have unhanded : ¬∃ m, (clearBearer b s).hands b m := fun ⟨_, hands⟩ => clearBearer_hands hands
  have connection : (clearBearer b s).bearers.connection = s.bearers.connection.filter fun x => x ≠ b := by
    rw [clearBearer_frame]
  have link : (clearBearer b s).bearers.linkUp = s.bearers.linkUp := by rw [clearBearer_frame]
  refine given.putBearer (by rw [record]; rfl) (fun _ => by rw [record]; rfl) ⟨?_, ?_, fun m hands => ?_, ?_⟩
  · rw [connection, record]
    exact iff_of_false (by simp) (by simp [BearerRecord.toClearing, BearerRecord.withLine])
  · rw [record]
    exact iff_of_false (by simp [BearerRecord.toClearing, BearerRecord.withLine]) unhanded
  · exact absurd ⟨m, hands⟩ unhanded
  · rw [link, up]
    exact fun down => absurd down (by decide)

theorem BearerRecord.freed_state (r : BearerRecord) : r.freed.state = if r.barPending then .barred else .idle := rfl

/-- A bearer in hand that the exchange frees is tied again, if it is in no handover. -/
theorem Tied.freed (h : Tied I L (b :: B) s) (up : s.bearers.linkUp = true) (unhanded : ∀ m, ¬s.hands b m) :
    Tied I L B (freeBearer b s) := by
  have given : Tied I L (b :: B) (freeBearer b s) := (h.setBearer List.mem_cons_self).disconnected List.mem_cons_self
  have record : (freeBearer b s).bearer b = (s.bearer b).freed := by rw [freeBearer_bearer, if_pos rfl]
  have connection : (freeBearer b s).bearers.connection = s.bearers.connection.filter fun x => x ≠ b := rfl
  have state : ((freeBearer b s).bearer b).state = .barred ∨ ((freeBearer b s).bearer b).state = .idle := by
    rw [record, BearerRecord.freed_state]
    split <;> simp
  refine given.putBearer (by rw [record]; rfl) (fun busy => ?_) ⟨?_, ?_, fun m hands => absurd hands (unhanded m), ?_⟩
  · rcases state with e | e <;> rw [e] at busy <;> exact absurd busy (by decide)
  · rw [connection]
    exact iff_of_false (by simp) (by rcases state with e | e <;> rw [e] <;> decide)
  · exact iff_of_false (by rcases state with e | e <;> rw [e] <;> decide) fun ⟨m, hands⟩ => unhanded m hands
  · exact fun down => absurd (up.symm.trans down) (by decide)

/-! ## What a line and its bearer are when they are taken up -/

theorem Tied.linkUp_of_present (h : Tied I L B s) (free : b ∉ B) (present : (s.bearer b).state ≠ .absent) :
    s.bearers.linkUp = true := by
  by_contra down
  exact present (h.linkDown (by simpa using down) b free)

theorem useAgrees_present {x : CallState} {y : BearerState} (h : useAgrees x y) : y ≠ .absent := by
  rintro rfl
  cases x <;> exact h

/-- A line that names a bearer has the link Up. -/
theorem Tied.linkUp_of_names (h : Tied I L B s) (out : l ∉ L) (names : s.call[l].bearer = some b) :
    s.bearers.linkUp = true :=
  h.linkUp_of_present (h.free_of_names out names).1 (useAgrees_present (h.agree l b out names))

/-- A line that is not Seizing, Connected or Ringing names no bearer. -/
theorem Tied.unnamed (h : Tied I L B s) (out : l ∉ L)
    (unused : s.call[l].state ≠ .seizing ∧ s.call[l].state ≠ .connected ∧ s.call[l].state ≠ .ringing) :
    s.call[l].bearer = none := by
  obtain ⟨notSeizing, notConnected, notRinging⟩ := unused
  by_contra some
  obtain ⟨b, names⟩ := Option.ne_none_iff_exists'.mp some
  have agrees := h.agree l b out names
  generalize s.call[l].state = x at *
  cases x <;> first | exact agrees | contradiction

/-- Only the line of the arrival list's entry stands in it. -/
theorem Tied.no_entry (h : Tied I L B s) (out : l ∉ L) (state : s.call[l].state.joined = false) :
    ∀ a ∈ s.arbiter.arrivals, a.line ≠ l := by
  rintro a mem rfl
  have stands := h.stands a mem out
  rw [stands] at state
  revert state
  cases a.standing <;> simp [Standing.state, CallState.joined]

/-- A joined line keeps the unit out of Isolated service. -/
theorem Tied.service (h : Tied I L B s) (out : l ∉ L) (state : s.call[l].state.joined = true) (i : I) :
    s.monitor.isolated = false := by
  by_contra on
  exact absurd (state.symm.trans (h.isolated i (by simpa using on) l out)) (by decide)

/-- A bearer that is not in Handover is in no handover record. -/
theorem Tied.unhanded (h : Tied I L B s) (free : b ∉ B) (state : (s.bearer b).state ≠ .handover) (m : Line) :
    ¬s.hands b m := fun hands => state ((h.handed b free).mpr ⟨m, hands⟩)

/-! ## Calls -/

/-- The line in hand goes Idle. -/
theorem Tied.idle (h : Tied I (l :: L) B s) (k : s.inService l) : Tied I L B (goIdle l s) := by
  refine Tied.ofSameBut ?_ callTarget_sameBut (by decide)
  exact h.enterUnused rfl (by decide) (enter_settled_inService k rfl rfl)

/-- A line that names no bearer goes Idle. -/
theorem Tied.idleOf (h : Tied I L B s) (names : s.call[l].bearer = none) (k : s.inService l) :
    Tied I L B (goIdle l s) := (h.takeLine names).idle k

/-- The line in hand is locked out. -/
theorem Tied.lockedOut {x : LockoutCause} (h : Tied I (l :: L) B s) (k : s.inService l) :
    Tied I L B (enterLockout l x s) := by
  have locked : Tied I L B (callTarget l .active (enter l (lockoutRecord x s) s)) := by
    refine Tied.ofSameBut ?_ callTarget_sameBut (by decide)
    exact h.enterUnused rfl ⟨nofun, nofun, nofun⟩ (enter_settled_inService k rfl rfl)
  have still : (callTarget l .active (enter l (lockoutRecord x s) s)).inService l :=
    k.ofSameBut (SameBut.then (SameBut.then (.refl [.call, .brk, .arbiter, .ringer, .feed] s) enter_sameBut (by decide))
      callTarget_sameBut (by decide)) (by decide)
  unfold enterLockout
  dsimp only
  split
  · refine locked.idleOf ?_ still
    change (enter l (lockoutRecord x s) s).call[l].bearer = none
    rw [enter_get, if_pos rfl, CallRecord.entering_bearer]
    rfl
  · exact locked

/-- The bearer that the line names is given back, with the line left in hand. -/
theorem Tied.released {x : ReleaseCause} (h : Tied I L B s) (out : l ∉ L) :
    Tied I (l :: L) B (releaseUse l x s) := by
  unfold releaseUse
  split
  · next b names =>
    exact ((h.takeUse out names).cleared (h.linkUp_of_names out names)).ofSameBut releaseReport_sameBut (by decide)
  · next names => exact h.takeLine names

/-- The line and the bearer in hand are connected. -/
theorem Tied.connect (h : Tied I (l :: L) (b :: B) s) (out : l ∉ L) (free : b ∉ B) (k : s.inService l)
    (up : s.bearers.linkUp = true) (new : b ∉ s.bearers.connection) (unhanded : ∀ m, ¬s.hands b m)
    (reported : SameBut [.reports] (engage b l s) t) : Tied I L B (enter l (connectedRecord b) t) := by
  have engaged : Tied I (l :: L) (b :: B) (engage b l s) := h.engagedBy List.mem_cons_self new
  have record : (engage b l s).bearer b = (s.bearer b).give .engaged l := by rw [engage_bearer, if_pos rfl]
  have bearers : t.bearers = (engage b l s).bearers := reported .bearers (by decide)
  have arbiter : t.arbiter = s.arbiter := reported .arbiter (by decide)
  have same : t.bearer b = (s.bearer b).give .engaged l := by
    rw [State.bearer, bearers]
    exact record
  have settled : BearerSettled b (engage b l s) := by
    refine ⟨iff_of_true ?_ (by rw [record]; rfl), iff_of_false (by rw [record]; nofun) ?_, fun m hands => ?_, ?_⟩
    · exact List.mem_append_right _ List.mem_cons_self
    · exact fun ⟨m, hands⟩ => unhanded m hands
    · exact absurd hands (unhanded m)
    · exact fun down => absurd (up.symm.trans down) (by decide)
  have inService : t.inService l :=
    k.ofSameBut (SameBut.then (SameBut.then (.refl [.bearers, .reports] s) engage_sameBut (by decide)) reported
      (by decide)) (by decide)
  refine (engaged.ofSameBut reported (by decide)).enterUse out free rfl (by rw [same]; rfl) ?_
    (enter_settled_inService inService rfl rfl) (settled.congr bearers (by rw [arbiter]; rfl))
  rw [same]
  trivial

/-- A Ringing line is answered. -/
theorem Tied.answered (h : Tied I L B s) (out : l ∉ L) (ringing : s.call[l].state = .ringing) :
    Tied I L B (answerCall l s) := by
  unfold answerCall
  split
  · next b names =>
    obtain ⟨free, -⟩ := h.free_of_names out names
    have reserved : (s.bearer b).state = .reserved := by
      have agrees := h.agree l b out names
      rw [ringing] at agrees
      revert agrees
      cases (s.bearer b).state <;> simp [useAgrees]
    have new : b ∉ s.bearers.connection := fun mem => by
      rw [h.connected b free, reserved] at mem
      exact nomatch mem
    have unhanded := h.unhanded free (by rw [reserved]; nofun)
    have inService := h.inService out (by rw [ringing]; rfl)
    have connected := (h.takeUse out names).connect out free inService (h.linkUp_of_names out names) new unhanded
      (.refl _ _)
    exact (connected.ofSameBut callTarget_sameBut (by decide)).ofSameBut lineReport_sameBut (by decide)
  · exact h

theorem Tied.ringLimit (h : Tied I L B s) (out : l ∉ L) : Tied I L B (ringLimitReached l s) := by
  unfold ringLimitReached
  split
  · next ringing =>
    have inService := h.inService out (by rw [ringing]; rfl)
    split
    · next b names =>
      have reported : Tied I L B (s.lineReport .ringTimeout l (some b) none) :=
        h.ofSameBut lineReport_sameBut (by decide)
      have cleared : Tied I (l :: L) B (clearBearer b (s.lineReport .ringTimeout l (some b) none)) :=
        (reported.takeUse out names).cleared (reported.linkUp_of_names out names)
      exact cleared.idle (inService.ofSameBut (SameBut.then (SameBut.then (.refl [.bearers, .arbiter, .reports] s)
        lineReport_sameBut (by decide)) clearBearer_sameBut (by decide)) (by decide))
    · next names => exact h.idleOf names inService
  · exact h

/-- A line in service becomes Faulted. -/
theorem Tied.faulted {x : FaultKind} (h : Tied I L B s) (out : l ∉ L) (k : s.inService l) :
    Tied I L B (faultEntry l x s) := by
  unfold faultEntry
  dsimp only
  have reported : SameBut [.reports] s
      (s.report true { kind := .fault, line := some l, bearer := s.call[l].bearer, value := some x.code }) :=
    report_sameBut
  have released := (h.ofSameBut reported (by decide)).released (x := .fault) out
  have inService := (k.ofSameBut reported (by decide)).ofSameBut (releaseUse_sameBut (l := l) (c := .fault)) (by decide)
  refine Tied.ofSameBut ?_ callTarget_sameBut (by decide)
  have names : (faultedRecord x).bearer = none := by cases x <;> rfl
  exact released.enterUnused names (by rw [faultedRecord_state]; decide)
    (enter_settled_inService inService (by rw [faultedRecord_state]; rfl) (by rw [faultedRecord_state]; rfl))

/-- A phase of a lockout, a fault's retry or a digit changes nothing that ties. -/
theorem Tied.setCallFeed {x : CallRecord} {y : FeedMode} (h : Tied I L B s) (state : x.state = s.call[l].state)
    (bearer : x.bearer = s.call[l].bearer) (prior : x.prior = s.call[l].prior) :
    Tied I L B (callTarget l y (s.setCall l x)) :=
  (h.setCall_same state bearer prior).ofSameBut callTarget_sameBut (by decide)

theorem Tied.eachKept {α : Type} {xs : List α} {f : α → State → State} (h : Tied I L B s)
    (k : ∀ x v, Tied I L B v → Tied I L B (f x v)) : Tied I L B (each xs f s) :=
  each_keeps (Tied I L B) f xs s (fun x _ v => k x v) h

theorem Tied.boundaryPassed (h : Tied I [] [] s) : Tied I [] [] (phaseBoundary s) := by
  have limits : ∀ m u, Tied I [] [] u → Tied I [] [] (ringLimitReached m u) :=
    fun _ _ hu => hu.ringLimit List.not_mem_nil
  unfold phaseBoundary
  split
  · exact h
  · next q time running =>
    have ended := h.eachKept (f := fun l => callTarget l .standby) (xs := s.ringer.phases[q])
      fun _ _ hu => hu.ofSameBut callTarget_sameBut (by decide)
    refine Tied.ofSameBut (.ite (fun _ => ?_) fun _ => ?_) startPhase_sameBut (by decide)
    · refine Tied.eachKept (Tied.ofSameBut ?_ advanceCounts_sameBut (by decide)) limits
      exact ended.ofSameBut setRinger_sameBut (by decide)
    · exact ended.ofSameBut setRinger_sameBut (by decide)

end

end Sys2Proof.Machine
end

section
/-! What ties calls is kept by the Admission Arbiter and by the decisions of a line. -/

namespace Sys2Proof.Machine

section
variable {I : Prop} {L : List Line} {B : List Bearer} {s t : State} {l m p : Line} {b c v : Bearer}

/-! ## Grants -/

theorem setStanding_entry {x : Standing} (h : ∃ a ∈ s.arbiter.arrivals, a.line = m) :
    ∃ a ∈ (setStanding l x s).arbiter.arrivals, a.line = m := by
  obtain ⟨a, mem, rfl⟩ := h
  refine ⟨_, List.mem_map.mpr ⟨a, mem, rfl⟩, ?_⟩
  split <;> rfl

theorem setStanding_standing {x : Standing} :
    ∀ a ∈ (setStanding l x s).arbiter.arrivals, a.line = l → a.standing = x := by
  intro a mem line
  obtain ⟨old, -, rfl⟩ := List.mem_map.mp mem
  by_cases its : old.line = l
  · rw [if_pos its]
  · rw [if_neg its] at line
    exact absurd line its

/-- A line in hand with a place in the arrival list is granted an Idle bearer. -/
theorem Tied.granted (h : Tied I (l :: L) B s) (out : l ∉ L) (free : b ∉ B) (k : s.inService l)
    (entry : ∃ a ∈ s.arbiter.arrivals, a.line = l) (service : I → s.monitor.isolated = false)
    (idle : (s.bearer b).state = .idle) : Tied I L B (grantBearer l b s) := by
  have up := h.linkUp_of_present free (by rw [idle]; nofun)
  have given : Tied I (l :: L) (b :: B) (setStanding l .seizing (giveBearer b .held l s)) :=
    ((h.takeBearer (h.lineless_of_idle free idle)).setBearer List.mem_cons_self).standingSet List.mem_cons_self
  have record : (setStanding l .seizing (giveBearer b .held l s)).bearer b = (s.bearer b).give .held l :=
    State.setBearer_get ..
  have settled : BearerSettled b (setStanding l .seizing (giveBearer b .held l s)) := by
    have unhanded := h.unhanded free (by rw [idle]; nofun)
    refine ⟨iff_of_false ?_ (by rw [record]; nofun), iff_of_false (by rw [record]; nofun) ?_, fun m hands => ?_, ?_⟩
    · change b ∉ s.bearers.connection
      rw [h.connected b free, idle]
      nofun
    · exact fun ⟨m, hands⟩ => unhanded m hands
    · exact absurd hands (unhanded m)
    · exact fun down => absurd (up.symm.trans down) (by decide)
  have inService : (setStanding l .seizing (giveBearer b .held l s)).inService l :=
    k.ofSameBut (SameBut.then (SameBut.then (.refl [.bearers, .arbiter] s) giveBearer_sameBut (by decide))
      setStanding_sameBut (by decide)) (by decide)
  refine Tied.ofSameBut ?_ seizeReport_sameBut (by decide)
  exact given.enterUse out free rfl (by rw [record]; rfl) (by rw [record]; trivial)
    (enter_settled_joined inService (x := .seizing) rfl (setStanding_entry entry) setStanding_standing service) settled

/-- A waiting line is granted an Idle bearer. -/
theorem Tied.grantedWaiter (h : Tied I L B s) (out : l ∉ L) (free : b ∉ B) (waiting : s.call[l].state = .waiting)
    (idle : (s.bearer b).state = .idle) : Tied I L B (grantBearer l b s) :=
  (h.takeLine (h.unnamed out (by rw [waiting]; decide))).granted out free
    (h.inService out (by rw [waiting]; rfl)) (h.arrived l out (by rw [waiting]; rfl))
    (h.service out (by rw [waiting]; rfl)) idle

theorem eligible_idle {x : Class} (h : s.eligible x b = true) : (s.bearer b).state = .idle := by
  simp only [State.eligible, Bool.and_eq_true, decide_eq_true_eq] at h
  exact h.1.1.1

theorem lowestEligible_idle {x : Class} (h : s.lowestEligible x = some b) : (s.bearer b).state = .idle :=
  eligible_idle (List.find?_some h)

/-! ## Preemption -/

theorem grantBearer_get (ne : m ≠ l) : (grantBearer l b s).call[m] = s.call[m] := by
  have called : (grantBearer l b s).call = (enter l (seizingRecord b (setStanding l .seizing (giveBearer b .held l s)))
      (setStanding l .seizing (giveBearer b .held l s))).call := seizeReport_sameBut .call (by decide)
  rw [called, enter_get, if_neg ne]
  rfl

theorem goIdle_get (ne : m ≠ l) : (goIdle l s).call[m] = s.call[m] := by
  change (enter l { state := .idle } s).call[m] = _
  rw [enter_get, if_neg ne]

theorem enterLockout_get {x : LockoutCause} (ne : m ≠ l) : (enterLockout l x s).call[m] = s.call[m] := by
  have locked : (callTarget l .active (enter l (lockoutRecord x s) s)).call[m] = s.call[m] := by
    change (enter l (lockoutRecord x s) s).call[m] = _
    rw [enter_get, if_neg ne]
  unfold enterLockout
  dsimp only
  split
  · rw [goIdle_get ne, locked]
  · exact locked

theorem enterLockout_handover {x : LockoutCause} : (enterLockout l x s).arbiter.handover = s.arbiter.handover := by
  have locked : (callTarget l .active (enter l (lockoutRecord x s) s)).arbiter.handover = s.arbiter.handover :=
    enter_handover _
  unfold enterLockout
  dsimp only
  split
  · exact (enter_handover _).trans locked
  · exact locked

/-- The parts that an entry into Lockout changes. -/
theorem enterLockout_bearers {x : LockoutCause} : (enterLockout l x s).bearers = s.bearers :=
  enterLockout_sameBut .bearers (by decide)

/-- The state in which a handover has begun (R115), from the one in which the victim has been locked out. -/
def handedOver (p : Line) (v : Bearer) (s : State) : State :=
  (enter p { state := .seizing, bearer := some v }
    (setStanding p .seizing (disconnect v (giveBearer v .handover p s)))).setHandover
    (some { bearer := v, line := p, left := Config.handoverMs })

theorem handedOver_bearer : (handedOver p v s).bearer v = (s.bearer v).give .handover p := by
  have bearers : (handedOver p v s).bearers = (disconnect v (giveBearer v .handover p s)).bearers :=
    (enter_sameBut .bearers (by decide)).trans rfl
  rw [State.bearer, bearers]
  exact State.setBearer_get ..

theorem handedOver_connection : (handedOver p v s).bearers.connection = s.bearers.connection.filter fun x => x ≠ v := by
  have bearers : (handedOver p v s).bearers = (disconnect v (giveBearer v .handover p s)).bearers :=
    (enter_sameBut .bearers (by decide)).trans rfl
  rw [bearers]
  rfl

theorem handedOver_linkUp : (handedOver p v s).bearers.linkUp = s.bearers.linkUp := by
  have bearers : (handedOver p v s).bearers = (disconnect v (giveBearer v .handover p s)).bearers :=
    (enter_sameBut .bearers (by decide)).trans rfl
  rw [bearers]
  rfl

theorem handedOver_call : ∃ old, (handedOver p v s).call[p] =
    CallRecord.entering { state := .seizing, bearer := some v } old :=
  ⟨_, (enter_get (m := p) _).trans (if_pos rfl)⟩

theorem handedOver_settled (k : s.inService p) (entry : ∃ a ∈ s.arbiter.arrivals, a.line = p)
    (service : I → s.monitor.isolated = false) : LineSettled I p (handedOver p v s) := by
  have inService : (setStanding p .seizing (disconnect v (giveBearer v .handover p s))).inService p :=
    k.ofSameBut (SameBut.then (SameBut.then (SameBut.then (.refl [.bearers, .arbiter] s) giveBearer_sameBut
      (by decide)) disconnect_sameBut (by decide)) setStanding_sameBut (by decide)) (by decide)
  have entered : LineSettled I p (enter p { state := .seizing, bearer := some v }
      (setStanding p .seizing (disconnect v (giveBearer v .handover p s)))) :=
    enter_settled_joined inService (x := .seizing) rfl (setStanding_entry entry) setStanding_standing service
  exact entered.congr rfl rfl rfl rfl rfl

theorem handedOver_bearerSettled (up : s.bearers.linkUp = true) : BearerSettled v (handedOver p v s) := by
  refine ⟨iff_of_false ?_ ?_, iff_of_true ?_ ⟨p, _, rfl, rfl, rfl⟩, ?_, fun down => ?_⟩
  · rw [handedOver_connection]
    simp
  · rw [handedOver_bearer]
    nofun
  · rw [handedOver_bearer]
    rfl
  · rintro _ ⟨r, on, -, rfl⟩
    cases on
    rw [handedOver_bearer]
    rfl
  · rw [handedOver_linkUp, up] at down
    exact nomatch down

/-- A bearer in hand is taken into Handover for a waiting line, where none is in flight. -/
theorem Tied.takenOver (h : Tied I [] [v] s) (waiting : s.call[p].state = .waiting)
    (none : s.arbiter.handover = none) (up : s.bearers.linkUp = true) : Tied I [] [] (handedOver p v s) := by
  have inHand : Tied I [p] [v] (setStanding p .seizing (disconnect v (giveBearer v .handover p s))) :=
    (((h.takeLine (h.unnamed List.not_mem_nil (by rw [waiting]; decide))).setBearer
      List.mem_cons_self).disconnected List.mem_cons_self).standingSet List.mem_cons_self
  have handover : (enter p { state := .seizing, bearer := some v }
      (setStanding p .seizing (disconnect v (giveBearer v .handover p s)))).arbiter.handover = .none :=
    (enter_handover _).trans none
  have recorded : Tied I [p] [v] (handedOver p v s) :=
    (inHand.entered List.mem_cons_self).setHandover (fun r on => by rw [handover] at on; exact nomatch on)
      fun r on => Option.some.inj on ▸ List.mem_cons_self
  have settled : LineSettled I p (handedOver p v s) :=
    handedOver_settled (h.inService List.not_mem_nil (by rw [waiting]; rfl))
      (h.arrived p List.not_mem_nil (by rw [waiting]; rfl)) (h.service List.not_mem_nil (by rw [waiting]; rfl))
  obtain ⟨old, call⟩ := handedOver_call (p := p) (v := v) (s := s)
  refine recorded.putUse List.not_mem_nil List.not_mem_nil ?_ ?_ ?_ settled (handedOver_bearerSettled up)
  · rw [call, CallRecord.entering_bearer]
  · rw [handedOver_bearer]
    rfl
  · rw [call, handedOver_bearer, CallRecord.entering_state]
    trivial

/-- The handover of an Engaged bearer to a waiting line begins. -/
theorem Tied.handoverStarted (h : Tied I [] [] s) (waiting : s.call[p].state = .waiting)
    (engaged : (s.bearer v).state = .engaged) (none : s.arbiter.handover = none) :
    Tied I [] [] (startHandover p v s) := by
  unfold startHandover
  split
  · exact h
  · next old line =>
    obtain ⟨-, names⟩ := h.names_of_line List.not_mem_nil line
    have connected : s.call[old].state = .connected := by
      have agrees := h.agree old v List.not_mem_nil names
      rw [engaged] at agrees
      revert agrees
      cases s.call[old].state <;> simp [useAgrees]
    have other : p ≠ old := by
      rintro rfl
      exact nomatch waiting.symm.trans connected
    have reported : SameBut [.reports] s
        (s.report true { kind := .preempted, line := some old, bearer := some v }) := report_sameBut
    have locked : Tied I [] [v] (enterLockout old .preempted
        (s.report true { kind := .preempted, line := some old, bearer := some v })) :=
      ((h.ofSameBut reported (by decide)).takeUse List.not_mem_nil names).lockedOut
        ((h.inService List.not_mem_nil (by rw [connected]; rfl)).ofSameBut reported (by decide))
    refine locked.takenOver ?_ (enterLockout_handover.trans none) ?_
    · rw [enterLockout_get other]
      exact waiting
    · rw [enterLockout_bearers]
      exact h.linkUp_of_names List.not_mem_nil names

/-- A waiting line takes the Priority step. -/
theorem Tied.priorityStepped (h : Tied I [] [] s) (waiting : s.call[p].state = .waiting) :
    Tied I [] [] (priorityStep p s) := by
  unfold priorityStep
  split
  · exact h
  · next none =>
    split
    · next v victim =>
      have engaged : (s.bearer v).state = .engaged :=
        (h.connected v List.not_mem_nil).mp (List.mem_of_find?_eq_some victim)
      exact h.handoverStarted waiting engaged none
    · exact h

/-- The line in hand, which waits and stands nowhere, joins. -/
theorem Tied.joined (h : Tied I [l] [] s) (k : s.inService l) (waiting : s.call[l].state = .waiting)
    (names : s.call[l].bearer = none) (absent : ∀ a ∈ s.arbiter.arrivals, a.line ≠ l)
    (service : s.monitor.isolated = false) : Tied I [] [] (join l s) := by
  unfold join
  dsimp only
  set x : Arrival := { line := l, cls := s.classOf l, standing := .waiting } with entryEq
  have filed : Tied I [l] [] (s.setArrivals (s.arbiter.arrivals ++ [x])) := by
    refine h.setArrivals ?_ fun a out => ?_
    · rw [List.map_append]
      refine List.nodup_append.mpr ⟨h.arrivedOnce, List.nodup_singleton _, ?_⟩
      rintro m mem _ mem' rfl
      obtain ⟨a, memA, line⟩ := List.mem_map.mp mem
      exact absent a memA (line.trans (List.mem_singleton.mp mem'))
    · have other : a ≠ x := by
        rintro rfl
        exact out List.mem_cons_self
      simp [other]
  have inService : (s.setArrivals (s.arbiter.arrivals ++ [x])).inService l := k
  have settled : LineSettled I l (s.setArrivals (s.arbiter.arrivals ++ [x])) := by
    refine .ofStanding inService (x := .waiting) waiting ⟨x, List.mem_append_right _ List.mem_cons_self, rfl⟩ ?_
      fun _ => service
    rintro a mem line
    rcases List.mem_append.mp mem with mem | mem
    · exact absurd line (absent a mem)
    · rw [List.mem_singleton.mp mem]
  have tied : Tied I [] [] (s.setArrivals (s.arbiter.arrivals ++ [x])) :=
    filed.putLine names (by change s.call[l].state ≠ _ ∧ s.call[l].state ≠ _ ∧ s.call[l].state ≠ _; rw [waiting]; decide)
      settled
  split
  · next b lowest => exact tied.grantedWaiter List.not_mem_nil List.not_mem_nil waiting (lowestEligible_idle lowest)
  · exact .ite (fun _ => tied.priorityStepped waiting) fun _ => tied

/-- Off-hook handling of the line in hand, which is in no place of the arrival list. -/
theorem Tied.offHook (h : Tied I [l] [] s) (k : s.inService l) (absent : ∀ a ∈ s.arbiter.arrivals, a.line ≠ l) :
    Tied I [] [] (offHookHandling l s) := by
  refine .ite (fun _ => h.lockedOut k) fun service => ?_
  have entered : Tied I [l] [] (callTarget l .active (enter l (waitingRecord s) s)) :=
    (h.entered List.mem_cons_self).ofSameBut callTarget_sameBut (by decide)
  have record : (enter l (waitingRecord s) s).call[l] = (waitingRecord s).entering s.call[l] := by
    rw [enter_get, if_pos rfl]
  refine entered.joined ?_ ?_ ?_ ?_ ?_
  · exact k.ofSameBut (SameBut.then (SameBut.then (.refl [.call, .brk, .arbiter, .ringer, .feed] s) enter_sameBut
      (by decide)) callTarget_sameBut (by decide)) (by decide)
  · change (enter l (waitingRecord s) s).call[l].state = _
    rw [record, CallRecord.entering_state]
    rfl
  · change (enter l (waitingRecord s) s).call[l].bearer = _
    rw [record, CallRecord.entering_bearer]
    rfl
  · change ∀ a ∈ (enter l (waitingRecord s) s).arbiter.arrivals, _
    rw [enter_arrivals]
    exact absent
  · have same : (enter l (waitingRecord s) s).monitor.isolated = s.monitor.isolated :=
      Monitor.watch_isolated (enter_sameBut .watch (by decide))
    exact same.trans (by simpa using service)

/-- A supervised line of no place in the arrival list and without a bearer is served. -/
theorem Tied.offHookOf (h : Tied I [] [] s) (state : s.call[l].state.supervised = true)
    (unjoined : s.call[l].state.joined = false) (names : s.call[l].bearer = none) :
    Tied I [] [] (offHookHandling l s) :=
  (h.takeLine names).offHook (h.inService List.not_mem_nil state) (h.no_entry List.not_mem_nil unjoined)

/-! ## Waiters -/

theorem Tied.waiting_of_waits {a : Arrival} {x : Class} (h : Tied I [] [] s) (mem : a ∈ s.arbiter.arrivals)
    (waits : a.waits x = true) : s.call[a.line].state = .waiting := by
  simp only [Arrival.waits, Bool.and_eq_true, decide_eq_true_eq] at waits
  rw [h.stands a mem List.not_mem_nil, waits.1]
  rfl

theorem Tied.reconsideredWaiters (ps : List Line) {s : State} (h : Tied I [] [] s)
    (waiting : ∀ p ∈ ps, s.call[p].state = .waiting) (once : ps.Nodup) :
    Tied I [] [] (reconsiderWaiters ps s) := by
  induction ps generalizing s with
  | nil => exact h
  | cons p rest ih =>
    have first := waiting p List.mem_cons_self
    obtain ⟨new, once⟩ := List.nodup_cons.mp once
    unfold reconsiderWaiters
    split
    · next b lowest =>
      refine ih (h.grantedWaiter List.not_mem_nil List.not_mem_nil first (lowestEligible_idle lowest)) ?_ once
      intro q mem
      have other : q ≠ p := fun e => new (by rwa [← e])
      rw [grantBearer_get other]
      exact waiting q (List.mem_cons_of_mem _ mem)
    · exact h.priorityStepped first

theorem Tied.reconsidered (h : Tied I [] [] s) : Tied I [] [] (reconsider s) := by
  refine h.reconsideredWaiters _ (fun p mem => ?_) (h.arrivedOnce.sublist (List.filter_sublist.map _))
  obtain ⟨a, filtered, rfl⟩ := List.mem_map.mp mem
  obtain ⟨filed, waits⟩ := List.mem_filter.mp filtered
  exact h.waiting_of_waits filed waits

theorem Tied.reconsideredIf {x : Bool} (h : Tied I [] [] s) : Tied I [] [] (reconsiderIf x s) :=
  .ite (fun _ => h.reconsidered) fun _ => h

theorem Tied.oldest {x : Class} (h : Tied I [] [] s) (oldest : s.oldestEligible x b = some l) :
    s.call[l].state = .waiting ∧ (s.bearer b).state = .idle := by
  unfold State.oldestEligible at oldest
  split at oldest
  · next eligible =>
    obtain ⟨a, found, rfl⟩ := Option.map_eq_some_iff.mp oldest
    have waits : a.waits x = true := List.find?_some (p := fun a : Arrival => a.waits x) found
    exact ⟨h.waiting_of_waits (List.mem_of_find?_eq_some found) waits, eligible_idle eligible⟩
  · exact nomatch oldest

theorem phaseWalk_oldest {n : Nat} {i next : Fin 8} (found : phaseWalk s b n i = some (l, next)) :
    ∃ x, s.oldestEligible x b = some l := by
  induction n generalizing i with
  | zero => exact nomatch found
  | succ n ih =>
    unfold phaseWalk at found
    split at found
    · next m here =>
      cases found
      obtain ⟨x, -, here⟩ := Option.bind_eq_some_iff.mp here
      exact ⟨x, here⟩
    · exact ih found

/-- A freed bearer goes to a waiter or stays. -/
theorem Tied.freedGiven (h : Tied I [] [] s) : Tied I [] [] (freedRun b s) := by
  unfold freedRun
  split
  · next l oldest =>
    obtain ⟨waiting, idle⟩ := h.oldest oldest
    exact h.grantedWaiter List.not_mem_nil List.not_mem_nil waiting idle
  · split
    · next l next walked =>
      obtain ⟨x, oldest⟩ := phaseWalk_oldest walked
      obtain ⟨waiting, idle⟩ := h.oldest oldest
      have moved : Tied I [] [] (s.setArbiter { s.arbiter with pointer := next }) :=
        h.setArbiter (fun _ _ _ => .rfl) h.arrivedOnce fun _ _ => .rfl
      exact moved.grantedWaiter List.not_mem_nil List.not_mem_nil waiting idle
    · exact h

theorem Tied.idleRun (h : Tied I [] [] s) : Tied I [] [] (runIdle s) := h.eachKept fun _ _ hv => hv.freedGiven

theorem Tied.freedHanded (h : Tied I [] [] s) : Tied I [] [] (handFreed b s) :=
  .ite (fun _ => h.freedGiven) fun _ => h

/-- The line in hand, which has yielded the bearer in hand, is placed. -/
theorem Tied.placedYielded (h : Tied I [m] [b] s) (k : s.inService m) (entry : ∃ a ∈ s.arbiter.arrivals, a.line = m)
    (service : I → s.monitor.isolated = false) (busy : (s.bearer b).state ≠ .idle) :
    Tied I [] [b] (placeYielded m s) := by
  unfold placeYielded
  split
  · next c lowest =>
    have idle := lowestEligible_idle lowest
    refine h.granted List.not_mem_nil (fun mem => ?_) k entry service idle
    exact busy (List.mem_singleton.mp mem ▸ idle)
  · have inService : (setStanding m .waiting s).inService m := k
    exact (h.standingSet List.mem_cons_self).enterUnused rfl ⟨nofun, nofun, nofun⟩
      (enter_settled_joined inService (x := .waiting) rfl (setStanding_entry entry) setStanding_standing service)

/-- The end of a handover (R117). -/
theorem Tied.handoverEnded (h : Tied I [] [] s) : Tied I [] [] (handoverExpiry s) := by
  unfold handoverExpiry
  split
  · exact h
  · next r record =>
    dsimp only
    have hands : s.hands r.bearer r.line := ⟨r, record, rfl, rfl⟩
    have handed : (s.bearer r.bearer).state = .handover := (h.handed _ List.not_mem_nil).mpr ⟨_, hands⟩
    obtain ⟨-, names⟩ := h.names_of_line List.not_mem_nil (h.handedLine _ _ List.not_mem_nil hands)
    have seizing : s.call[r.line].state = .seizing := by
      have agrees := h.agree _ _ List.not_mem_nil names
      rw [handed] at agrees
      revert agrees
      cases s.call[r.line].state <;> simp [useAgrees]
    set s₁ := giveBearer r.bearer .held r.line s with givenEq
    have inHand : Tied I [r.line] [r.bearer] s₁ :=
      (h.takeUse List.not_mem_nil names).setBearer List.mem_cons_self
    have recordB : s₁.bearer r.bearer = (s.bearer r.bearer).give .held r.line := State.setBearer_get ..
    have inService : s₁.inService r.line := h.inService List.not_mem_nil (by rw [seizing]; rfl)
    have standing : ∀ a ∈ s₁.arbiter.arrivals, a.line = r.line → a.standing = .seizing := by
      rintro a mem line
      have stands := h.stands a mem List.not_mem_nil
      simp only [line, seizing] at stands
      revert stands
      cases a.standing <;> simp [Standing.state]
    have settled : LineSettled I r.line (enter r.line (seizingRecord r.bearer s₁) s₁) :=
      enter_settled_joined inService (x := .seizing) rfl (h.arrived _ List.not_mem_nil (by rw [seizing]; rfl)) standing
        (h.service List.not_mem_nil (by rw [seizing]; rfl))
    set s₂ := enter r.line (seizingRecord r.bearer s₁) s₁ with enteredEq
    set s₃ := seizeReport r.line r.bearer s₂ with reportedEq
    have reported : SameBut [.reports] s₂ s₃ := seizeReport_sameBut
    have call : s₃.call = s₂.call := reported .call (by decide)
    have bearers : s₃.bearers = s₁.bearers :=
      (reported .bearers (by decide)).trans (enter_sameBut .bearers (by decide))
    have arbiter : s₃.arbiter = s₂.arbiter := reported .arbiter (by decide)
    have handover : s₃.arbiter.handover = some r := by rw [arbiter, enteredEq, enter_handover]; exact record
    have entered : Tied I [r.line] [r.bearer] s₃ :=
      (inHand.entered List.mem_cons_self).ofSameBut reported (by decide)
    have ended : Tied I [r.line] [r.bearer] (s₃.setHandover none) :=
      entered.setHandover (fun x on => by
        rw [handover] at on
        exact Option.some.inj on ▸ List.mem_cons_self) fun _ on => nomatch on
    have callThen : s₃.call[r.line] = (seizingRecord r.bearer s₁).entering s₁.call[r.line] := by
      rw [call, enteredEq, enter_get, if_pos rfl]
    have recordThen : (s₃.setHandover none).bearer r.bearer = (s.bearer r.bearer).give .held r.line := by
      change s₃.bearers.recs[r.bearer] = _
      rw [bearers]
      exact recordB
    refine (ended.putUse List.not_mem_nil List.not_mem_nil ?_ (by rw [recordThen]; rfl) ?_ ?_ ?_).reconsidered
    · change s₃.call[r.line].bearer = _
      rw [callThen, CallRecord.entering_bearer]
      rfl
    · rw [recordThen]
      change useAgrees s₃.call[r.line].state _
      rw [callThen, CallRecord.entering_state]
      trivial
    · exact settled.congr call (by rw [State.setHandover_arbiter, arbiter]) (reported .entries (by decide))
        (reported .test (by decide)) (Monitor.watch_isolated (reported .watch (by decide)))
    · have none : ∀ m, ¬(s₃.setHandover .none).hands r.bearer m := fun m ⟨x, on, _⟩ => nomatch on
      refine ⟨iff_of_false ?_ (by rw [recordThen]; nofun), iff_of_false (by rw [recordThen]; nofun) ?_,
        fun m on => absurd on (none m), fun down => ?_⟩
      · change r.bearer ∉ s₃.bearers.connection
        rw [bearers]
        intro mem
        have : (s.bearer r.bearer).state = .engaged := (h.connected _ List.not_mem_nil).mp mem
        exact nomatch handed.symm.trans this
      · exact fun ⟨m, on⟩ => none m on
      · have up := h.linkUp_of_names List.not_mem_nil names
        change s₃.bearers.linkUp = false at down
        rw [bearers] at down
        exact nomatch up.symm.trans down

end

end Sys2Proof.Machine
end

section
/-! What ties calls is kept by the decisions of a line, by a test session, and by the supply, the control monitor and
the audit. -/

namespace Sys2Proof.Machine

section
variable {I : Prop} {L : List Line} {B : List Bearer} {s t : State} {l m p : Line} {b c v : Bearer}

/-! ## Decisions -/

theorem Tied.ofReports (h : Tied I L B s) (k : SameBut [.reports] s t) : Tied I L B t := h.ofSameBut k (by decide)

theorem Tied.digit {x : Nat} (h : Tied I L B s) : Tied I L B (callDigit l x s) := by
  unfold callDigit
  dsimp only
  split
  · exact .ite (fun _ => h.setCall_same rfl rfl rfl) fun _ => h.setCall_same rfl rfl rfl
  · exact .ite (fun _ => h.setCall_same rfl rfl rfl) fun _ => h.setCall_same rfl rfl rfl
  · exact h.ofReports lineReport_sameBut
  · exact h

theorem Tied.cleared_line (h : Tied I [] [] s) : Tied I [] [] (callClear l s) := by
  unfold callClear
  dsimp only
  split
  · next _ waiting =>
    exact h.idleOf (h.unnamed List.not_mem_nil (by rw [waiting]; decide))
      (h.inService List.not_mem_nil (by rw [waiting]; rfl))
  · next b seizing names =>
    have inService := h.inService (l := l) List.not_mem_nil (by rw [seizing]; rfl)
    have cleared : Tied I [l] [] (clearBearer b s) :=
      (h.takeUse List.not_mem_nil names).cleared (h.linkUp_of_names List.not_mem_nil names)
    have still : (clearBearer b s).inService l := inService.ofSameBut clearBearer_sameBut (by decide)
    exact .ite (fun _ => ((cleared.ofReports releaseReport_sameBut).idle
      (still.ofSameBut releaseReport_sameBut (by decide))).reconsidered)
      fun _ => (cleared.ofReports lineReport_sameBut).idle (still.ofSameBut lineReport_sameBut (by decide))
  · next b connected names =>
    have inService := h.inService (l := l) List.not_mem_nil (by rw [connected]; rfl)
    have reported : Tied I [] [] (s.lineReport .clear l (some b) none) := h.ofReports lineReport_sameBut
    have cleared : Tied I [l] [] (clearBearer b (s.lineReport .clear l (some b) none)) :=
      (reported.takeUse List.not_mem_nil names).cleared (reported.linkUp_of_names List.not_mem_nil names)
    exact cleared.idle ((inService.ofSameBut lineReport_sameBut (by decide)).ofSameBut clearBearer_sameBut (by decide))
  · exact h

theorem Tied.clearDecided (h : Tied I [] [] s) : Tied I [] [] (clearDecision l s) :=
  .ite (fun _ => h.cleared_line.ofSameBut setBrk_sameBut (by decide)) fun _ => h

theorem Tied.digitEnded (h : Tied I L B s) : Tied I L B (digitEnd l s) := by
  have timed {x : BreakTiming} : Tied I L B (s.setBrk l x) := h.ofSameBut setBrk_sameBut (by decide)
  refine .ite (fun _ => ?_) fun _ => h
  dsimp only
  split
  · exact timed.digit
  · exact timed

theorem Tied.ticked (h : Tied I [] [] s) : Tied I [] [] (sampleTick l s) := by
  have timed {x : BreakTiming} : Tied I [] [] (s.setBrk l x) := h.ofSameBut setBrk_sameBut (by decide)
  unfold sampleTick
  dsimp only
  split
  · split
    · exact .ite (fun _ => timed.clearDecided) fun _ => timed
    · exact timed
  · split
    · exact .ite (fun _ => timed.digitEnded) fun _ => timed
    · exact timed

theorem Tied.hooked {x : Hook} (h : Tied I [] [] s) : Tied I [] [] (callHook l x s) := by
  unfold callHook
  split
  · next idle =>
    exact h.offHookOf (by rw [idle]; rfl) (by rw [idle]; rfl) (h.unnamed List.not_mem_nil (by rw [idle]; decide))
  · next ringing => exact h.answered List.not_mem_nil ringing
  · next lockout =>
    exact h.idleOf (h.unnamed List.not_mem_nil (by rw [lockout]; decide))
      (h.inService List.not_mem_nil (by rw [lockout]; rfl))
  · exact h

theorem Tied.delivered (h : Tied I [] [] s) : Tied I [] [] (deliverHook l s) := by
  have ended : Tied I [] [] (endQuiet s) := h.ofSameBut endQuiet_sameBut (by decide)
  exact .ite (fun _ => ended.ofSameBut breakDecision_sameBut (by decide)) fun _ => ended.hooked

theorem Tied.hookDecided (h : Tied I [] [] s) : Tied I [] [] (hookDecision l s) :=
  .ite (fun _ => Tied.delivered (h.ofSameBut setSup_sameBut (by decide))) fun _ => h

theorem Tied.ringTripDecided (h : Tied I [] [] s) : Tied I [] [] (ringTripDecision l s) := by
  refine .ite (fun _ => ?_) fun _ => h
  have taken {x : Supervision} : Tied I [] [] (s.setSup l x) := h.ofSameBut setSup_sameBut (by decide)
  exact .ite (fun ringing => taken.answered List.not_mem_nil ringing) fun _ => taken.delivered

theorem Tied.faultCalled {x : FaultKind} (h : Tied I [] [] s) : Tied I [] [] (callFault l x s) := by
  unfold callFault
  dsimp only
  split
  · exact h
  · exact h
  · exact .ite (fun _ => h.setCallFeed rfl rfl rfl) fun _ => h
  · next notDisabled notTesting _ =>
    refine (h.faulted List.not_mem_nil (h.inService List.not_mem_nil ?_)).reconsideredIf
    unfold CallState.supervised
    split
    · next e => exact absurd e notDisabled
    · next e => exact absurd e notTesting
    · rfl

theorem Tied.faultDecided {x : FaultKind} (h : Tied I [] [] s) : Tied I [] [] (faultDecision l x s) := by
  refine .ite (fun _ => Tied.faultCalled ?_) fun _ => h
  exact ((h.ofSameBut resetCounts_sameBut (by decide)).ofSameBut endQuiet_sameBut (by decide)).ofSameBut
    protect_sameBut (by decide)

theorem Tied.waitLimit (h : Tied I [] [] s) : Tied I [] [] (waitLimitExpiry l s) := by
  refine .ite (fun ⟨waiting, _⟩ => ?_) fun _ => h
  exact (h.takeLine (h.unnamed List.not_mem_nil (by rw [waiting]; decide))).lockedOut
    (h.inService List.not_mem_nil (by rw [waiting]; rfl))

theorem Tied.answerExpired (h : Tied I [] [] s) : Tied I [] [] (answerExpiry l s) := by
  refine .ite (fun ⟨seizing, _⟩ => ?_) fun _ => h
  exact (h.released List.not_mem_nil).lockedOut
    ((h.inService List.not_mem_nil (by rw [seizing]; rfl)).ofSameBut releaseUse_sameBut (by decide))

theorem Tied.retryWaited (h : Tied I [] [] s) : Tied I [] [] (retryWaitExpiry l s) :=
  .ite (fun _ => h.setCallFeed rfl rfl rfl) fun _ => h

/-- A line that has gone Idle is served if it is off-hook. -/
theorem Tied.servedIfOffHook (h : Tied I (l :: []) [] s) (k : s.inService l) :
    Tied I [] [] (match (goIdle l s).sup[l].hook with
      | .offHook => offHookHandling l (goIdle l s)
      | .onHook => goIdle l s) := by
  have idle : Tied I [] [] (goIdle l s) := h.idle k
  split
  · exact idle.offHookOf (by rw [goIdle_call]; rfl) (by rw [goIdle_call]; rfl) (by rw [goIdle_call])
  · exact idle

theorem Tied.retryLooked (h : Tied I [] [] s) : Tied I [] [] (retryLookExpiry l s) := by
  unfold retryLookExpiry
  dsimp only
  split
  · next due =>
    obtain ⟨faulted, -⟩ := due
    have names := h.unnamed (l := l) List.not_mem_nil (by rw [faulted]; decide)
    have inService := h.inService (l := l) List.not_mem_nil (by rw [faulted]; rfl)
    exact ((h.takeLine names).ofReports report_sameBut).servedIfOffHook (inService.ofSameBut report_sameBut (by decide))
  · exact h

/-! ## A test session -/

theorem Tied.setTest {x : TestUnit} (h : Tied I L B s)
    (tested : ∀ m ∉ L, x.session.map Session.line = some m ↔ s.test.session.map Session.line = some m)
    (looks : ∀ y, x.session = some y → y.line ∉ L → s.looksFit y) : Tied I L B (s.setTest x) :=
  h.congr (fun _ _ => ⟨rfl, rfl, rfl⟩) (fun _ _ => ⟨rfl, rfl⟩) h.connectionOnce (fun _ _ => .rfl) rfl
    (fun _ _ _ => .rfl) h.arrivedOnce (fun _ _ => .rfl) (fun _ => id) (fun _ _ => rfl) tested looks

/-- A session in courteous mode has an enabled line. -/
def State.modeFits (s : State) (x : Session) : Prop := x.mode = .courteous → s.entries[x.line].enabled = true

theorem testTarget_tied {y : FeedMode} (h : Tied I L B s) : Tied I L B (testTarget l y s) :=
  h.ofSameBut testTarget_sameBut (by decide)

section
variable {x : Session} {k : Measurement} {e : EndingStatus}

/-- The session of the line under test goes on in a phase that is no look. -/
theorem Tied.sessionGoesOn {y : TestUnit} {z : Session} (h : Tied I L B s)
    (on : s.test.session.map Session.line = some x.line) (fit : s.modeFits x) (session : y.session = some z)
    (line : z.line = x.line) (mode : z.mode = x.mode) (phase : z.phase ≠ .look) : Tied I L B (s.setTest y) := by
  refine h.setTest (fun m _ => ?_) fun w mine _ => ?_
  · rw [on, session, Option.map_some, line]
  · obtain rfl : z = w := Option.some.inj (session.symm.trans mine)
    refine ⟨fun courteous => ?_, fun looking => absurd looking phase⟩
    have enabled := fit (mode ▸ courteous)
    simp only [line]
    exact enabled

theorem Tied.measuring (h : Tied I L B s) (on : s.test.session.map Session.line = some x.line)
    (fit : s.modeFits x) : Tied I L B (beginMeasurement x k s) :=
  h.sessionGoesOn on fit rfl rfl rfl nofun

theorem Tied.toMeasuring (h : Tied I L B s) (on : s.test.session.map Session.line = some x.line)
    (fit : s.modeFits x) : Tied I L B (toMeasure x k s) :=
  .ite (fun _ => (testTarget_tied h).measuring on fit) fun _ => (testTarget_tied h).sessionGoesOn on fit rfl rfl rfl nofun

theorem Tied.disconnecting (h : Tied I L B s) (on : s.test.session.map Session.line = some x.line)
    (fit : s.modeFits x) : Tied I L B (beginDisconnect x e s) :=
  (testTarget_tied h).sessionGoesOn on fit rfl rfl rfl nofun

theorem Tied.looking (h : Tied I L B s) (on : s.test.session.map Session.line = some x.line)
    (enabled : s.entries[x.line].enabled = true) (more : x.remaining ≠ []) : Tied I L B (startLook x s) := by
  refine (testTarget_tied h).setTest (fun m _ => ?_) fun w mine _ => ?_
  · change some x.line = some m ↔ s.test.session.map Session.line = some m
    rw [on]
  · cases mine
    exact ⟨fun _ => enabled, fun _ => ⟨enabled, more⟩⟩

theorem Tied.nextMeasured (h : Tied I L B s) (on : s.test.session.map Session.line = some x.line)
    (fit : s.modeFits x) : Tied I L B (nextMeasurement x s) := by
  unfold nextMeasurement
  split
  · refine Tied.disconnecting (h.setTest (fun _ _ => .rfl) fun y mine out => h.looks y mine out) on fit
  · next m rest more =>
    split
    · next courteous => exact h.looking on (fit courteous) (by rw [more]; simp)
    · exact h.toMeasuring on fit

theorem Tied.modeFits (h : Tied I [] [] s) (on : s.test.session = some x) : s.modeFits x :=
  (h.looks x on List.not_mem_nil).1

theorem line_of_session (on : s.test.session = some x) : s.test.session.map Session.line = some x.line := by rw [on]; rfl

theorem Tied.completed (h : Tied I L B s) (on : s.test.session.map Session.line = some x.line)
    (fit : s.modeFits x) : Tied I L B (completeWindow x k s) :=
  Tied.nextMeasured (h.setTest (fun _ _ => .rfl) fun y mine out => h.looks y mine out) on fit

theorem Tied.windowEnded (h : Tied I [] [] s) : Tied I [] [] (windowEnd s) := by
  unfold windowEnd
  split
  · exact h
  · next x on =>
    have fit := h.modeFits on
    split
    · next measuring _ =>
      split
      · exact h.sessionGoesOn (line_of_session on) fit rfl rfl rfl (by
          change x.phase ≠ .look
          rw [measuring]
          nofun)
      · exact h.completed (line_of_session on) fit
    · exact h

theorem Tied.sampled (h : Tied I [] [] s) {value : Int} : Tied I [] [] (converterSample value s) := by
  unfold converterSample
  split
  · exact h
  · next x on =>
    split
    · next measuring _ =>
      have added : Tied I [] [] (s.setSession (some (x.addSample (convertTest value)))) :=
        h.sessionGoesOn (line_of_session on) (h.modeFits on) rfl rfl rfl (by
          change x.phase ≠ .look
          rw [measuring]
          nofun)
      exact .ite (fun _ => added.windowEnded) fun _ => added
    · exact h

theorem untested_of_none (none : s.test.session = none) : s.test.session.map Session.line ≠ some l := by
  rw [none]
  nofun

/-- The line under test is taken up, and its session ends. -/
theorem Tied.sessionOver {y : TestUnit} (h : Tied I [] [] s) (on : s.test.session = some x)
    (gone : y.session = none) : Tied I [x.line] [] (s.setTest y) := by
  have testing : s.call[x.line].state = .testing := (h.tested x.line List.not_mem_nil).mpr (line_of_session on)
  refine (h.takeLine (h.unnamed List.not_mem_nil (by rw [testing]; decide))).setTest (fun m out => ?_) fun z mine _ => ?_
  · rw [gone, on]
    exact iff_of_false nofun fun same => out (List.mem_singleton.mpr (Option.some.inj same).symm)
  · rw [gone] at mine
    exact nomatch mine

theorem Tied.testing_absent (h : Tied I [] [] s) (on : s.test.session = some x) :
    s.call[x.line].bearer = none ∧ ∀ a ∈ s.arbiter.arrivals, a.line ≠ x.line := by
  have testing : s.call[x.line].state = .testing := (h.tested x.line List.not_mem_nil).mpr (line_of_session on)
  exact ⟨h.unnamed List.not_mem_nil (by rw [testing]; decide), h.no_entry List.not_mem_nil (by rw [testing]; rfl)⟩

/-- The line of a session that has ended, with its report and supervision written, is in hand and under test no
more. -/
theorem Tied.sessionWritten {y : TestUnit} (h : Tied I [] [] s) (on : s.test.session = some x)
    (gone : y.session = none) (later : SameBut [.reports, .sup] (s.setTest y) t) :
    Tied I [x.line] [] t ∧ t.entries = s.entries ∧ t.call = s.call ∧ t.arbiter = s.arbiter ∧
      t.test.session.map Session.line ≠ some x.line := by
  have test : t.test = y := later .test (by decide)
  exact ⟨(h.sessionOver on gone).ofSameBut later (by decide), later .entries (by decide), later .call (by decide),
    later .arbiter (by decide), untested_of_none (test ▸ gone)⟩

/-- A look in progress that sees the subscriber off-hook. -/
theorem Tied.yielded (h : Tied I [] [] s) (on : s.test.session = some x) (looking : x.phase = .look) :
    Tied I [] [] (yieldSession x s) := by
  obtain ⟨enabled, -⟩ := (h.looks x on List.not_mem_nil).2 looking
  have served {y : TestUnit} {u : State} (later : SameBut [.reports, .sup] (s.setTest y) u) (gone : y.session = none) :
      Tied I [] [] (offHookHandling x.line u) := by
    obtain ⟨taken, entries, -, arbiter, untested⟩ := h.sessionWritten on gone later
    exact taken.offHook ⟨entries ▸ enabled, untested⟩ (arbiter ▸ (h.testing_absent on).2)
  exact (served (SameBut.then (SameBut.then (.refl _ _) lineReport_sameBut (by decide)) setSup_sameBut (by decide))
    rfl).ofSameBut handback_sameBut (by decide)

theorem Tied.lookSampled (h : Tied I [] [] s) {value : Int} : Tied I [] [] (lookSample l value s) := by
  unfold lookSample
  split
  · exact h
  · next x on =>
    refine .ite (fun ⟨_, looking, _⟩ => ?_) fun _ => h
    refine .ite (fun _ => h.yielded on looking) fun _ => ?_
    refine h.setTest (fun m _ => ?_) fun y mine out => ?_
    · rw [on]
      exact .rfl
    · cases mine
      exact h.looks x on out

theorem Tied.lookedOffHook (h : Tied I [] [] s) : Tied I [] [] (lookOffHook s) := by
  unfold lookOffHook
  split
  · next x on => exact .ite (fun ⟨looking, _⟩ => h.yielded on looking) fun _ => h
  · exact h

/-! ## The end of a session -/

/-- The line in hand, whose entry is not enabled, becomes Disabled. -/
theorem Tied.becameDisabled (h : Tied I (l :: L) B s) (off : s.entries[l].enabled = false)
    (untested : s.test.session.map Session.line ≠ some l) : Tied I L B (toDisabled l s) := by
  have settled : LineSettled I l (enter l { state := .disabled } s) :=
    enter_settled rfl (iff_of_true off (.inl rfl)) (iff_of_false nofun untested)
      fun y on line => absurd (by rw [on, ← line]; rfl) untested
  exact ((h.enterUnused rfl (by decide) settled).ofSameBut setSup_sameBut (by decide)).ofSameBut callTarget_sameBut
    (by decide)

/-- The line in hand goes to a lockout or a fault of its own record, which names no bearer. -/
theorem Tied.resumed {n : CallRecord} {y : FeedMode} (h : Tied I (l :: L) B s) (k : s.inService l)
    (names : n.bearer = none) (state : n.state = .lockout ∨ n.state = .faulted) :
    Tied I L B (callTarget l y (enter l n s)) := by
  refine Tied.ofSameBut (h.enterUnused names ?_ (enter_settled_inService k ?_ ?_)) callTarget_sameBut (by decide)
  all_goals rcases state with e | e <;> rw [e] <;> decide

/-- The line in hand, which is under test no more, returns to its prior state. -/
theorem Tied.priorReturned {prior : CallState} (h : Tied I (l :: L) B s) (names : s.call[l].bearer = none)
    (enabled : s.entries[l].enabled = false ↔ prior = .disabled)
    (untested : s.test.session.map Session.line ≠ some l) : Tied I L B (returnPrior l prior s) := by
  have inService (other : prior ≠ .disabled) : s.inService l :=
    ⟨by simpa using fun off => other (enabled.mp off), untested⟩
  unfold returnPrior
  dsimp only
  split
  · exact h.becameDisabled (enabled.mpr rfl) untested
  · exact h.resumed (inService nofun) names (.inl rfl)
  · exact h.resumed (inService nofun) names (.inr rfl)
  · next notDisabled _ _ => exact h.idle (inService notDisabled)

theorem releaseUse_none {y : ReleaseCause} (names : s.call[l].bearer = none) : releaseUse l y s = s := by
  unfold releaseUse
  rw [names]

/-- The line in hand, which names no bearer, becomes Faulted. -/
theorem Tied.faultedInHand {y : FaultKind} (h : Tied I (l :: L) B s) (k : s.inService l)
    (names : s.call[l].bearer = none) : Tied I L B (faultEntry l y s) := by
  unfold faultEntry
  dsimp only
  rw [releaseUse_none (by exact names)]
  exact (h.ofReports report_sameBut).resumed (k.ofSameBut report_sameBut (by decide)) (by cases y <;> rfl)
    (.inr (faultedRecord_state y))

theorem Tied.lineReturned {w : Option Verdict} (h : Tied I [l] [] s) (names : s.call[l].bearer = none)
    (enabled : s.entries[l].enabled = false ↔ s.call[l].prior.getD .idle = .disabled)
    (untested : s.test.session.map Session.line ≠ some l) : Tied I [] [] (returnLine l e w s) := by
  have inService (other : s.call[l].prior.getD .idle ≠ .disabled) : s.inService l :=
    ⟨by simpa using fun off => other (enabled.mp off), untested⟩
  unfold returnLine
  dsimp only
  split
  · split
    · next disabled => exact h.becameDisabled (enabled.mpr disabled) untested
    · next notDisabled => exact h.faultedInHand (inService notDisabled) names
  · split
    · next foreign =>
      obtain ⟨prior, -⟩ := foreign
      exact (h.ofReports report_sameBut).servedIfOffHook
        ((inService (by rw [prior]; nofun)).ofSameBut report_sameBut (by decide))
    · exact h.priorReturned names enabled untested
  · exact h.priorReturned names enabled untested

theorem getD_idle (o : Option CallState) : o.getD .idle = .disabled ↔ o = some .disabled := by
  cases o <;> simp

theorem Tied.sessionEnded (h : Tied I [] [] s) (on : s.test.session = some x) : Tied I [] [] (endSession x s) := by
  have testing : s.call[x.line].state = .testing := (h.tested x.line List.not_mem_nil).mpr (line_of_session on)
  have enabled : s.entries[x.line].enabled = false ↔ s.call[x.line].prior.getD .idle = .disabled := by
    rw [h.disabled x.line List.not_mem_nil, testing, getD_idle]
    simp
  have returned {y : TestUnit} {u : State} {w : Option Verdict} (later : SameBut [.reports, .sup] (s.setTest y) u)
      (gone : y.session = none) : Tied I [] [] (returnLine x.line x.ending w u) := by
    obtain ⟨taken, entries, call, -, untested⟩ := h.sessionWritten on gone later
    exact taken.lineReturned (call ▸ (h.testing_absent on).1) (call ▸ entries ▸ enabled) untested
  exact (returned (SameBut.then (SameBut.then (.refl _ _) lineReport_sameBut (by decide)) setSup_sameBut (by decide))
    rfl).ofSameBut handback_sameBut (by decide)

theorem Tied.connectFinished (h : Tied I [] [] s) (on : s.test.session = some x) :
    Tied I [] [] (finishConnect x s) :=
  .ite (fun _ => h.nextMeasured (line_of_session on) (h.modeFits on)) fun _ => h

theorem Tied.disconnectFinished (h : Tied I [] [] s) (on : s.test.session = some x) :
    Tied I [] [] (finishDisconnect x s) := .ite (fun _ => h.sessionEnded on) fun _ => h

theorem Tied.connectExpired (h : Tied I [] [] s) : Tied I [] [] (connectExpiry s) := by
  unfold connectExpiry
  split
  · next x on =>
    refine .ite (fun ⟨connecting, _⟩ => Tied.connectFinished ?_ rfl) fun _ => h
    exact h.sessionGoesOn (line_of_session on) (h.modeFits on) rfl rfl rfl (by
      change x.phase ≠ .look
      rw [connecting]
      nofun)
  · exact h

theorem Tied.lookExpired (h : Tied I [] [] s) : Tied I [] [] (lookExpiry s) := by
  unfold lookExpiry
  split
  · next x on =>
    split
    · exact .ite (fun _ => h.toMeasuring (line_of_session (x := x) on :) (h.modeFits (x := x) on :)) fun _ => h
    · exact h
  · exact h

theorem Tied.disconnectExpired (h : Tied I [] [] s) : Tied I [] [] (disconnectExpiry s) := by
  unfold disconnectExpiry
  split
  · next x on =>
    refine .ite (fun ⟨disconnecting, _⟩ => Tied.disconnectFinished ?_ rfl) fun _ => h
    exact h.sessionGoesOn (line_of_session on) (h.modeFits on) rfl rfl rfl (by
      change x.phase ≠ .look
      rw [disconnecting]
      nofun)
  · exact h

theorem Tied.reached (h : Tied I [] [] s) : Tied I [] [] (targetReached l s) := by
  unfold targetReached
  split
  · exact h
  · next x on =>
    refine .ite (fun _ => ?_) fun _ => h
    split
    · exact h.connectFinished on
    · refine h.setTest (fun m _ => by rw [on]; exact .rfl) fun y mine out => ?_
      cases mine
      exact h.looks x on out
    · exact h.measuring (line_of_session on) (h.modeFits on)
    · exact h.disconnectFinished on
    · exact h

theorem Tied.settled (h : Tied I [] [] s) : Tied I [] [] (settleEnd l s) := by
  refine .ite (fun _ => ?_) fun _ => h
  have ended {y : Feed} : Tied I [] [] (s.setFeed l y) := h.ofSameBut setFeed_sameBut (by decide)
  exact .ite (fun _ => ended.reached) fun _ => ended

theorem Tied.shortened (h : Tied I [] [] s) : Tied I [] [] (cutShort e s) := by
  unfold cutShort
  split
  · next x on => exact .ite (fun _ => h) fun _ => h.disconnecting (line_of_session on) (h.modeFits on)
  · exact h

/-! ## The start of a session -/

/-- A line that may be tested is in one of four states. -/
theorem TestMode.allows_cases {mode : TestMode} {st : CallState} (h : mode.allows st = true) :
    st = .idle ∨ mode = .forced ∧ (st = .lockout ∨ st = .faulted ∨ st = .disabled) := by
  revert h
  cases mode <;> cases st <;> simp [TestMode.allows]

theorem Tied.sessionStarted {mode : TestMode} {ms : List Measurement} (h : Tied I [] [] s)
    (free : s.test.session = none) (allowed : mode.allows s.call[l].state = true) :
    Tied I [] [] (startSession l mode ms s) := by
  have states := TestMode.allows_cases allowed
  have names : s.call[l].bearer = none := h.unnamed List.not_mem_nil (by
    rcases states with e | ⟨-, e | e | e⟩ <;> rw [e] <;> decide)
  have enabled : s.entries[l].enabled = false ↔ s.call[l].state = .disabled := by
    rw [h.disabled l List.not_mem_nil]
    rcases states with e | ⟨-, e | e | e⟩ <;> rw [e] <;> simp
  set y : TestUnit :=
    { session := some { line := l, mode := mode, measurements := ms, remaining := ms, phase := .connect
                        timer := some Config.connectMs }
      result := { line := some l, mode := some mode, status := .inProgress }, relay := some l, source := false }
    with started
  have taken : Tied I [l] [] (s.setTest y) := by
    refine (h.takeLine names).setTest (fun m out => ?_) fun z mine out => ?_
    · rw [free]
      exact iff_of_false (fun same => out (List.mem_singleton.mpr (Option.some.inj same).symm)) nofun
    · cases mine
      exact absurd List.mem_cons_self out
  have settled : LineSettled I l (enter l s.call[l].suspend (s.setTest y)) := by
    refine enter_settled rfl ?_ (iff_of_true rfl rfl) fun z mine line => ?_
    · change s.entries[l].enabled = false ↔ _
      rw [enabled]
      simp [CallRecord.suspend]
    · cases mine
      refine ⟨fun courteous => ?_, nofun⟩
      rcases states with idle | ⟨forced, -⟩
      · have on : s.entries[l].enabled ≠ false := fun off => by
          rw [enabled, idle] at off
          exact nomatch off
        exact (Bool.not_eq_false _).mp on
      · exact nomatch forced.symm.trans courteous
  have entered : Tied I [] [] (enter l s.call[l].suspend (s.setTest y)) :=
    taken.enterUnused names ⟨nofun, nofun, nofun⟩ settled
  exact testTarget_tied ((entered.ofSameBut setFeed_sameBut (by decide)).ofSameBut endQuiet_sameBut (by decide))

end

end

end Sys2Proof.Machine
end

section
/-! What ties calls is kept by the supply, the control monitor, the audit, and by every request. -/

namespace Sys2Proof.Machine

section
variable {I : Prop} {L : List Line} {B : List Bearer} {s t : State} {l m p : Line} {b c v : Bearer}

/-! ## The unit -/

/-- What changes other parts alone, and the monitor without beginning Isolated service, keeps all as tied. -/
theorem Tied.ofService {parts : List Part} (h : Tied I L B s) (k : SameBut parts s t)
    (read : ∀ p ∈ [Part.entries, .call, .bearers, .arbiter, .test], p ∉ parts)
    (isolated : I → t.monitor.isolated = true → s.monitor.isolated = true) : Tied I L B t := by
  have entries : t.entries = s.entries := k .entries (read _ (by decide))
  have call : t.call = s.call := k .call (read _ (by decide))
  have bearers : t.bearers = s.bearers := k .bearers (read _ (by decide))
  have arbiter : t.arbiter = s.arbiter := k .arbiter (read _ (by decide))
  have test : t.test = s.test := k .test (read _ (by decide))
  refine h.congr (by simp [call]) (by simp [State.bearer, bearers]) (bearers ▸ h.connectionOnce) (by simp [bearers])
    (by rw [bearers]) (by simp [State.hands, arbiter]) (arbiter ▸ h.arrivedOnce) (by simp [arbiter])
    isolated (by simp [entries]) (by simp [test]) fun x on out => ?_
  exact h.looks x (test ▸ on) out

theorem Tied.setMonitor {x : Monitor} (h : Tied I L B s)
    (isolated : I → x.isolated = true → s.monitor.isolated = true) : Tied I L B (s.setMonitor x) :=
  h.ofService (parts := [.quietRun, .watch]) (fun p hp => by cases p <;> first | exact absurd (by decide) hp | rfl)
    (by decide) isolated

theorem Tied.eventKept {f : State → State} (h : Tied I L B (f s)) : Tied I L B (event f s) :=
  h.ofSameBut (event_sameBut f s) (by decide)

theorem Tied.levelChanged {x : Level} (h : Tied I [] [] s) : Tied I [] [] (levelChange x s) := by
  have reported {y : Supply} {r : Report} : Tied I [] [] ((s.setSupply y).report true r) :=
    (h.ofSameBut setSupply_sameBut (by decide)).ofReports report_sameBut
  have run {y : Supply} {r : Report} : Tied I [] [] (if s.supply.level.code < x.code then
      ringFall ((s.setSupply y).report true r) else runIdle (fill ((s.setSupply y).report true r))) :=
    .ite (fun _ => reported.ofSameBut ringFall_sameBut (by decide)) fun _ =>
      Tied.idleRun (reported.ofSameBut fill_sameBut (by decide))
  exact .ite (fun _ => run.shortened) fun _ => run

theorem Tied.supplySampled {value : Int} (h : Tied I [] [] s) : Tied I [] [] (supplySample value s) := by
  have set {y : Supply} {u : State} (hu : Tied I [] [] u) : Tied I [] [] (u.setSupply y) :=
    hu.ofSameBut setSupply_sameBut (by decide)
  unfold supplySample
  dsimp only
  exact .ite (fun _ => h) fun _ => .ite (fun _ => .ite (fun _ => set (set h)) fun _ => (set (set h)).levelChanged)
    fun _ => set h

theorem Tied.lineSampled {value : Int} {trip : Bool} (h : Tied I [] [] s) :
    Tied I [] [] (lineSample l value trip s) := by
  have set {y : Supervision} : Tied I [] [] (s.setSup l y) := h.ofSameBut setSup_sameBut (by decide)
  unfold lineSample
  dsimp only
  split
  · exact h
  · exact set.lookSampled
  · have decided : Tied I [] [] (match (s.sup[l].sample (s.profileOf l) s.feed[l] value trip).decision
        (s.profileOf l).m.toNat with
        | .none => s.setSup l (s.sup[l].sample (s.profileOf l) s.feed[l] value trip)
        | .hook => hookDecision l (s.setSup l (s.sup[l].sample (s.profileOf l) s.feed[l] value trip))
        | .fault k => faultDecision l k (s.setSup l (s.sup[l].sample (s.profileOf l) s.feed[l] value trip))
        | .ringTrip => ringTripDecision l (s.setSup l (s.sup[l].sample (s.profileOf l) s.feed[l] value trip))) := by
      split
      · exact set
      · exact set.hookDecided
      · exact set.faultDecided
      · exact set.ringTripDecided
    exact .ite (fun _ => decided.ticked) fun _ => decided

theorem Tied.visited {value : Int} {trip : Bool} (h : Tied I [] [] s) : Tied I [] [] (visit l value trip s) :=
  .ite (fun _ => h) fun _ => Tied.lineSampled (h.ofSameBut setScanner_sameBut (by decide))

theorem Tied.isolatedLine (h : Tied I [] [] s) : Tied I [] [] (isolateLine l s) := by
  unfold isolateLine
  split
  · next waiting =>
    exact (h.takeLine (h.unnamed List.not_mem_nil (by rw [waiting]; decide))).lockedOut
      (h.inService List.not_mem_nil (by rw [waiting]; rfl))
  · next seizing =>
    exact (h.released List.not_mem_nil).lockedOut
      ((h.inService List.not_mem_nil (by rw [seizing]; rfl)).ofSameBut releaseUse_sameBut (by decide))
  · exact h

/-- The line that Isolated service reaches is joined no more, and every other line is as it was. -/
theorem isolateLine_joined : (isolateLine l s).call[m].state.joined =
    if m = l then false else s.call[m].state.joined := by
  have locked {u : State} {x : LockoutCause} : (enterLockout l x u).call[l].state.joined = false := by
    have record : (callTarget l .active (enter l (lockoutRecord x u) u)).call[l].state = .lockout := by
      change (enter l (lockoutRecord x u) u).call[l].state = _
      rw [enter_get, if_pos rfl, CallRecord.entering_state]
      rfl
    unfold enterLockout
    dsimp only
    split
    · rw [goIdle_call]
      rfl
    · rw [record]
      rfl
  have released {x : ReleaseCause} : (releaseUse l x s).call = s.call := releaseUse_sameBut .call (by decide)
  by_cases same : m = l
  · subst same
    rw [if_pos rfl]
    unfold isolateLine
    split
    · exact locked
    · exact locked
    · next notWaiting notSeizing =>
      unfold CallState.joined
      split
      · next e => exact absurd e notWaiting
      · next e => exact absurd e notSeizing
      · rfl
  · rw [if_neg same]
    unfold isolateLine
    split
    · rw [enterLockout_get same]
    · rw [enterLockout_get same, released]
    · rfl

theorem each_isolate_joined (xs : List Line) {s : State} : (each xs isolateLine s).call[m].state.joined =
    if m ∈ xs then false else s.call[m].state.joined := by
  induction xs generalizing s with
  | nil => rfl
  | cons x xs ih =>
    change (each xs isolateLine (isolateLine x s)).call[m].state.joined = _
    rw [ih, isolateLine_joined]
    by_cases mem : m ∈ xs <;> by_cases same : m = x <;> simp [mem, same]

theorem mem_allLines (l : Line) : l ∈ allLines := List.mem_finRange l

/-- Without its clause on Isolated service a state with no joined line is tied with it. -/
theorem Tied.isolate (h : Tied False L B s) (none : ∀ l : Line, s.call[l].state.joined = false) : Tied I L B s :=
  { h with isolated := fun _ _ l _ => none l }

theorem Tied.countdownExpired (h : Tied I [] [] s) : Tied I [] [] (countdownExpiry s) := by
  refine .ite (fun _ => ?_) fun _ => h
  dsimp only
  have outside : Tied False [] [] s := { h with isolated := fun i => i.elim }
  have begun {x : Monitor} : Tied False [] [] (eachLine isolateLine (s.setMonitor x)) :=
    (outside.setMonitor fun i => i.elim).eachKept fun _ _ hv => hv.isolatedLine
  have none {x : Monitor} (l : Line) : (eachLine isolateLine (s.setMonitor x)).call[l].state.joined = false :=
    (each_isolate_joined allLines).trans (if_pos (mem_allLines l))
  have tied {x : Monitor} : Tied I [] [] (eachLine isolateLine (s.setMonitor x)) := begun.isolate none
  refine tied.setArrivals List.nodup_nil fun a _ => iff_of_false List.not_mem_nil fun mem => ?_
  exact tied.no_entry List.not_mem_nil (none a.line) a mem rfl

theorem Tied.reloaded (h : Tied I L B s) : Tied I L B (reloadMonitor s) := by
  unfold reloadMonitor
  have restored : Tied I L B (if s.monitor.isolated then
      (s.setMonitor { s.monitor with isolated := false }).report true { kind := .controlRestored } else s) :=
    .ite (fun _ => (h.setMonitor fun _ on => nomatch (on : false = true)).ofReports report_sameBut) fun _ => h
  exact .ite (fun _ => restored.setMonitor fun _ => id) fun _ => restored

theorem Tied.referenceComputed (h : Tied I L B s) : Tied I L B (recomputeReference s) := h.setMonitor fun _ => id

theorem Tied.tablesSet {x : Tables} (h : Tied I L B s) : Tied I L B (s.setTables x) :=
  h.ofSameBut setTables_sameBut (by decide)

theorem Tied.setPointer {x : Fin 8} (h : Tied I L B s) : Tied I L B (s.setArbiter { s.arbiter with pointer := x }) :=
  h.setArbiter (fun _ _ _ => .rfl) h.arrivedOnce fun _ _ => .rfl

theorem Tied.reverted (h : Tied I [] [] s) : Tied I [] [] (revertTables s) := by
  have reset : Tied I [] [] (resetEnabledCounts (recomputeReference (s.setTables Tables.initial))) :=
    h.tablesSet.referenceComputed.ofSameBut resetEnabledCounts_sameBut (by decide)
  exact Tied.idleRun (Tied.setPointer (reset.ofSameBut quietDelayWritten_sameBut (by decide)))

theorem Tied.audited (h : Tied I [] [] s) : Tied I [] [] (auditExpiry s) := by
  have started {x : Option Nat} : Tied I [] [] (s.setMonitor { s.monitor with audit := x }) :=
    h.setMonitor fun _ => id
  unfold auditExpiry
  dsimp only
  split
  · split
    · exact started
    · exact Tied.reverted (started.ofReports report_sameBut)
  · exact h

end

/-! ## Requests about bearers -/

/-- A request keeps what ties calls. -/
def Request.KeepsTied (q : Request) : Prop := ∀ s : State, Tied True [] [] s → Tied True [] [] (q s).1

section
variable {I : Prop} {L : List Line} {B : List Bearer} {s t : State} {l m p : Line} {b c v : Bearer}

theorem Request.Changes.keepsTied {q : Request} {parts : List Part} (h : q.Changes parts)
    (read : ∀ p ∈ tyingParts, p ∉ parts) : q.KeepsTied := fun s k => k.ofSameBut (h s) read

theorem onLine_keepsTied {x : Byte} {f : Line → Request} (h : ∀ l, (f l).KeepsTied) : (onLine x f).KeepsTied := by
  unfold onLine
  split
  · exact h _
  · exact fun _ k => k

theorem onBearer_keepsTied {x : Byte} {f : Bearer → Request} (h : ∀ b, (f b).KeepsTied) :
    (onBearer x f).KeepsTied := by
  unfold onBearer
  split
  · exact h _
  · exact fun _ k => k

/-- The bearer states outside every call. -/
def BearerState.loose : BearerState → Bool
  | .unchecked | .idle | .clearing | .barred => true
  | _ => false

theorem Tied.lineless_of_loose (h : Tied I [] [] s) (loose : (s.bearer b).state.loose = true) :
    (s.bearer b).line = none := by
  by_contra some
  obtain ⟨m, line⟩ := Option.ne_none_iff_exists'.mp some
  obtain ⟨-, names⟩ := h.names_of_line List.not_mem_nil line
  have agrees := h.agree m b List.not_mem_nil names
  revert agrees loose
  cases (s.bearer b).state <;> cases s.call[m].state <;> simp [useAgrees, BearerState.loose]

/-- A bearer outside every call goes from one such state to another. -/
theorem Tied.setLoose {x : BearerRecord} (h : Tied I [] [] s) (loose : (s.bearer b).state.loose = true)
    (becomes : x.state.loose = true) (line : x.line = none) : Tied I [] [] (s.setBearer b x) := by
  have up : s.bearers.linkUp = true := h.linkUp_of_present (b := b) List.not_mem_nil fun absent => by
    rw [absent] at loose
    exact nomatch loose
  have unhanded := h.unhanded (b := b) List.not_mem_nil fun handover => by
    rw [handover] at loose
    exact nomatch loose
  have record : (s.setBearer b x).bearer b = x := State.setBearer_get ..
  refine ((h.takeBearer (h.lineless_of_loose loose)).setBearer List.mem_cons_self).putBearer (by rw [record, line])
    (fun busy => ?_) ⟨iff_of_false ?_ ?_, iff_of_false ?_ ?_, fun m hands => absurd hands (unhanded m), fun down => ?_⟩
  · rw [record] at busy ⊢
    revert busy becomes
    cases x.state <;> simp [BearerState.busy, BearerState.loose]
  · change b ∉ s.bearers.connection
    rw [h.connected b List.not_mem_nil]
    exact fun engaged => by rw [engaged] at loose; exact nomatch loose
  · rw [record]
    exact fun engaged => by rw [engaged] at becomes; exact nomatch becomes
  · rw [record]
    exact fun handover => by rw [handover] at becomes; exact nomatch becomes
  · exact fun ⟨m, hands⟩ => unhanded m hands
  · exact nomatch up.symm.trans down

/-- A bearer's record changes in what ties nothing. -/
theorem Tied.setBearer_same {x : BearerRecord} (h : Tied I L B s) (state : x.state = (s.bearer b).state)
    (line : x.line = (s.bearer b).line) : Tied I L B (s.setBearer b x) := by
  refine h.setBearers (fun c _ => ?_) h.connectionOnce (fun _ _ => .rfl) rfl
  change ((s.setBearer b x).bearer c).state = _ ∧ ((s.setBearer b x).bearer c).line = _
  rw [setBearer_bearer]
  split
  · next same => rw [same]; exact ⟨state, line⟩
  · exact ⟨rfl, rfl⟩

theorem freed_loose (r : BearerRecord) : r.freed.state.loose = true := by
  rw [BearerRecord.freed_state]
  split <;> rfl

theorem Tied.guardExpired (h : Tied I [] [] s) : Tied I [] [] (guardExpiry b s) := by
  refine .ite (fun ⟨clearing, _⟩ => ?_) fun _ => h
  have loose : (s.bearer b).state.loose = true := by rw [clearing]; rfl
  exact h.setLoose (x := { s.bearer b with state := .unchecked, guard := none }) loose rfl (h.lineless_of_loose loose)

theorem reqBar_keepsTied {x : Byte} : (reqBar x).KeepsTied := by
  refine onBearer_keepsTied fun b s h => ?_
  dsimp only
  split
  · exact h
  · next idle =>
    have loose : (s.bearer b).state.loose = true := by rw [idle]; rfl
    exact h.setLoose loose rfl (h.lineless_of_loose loose)
  · next unchecked =>
    have loose : (s.bearer b).state.loose = true := by rw [unchecked]; rfl
    exact h.setLoose loose rfl (h.lineless_of_loose loose)
  · exact h
  · exact h.setBearer_same rfl rfl

theorem reqUnbar_keepsTied {x : Byte} : (reqUnbar x).KeepsTied := by
  refine onBearer_keepsTied fun b s h => ?_
  dsimp only
  split
  · exact h
  · next barred =>
    have loose : (s.bearer b).state.loose = true := by rw [barred]; rfl
    exact (h.setLoose (x := { s.bearer b with state := .idle }) loose rfl (h.lineless_of_loose loose)).freedGiven
  · exact h.setBearer_same rfl rfl

theorem reqReleaseAcknowledge_keepsTied {x : Byte} : (reqReleaseAcknowledge x).KeepsTied := by
  refine onBearer_keepsTied fun b s h => ?_
  split
  · next clearing =>
    exact (h.setLoose (by rw [clearing]; rfl) (freed_loose _) rfl).freedHanded
  · exact h

/-- Bearers outside every call are confirmed in turn. -/
theorem Tied.confirmed (bs : List Bearer) {s : State} (h : Tied I [] [] s)
    (loose : ∀ b ∈ bs, (s.bearer b).state.loose = true) :
    Tied I [] [] (each bs (fun b s => s.setBearer b (s.bearer b).freed) s) := by
  induction bs generalizing s with
  | nil => exact h
  | cons b rest ih =>
    refine ih (h.setLoose (loose b List.mem_cons_self) (freed_loose _) rfl) fun c mem => ?_
    rw [setBearer_bearer]
    split
    · exact freed_loose _
    · exact loose c (List.mem_cons_of_mem _ mem)

theorem reqBearerCheck_keepsTied {x : Word16} : (reqBearerCheck x).KeepsTied := by
  intro s h
  unfold reqBearerCheck
  split
  · exact h
  · split
    · exact h
    · refine (h.confirmed _ fun b mem => ?_).eachKept fun _ _ hv => hv.freedGiven
      have unchecked := (List.mem_filter.mp mem).2
      simp only [Bool.and_eq_true, decide_eq_true_eq] at unchecked
      rw [unchecked.2]
      rfl

/-! ## The link -/

/-- With the link Down no line names a bearer, no bearer has a line, none is engaged and no handover is in flight. -/
theorem Tied.down (h : Tied I [] [] s) (down : s.bearers.linkUp = false) :
    (∀ l : Line, s.call[l].bearer = none) ∧ (∀ b, (s.bearer b).line = none) ∧ (∀ b, b ∉ s.bearers.connection) ∧
      ∀ b m, ¬s.hands b m := by
  have absent b : (s.bearer b).state = .absent := h.linkDown down b List.not_mem_nil
  have unnamed (l : Line) : s.call[l].bearer = none := by
    by_contra some
    obtain ⟨b, names⟩ := Option.ne_none_iff_exists'.mp some
    exact useAgrees_present (h.agree l b List.not_mem_nil names) (absent b)
  refine ⟨unnamed, fun b => ?_, fun b mem => ?_, fun b m => h.unhanded List.not_mem_nil (by rw [absent]; nofun) m⟩
  · by_contra some
    obtain ⟨m, line⟩ := Option.ne_none_iff_exists'.mp some
    exact nomatch (unnamed m).symm.trans (h.names_of_line List.not_mem_nil line).2
  · exact nomatch (absent b).symm.trans ((h.connected b List.not_mem_nil).mp mem)

/-- A new bearer table without a line and without a busy bearer, where no line names a bearer. -/
theorem Tied.newBearers {x : BearerTable} (h : Tied I L [] s) (unnamed : ∀ l ∉ L, s.call[l].bearer = none)
    (lineless : ∀ b : Bearer, x.recs[b].line = none) (still : ∀ b : Bearer, x.recs[b].state.busy = false)
    (connection : x.connection = []) (unhanded : ∀ b m, ¬s.hands b m)
    (link : x.linkUp = false → ∀ b : Bearer, x.recs[b].state = .absent) : Tied I L [] (s.setBearers x) :=
  { h with
    named := fun m c => iff_of_false (fun ⟨out, names⟩ => nomatch (unnamed m out).symm.trans names)
      fun ⟨_, line⟩ => nomatch (lineless c).symm.trans line
    agree := fun m c out names => nomatch (unnamed m out).symm.trans names
    bearerNames := fun c _ _ busy => nomatch (still c).symm.trans busy
    connectionOnce := by
      change x.connection.Nodup
      rw [connection]
      exact List.nodup_nil
    connected := fun c _ => by
      refine iff_of_false ?_ fun engaged => ?_
      · change c ∉ x.connection
        rw [connection]
        exact List.not_mem_nil
      · have busy := still c
        change x.recs[c].state = _ at engaged
        rw [engaged] at busy
        exact nomatch busy
    handed := fun c _ => by
      refine iff_of_false (fun handover => ?_) fun ⟨m, hands⟩ => unhanded c m hands
      have busy := still c
      change x.recs[c].state = _ at handover
      rw [handover] at busy
      exact nomatch busy
    handedLine := fun c m _ hands => absurd hands (unhanded c m)
    linkDown := fun down c _ => link down c }

theorem reqLinkUp_keepsTied {x : Byte} : (reqLinkUp x).KeepsTied := by
  intro s h
  unfold reqLinkUp
  dsimp only
  split
  · exact h
  · split
    · exact h
    · next notUp =>
      have downLink : s.bearers.linkUp = false := by simpa using notUp
      obtain ⟨unnamed, lineless, unengaged, unhanded⟩ := h.down downLink
      refine h.newBearers (fun l _ => unnamed l) (fun b => ?_) (fun b => ?_)
        (List.eq_nil_iff_forall_not_mem.mpr unengaged) unhanded nofun
      all_goals
        rw [tabulate_get]
        split
      · rfl
      · exact lineless b
      · rfl
      · rw [h.linkDown downLink b List.not_mem_nil]
        rfl

theorem linkLost_get (ne : m ≠ l) : (linkLost l s).call[m] = s.call[m] := by
  unfold linkLost
  split
  · split
    · exact enterLockout_get ne
    · exact goIdle_get ne
  · exact enterLockout_get ne
  · exact goIdle_get ne
  · rfl

/-- A line that has lost its bearer and is in hand ends its call. -/
theorem Tied.lostLink (h : Tied I (l :: L) B s) (k : s.inService l)
    (used : s.call[l].state = .seizing ∨ s.call[l].state = .connected ∨ s.call[l].state = .ringing) :
    Tied I L B (linkLost l s) := by
  unfold linkLost
  split
  · split
    · exact h.lockedOut k
    · exact h.idle k
  · exact h.lockedOut k
  · exact h.idle k
  · next notConnected notSeizing notRinging =>
    rcases used with e | e | e
    · exact absurd e notSeizing
    · exact absurd e notConnected
    · exact absurd e notRinging

/-- The line names a bearer. -/
def State.names (s : State) (l : Line) : Bool := s.call[l].bearer.isSome

theorem Tied.used_of_names (h : Tied I [] [] s) (names : s.names l = true) :
    s.call[l].state = .seizing ∨ s.call[l].state = .connected ∨ s.call[l].state = .ringing := by
  obtain ⟨b, some⟩ := Option.isSome_iff_exists.mp names
  have agrees := h.agree l b List.not_mem_nil some
  revert agrees
  cases s.call[l].state <;> simp [useAgrees]

/-- The lines that named a bearer of `s` end their calls in turn. -/
theorem Tied.lostLinks (h : Tied I [] [] s) (xs : List Line) {v : State} (k : Tied I (xs.filter s.names) [] v)
    (once : xs.Nodup) (same : ∀ l ∈ xs, v.call[l] = s.call[l])
    (other : SameBut [.call, .brk, .arbiter, .ringer, .feed, .bearers] s v) : Tied I [] [] (each xs linkLost v) := by
  induction xs generalizing v with
  | nil => exact k
  | cons x rest ih =>
    obtain ⟨new, once⟩ := List.nodup_cons.mp once
    have record := same x List.mem_cons_self
    have sameRest : ∀ l ∈ rest, (linkLost x v).call[l] = s.call[l] := fun l mem => by
      have ne : l ≠ x := fun e => new (by rwa [← e])
      rw [linkLost_get ne, same l (List.mem_cons_of_mem _ mem)]
    have otherRest : SameBut [.call, .brk, .arbiter, .ringer, .feed, .bearers] s (linkLost x v) :=
      other.then linkLost_sameBut (by decide)
    refine ih ?_ once sameRest otherRest
    by_cases names : s.names x = true
    · rw [List.filter_cons_of_pos names] at k
      have used := h.used_of_names names
      have inService : s.inService x := h.inService List.not_mem_nil (by
        rcases used with e | e | e <;> rw [e] <;> rfl)
      exact k.lostLink (inService.ofSameBut other (by decide)) (by rw [record]; exact used)
    · rw [List.filter_cons_of_neg names] at k
      have unused := h.lineNames x List.not_mem_nil (by simpa [State.names] using names)
      have stays : linkLost x v = v := by
        unfold linkLost
        rw [record]
        obtain ⟨notSeizing, notConnected, notRinging⟩ := unused
        generalize s.call[x].state = st at *
        cases st <;> first | rfl | contradiction
      change Tied I _ [] (linkLost x v)
      rw [stays]
      exact k

theorem eachLine_eq (f : Line → State → State) (s : State) : eachLine f s = each allLines f s := rfl

/-- Lines are taken up with all that they name gone. -/
theorem Tied.takeLines (h : Tied I [] [] s) {x : BearerTable} (lineless : ∀ b : Bearer, x.recs[b].line = none)
    (absent : ∀ b : Bearer, x.recs[b].state = .absent) (connection : x.connection = []) :
    Tied I (allLines.filter s.names) [] ((s.setBearers x).setHandover none) := by
  have unnamed (l : Line) (out : l ∉ allLines.filter s.names) : s.call[l].bearer = none := by
    simpa [State.names, mem_allLines] using out
  have none : ∀ b m, ¬((s.setBearers x).setHandover .none).hands b m := fun b m ⟨r, on, _⟩ => nomatch on
  exact
  { named := fun m c => iff_of_false (fun ⟨out, names⟩ => nomatch (unnamed m out).symm.trans names)
      fun ⟨_, line⟩ => nomatch (lineless c).symm.trans line
    agree := fun m c out names => nomatch (unnamed m out).symm.trans names
    lineNames := fun m _ => h.lineNames m List.not_mem_nil
    bearerNames := fun c _ _ busy => by
      change x.recs[c].state.busy = true at busy
      rw [absent c] at busy
      exact nomatch busy
    connectionOnce := by
      change x.connection.Nodup
      rw [connection]
      exact List.nodup_nil
    connected := fun c _ => by
      change c ∈ x.connection ↔ x.recs[c].state = _
      rw [connection, absent c]
      exact iff_of_false List.not_mem_nil nofun
    handed := fun c _ => by
      change x.recs[c].state = _ ↔ _
      rw [absent c]
      exact iff_of_false nofun fun ⟨m, hands⟩ => none c m hands
    handedLine := fun c m _ hands => absurd hands (none c m)
    arrivedOnce := h.arrivedOnce
    stands := fun a mem _ => h.stands a mem List.not_mem_nil
    arrived := fun m _ => h.arrived m List.not_mem_nil
    isolated := fun i on m _ => h.isolated i on m List.not_mem_nil
    disabled := fun m _ => h.disabled m List.not_mem_nil
    tested := fun m _ => h.tested m List.not_mem_nil
    looks := fun y on _ => h.looks y on List.not_mem_nil
    linkDown := fun _ c _ => absent c }

/-- Every line that names a bearer ends its call once all bearers are Absent. -/
theorem Tied.linkGone (h : Tied I [] [] s) {x : BearerTable} (lineless : ∀ b : Bearer, x.recs[b].line = none)
    (absent : ∀ b : Bearer, x.recs[b].state = .absent) (connection : x.connection = []) :
    Tied I [] [] (eachLine linkLost ((s.setBearers x).setHandover none)) := by
  have changed : SameBut [.call, .brk, .arbiter, .ringer, .feed, .bearers] s ((s.setBearers x).setHandover none) :=
    SameBut.then (SameBut.then (.refl _ s) setBearers_sameBut (by decide)) setArbiter_sameBut (by decide)
  exact h.lostLinks allLines (h.takeLines lineless absent connection) (List.nodup_finRange 32) (fun _ _ => rfl) changed

theorem reqLinkDown_keepsTied : (reqLinkDown).KeepsTied := by
  intro s h
  unfold reqLinkDown
  dsimp only
  split
  · dsimp only
    refine Tied.linkGone h (fun b => ?_) (fun b => ?_) ?_
    · rw [tabulate_get]
      rfl
    · rw [tabulate_get]
      rfl
    · rfl
  · exact h

end

end Sys2Proof.Machine
end

section
/-! What ties calls is kept by the requests about calls and tests and by the settings writes. -/

namespace Sys2Proof.Machine

section
variable {I : Prop} {L : List Line} {B : List Bearer} {s t : State} {l m p : Line} {b c v : Bearer}

/-! ## Grant, Refuse and Release -/

theorem paired_iff {x : CallState} {y : BearerState} : s.paired l b x y = true ↔
    s.call[l].state = x ∧ s.call[l].bearer = some b ∧ (s.bearer b).state = y := by
  simp only [State.paired, Bool.and_eq_true, decide_eq_true_eq, and_assoc]

/-- A bearer whose state is neither Engaged nor Handover is in no connection and in no handover. -/
theorem Tied.unconnected (h : Tied I L B s) (free : b ∉ B) (state : (s.bearer b).state ≠ .engaged) :
    b ∉ s.bearers.connection := fun mem => state ((h.connected b free).mp mem)

theorem judgeLate_keepsTied {x : Line} {y : Bearer} : (judgeLate x y).KeepsTied :=
  (judgeLate_changes (parts := [])).keepsTied (by decide)

theorem reqGrant_keepsTied {x y : Byte} : (reqGrant x y).KeepsTied := by
  refine onLine_keepsTied fun l => onBearer_keepsTied fun b s h => ?_
  split
  · next paired =>
    obtain ⟨seizing, names, held⟩ := paired_iff.mp paired
    obtain ⟨free, -⟩ := h.free_of_names List.not_mem_nil names
    exact (h.takeUse List.not_mem_nil names).connect List.not_mem_nil List.not_mem_nil
      (h.inService List.not_mem_nil (by rw [seizing]; rfl)) (h.linkUp_of_names List.not_mem_nil names)
      (h.unconnected free (by rw [held]; nofun)) (h.unhanded free (by rw [held]; nofun)) flushDigits_sameBut
  · exact judgeLate_keepsTied s h

/-- A line that names a bearer outside a handover is taken up, and its bearer is freed. -/
theorem Tied.freedOf (h : Tied I [] [] s) (names : s.call[l].bearer = some b)
    (state : (s.bearer b).state ≠ .handover) : Tied I [l] [] (freeBearer b s) := by
  obtain ⟨free, -⟩ := h.free_of_names List.not_mem_nil names
  exact (h.takeUse List.not_mem_nil names).freed (h.linkUp_of_names List.not_mem_nil names) (h.unhanded free state)

theorem Tied.refused (h : Tied I [] [] s) (paired : s.paired l b .seizing .held = true) :
    Tied I [] [] (refuseSeize l b s) := by
  obtain ⟨seizing, names, held⟩ := paired_iff.mp paired
  refine ((h.freedOf names (by rw [held]; nofun)).lockedOut ?_).freedHanded
  exact (h.inService List.not_mem_nil (by rw [seizing]; rfl)).ofSameBut freeBearer_sameBut (by decide)

theorem reqRefuse_keepsTied {x y : Byte} : (reqRefuse x y).KeepsTied := by
  refine onLine_keepsTied fun l => onBearer_keepsTied fun b s h => ?_
  split
  · next paired => exact h.refused paired
  · exact judgeLate_keepsTied s h

theorem Tied.releasedConnected (h : Tied I [] [] s) (paired : s.paired l b .connected .engaged = true) :
    Tied I [] [] (releaseConnected l b s) := by
  obtain ⟨connected, names, engaged⟩ := paired_iff.mp paired
  have freed : Tied I [l] [] (freeBearer b s) := h.freedOf names (by rw [engaged]; nofun)
  have inService : (freeBearer b s).inService l :=
    (h.inService List.not_mem_nil (by rw [connected]; rfl)).ofSameBut freeBearer_sameBut (by decide)
  refine Tied.freedHanded ?_
  split
  · exact freed.lockedOut inService
  · exact freed.idle inService

theorem Tied.releasedRinging (h : Tied I [] [] s) (paired : s.paired l b .ringing .reserved = true) :
    Tied I [] [] (releaseRinging l b s) := by
  obtain ⟨ringing, names, reserved⟩ := paired_iff.mp paired
  refine ((h.freedOf names (by rw [reserved]; nofun)).idle ?_).freedHanded
  exact (h.inService List.not_mem_nil (by rw [ringing]; rfl)).ofSameBut freeBearer_sameBut (by decide)

theorem reqRelease_keepsTied {x y : Byte} : (reqRelease x y).KeepsTied := by
  refine onLine_keepsTied fun l => onBearer_keepsTied fun b s h => ?_
  split
  · next paired => exact h.refused paired
  · split
    · next paired => exact h.releasedConnected paired
    · split
      · next paired => exact h.releasedRinging paired
      · exact judgeLate_keepsTied s h

/-! ## Incoming -/

/-- The bearer in hand may be engaged: the link is Up, and the bearer is in no connection and in no handover. -/
structure Engageable (b : Bearer) (s : State) : Prop where
  up : s.bearers.linkUp = true
  new : b ∉ s.bearers.connection
  unhanded : ∀ m, ¬s.hands b m

theorem Engageable.congr (k : Engageable b s) (link : t.bearers.linkUp = s.bearers.linkUp)
    (connection : b ∈ t.bearers.connection → b ∈ s.bearers.connection)
    (handover : ∀ r, t.arbiter.handover = some r → s.arbiter.handover = some r) : Engageable b t :=
  ⟨link.trans k.up, fun mem => k.new (connection mem), fun m ⟨r, on, its⟩ => k.unhanded m ⟨r, handover r on, its⟩⟩

theorem Engageable.ofSameBut {parts : List Part} (k : Engageable b s) (h : SameBut parts s t)
    (read : ∀ p ∈ [Part.bearers, .arbiter], p ∉ parts) : Engageable b t := by
  have bearers : t.bearers = s.bearers := h .bearers (read _ (by decide))
  have arbiter : t.arbiter = s.arbiter := h .arbiter (read _ (by decide))
  exact k.congr (by rw [bearers]) (by rw [bearers]; exact id) (by rw [arbiter]; exact fun _ => id)

theorem grantBearer_engageable (k : Engageable b s) : Engageable b (grantBearer l c s) := by
  have reported := seizeReport_sameBut (l := l) (b := c) (s := enter l
    (seizingRecord c (setStanding l .seizing (giveBearer c .held l s))) (setStanding l .seizing (giveBearer c .held l s)))
  have given : Engageable b (setStanding l .seizing (giveBearer c .held l s)) := k.congr rfl id fun _ => id
  have bearers : _ = _ := enter_sameBut (l := l) (n := seizingRecord c (setStanding l .seizing (giveBearer c .held l s)))
    (s := setStanding l .seizing (giveBearer c .held l s)) .bearers (by decide)
  refine Engageable.ofSameBut (given.congr (congrArg _ bearers) ?_ fun r on => ?_) reported (by decide)
  · rw [bearers]
    exact id
  · rwa [enter_handover] at on

theorem placeYielded_engageable (k : Engageable b s) : Engageable b (placeYielded m s) := by
  unfold placeYielded
  split
  · exact grantBearer_engageable k
  · have stood : Engageable b (setStanding m .waiting s) := k.congr rfl id fun _ => id
    have bearers : _ = _ := enter_sameBut (l := m) (n := waitingRecord (setStanding m .waiting s))
      (s := setStanding m .waiting s) .bearers (by decide)
    refine stood.congr (congrArg _ bearers) ?_ fun r on => ?_
    · rw [bearers]
      exact id
    · rwa [enter_handover] at on

theorem placeYielded_get (ne : l ≠ m) : (placeYielded m s).call[l] = s.call[l] := by
  unfold placeYielded
  split
  · exact grantBearer_get ne
  · rw [enter_get, if_neg ne]
    rfl

theorem clearBearer_engageable (k : Engageable b s) : Engageable b (clearBearer c s) := by
  refine k.congr ?_ ?_ ?_ <;> rw [clearBearer_frame]
  · exact fun mem => List.mem_of_mem_filter mem
  · intro r on
    simp only at on
    split at on
    · exact nomatch on
    · exact on

/-- A line in hand is rung on the bearer in hand. -/
theorem Tied.rung (h : Tied I [l] [b] s) (k : s.inService l) (e : Engageable b s) :
    Tied I [] [] (startRinging l b s) := by
  have record : (giveBearer b .reserved l s).bearer b = (s.bearer b).give .reserved l := State.setBearer_get ..
  have settled : BearerSettled b (giveBearer b .reserved l s) := by
    refine ⟨iff_of_false e.new (by rw [record]; nofun), iff_of_false (by rw [record]; nofun) ?_,
      fun m hands => absurd hands (e.unhanded m), fun down => nomatch e.up.symm.trans down⟩
    exact fun ⟨m, hands⟩ => e.unhanded m hands
  have given : Tied I [l] [b] (giveBearer b .reserved l s) := h.setBearer List.mem_cons_self
  have entered : Tied I [] [] (enter l { state := .ringing, bearer := some b } (giveBearer b .reserved l s)) :=
    given.enterUse List.not_mem_nil List.not_mem_nil rfl (by rw [record]; rfl)
      (by rw [record]; trivial) (enter_settled_inService k rfl rfl) settled
  exact ((entered.ofSameBut callTarget_sameBut (by decide)).ofSameBut place_sameBut (by decide)).ofSameBut
    startWheel_sameBut (by decide)

/-- The own attempt of a line is withdrawn, and the line is left in hand beside the bearer in hand. -/
theorem Tied.withdrawn (h : Tied I [] [b] s) : Tied I [l] [b] (withdrawOwn l s) := by
  unfold withdrawOwn
  split
  · next c names =>
    have cleared : Tied I [l] [b] (clearBearer c s) :=
      (h.takeUse List.not_mem_nil names).cleared (h.linkUp_of_names List.not_mem_nil names)
    exact .ite (fun _ => cleared.ofReports releaseReport_sameBut) fun _ => cleared.ofReports lineReport_sameBut
  · next names => exact h.takeLine names

theorem withdrawOwn_engageable (e : Engageable b s) : Engageable b (withdrawOwn l s) := by
  unfold withdrawOwn
  split
  · split
    · exact (clearBearer_engageable e).ofSameBut releaseReport_sameBut (by decide)
    · exact (clearBearer_engageable e).ofSameBut lineReport_sameBut (by decide)
  · exact e

theorem withdrawOwn_inService (k : s.inService l) : (withdrawOwn l s).inService l :=
  k.ofSameBut withdrawOwn_sameBut (by decide)

theorem Tied.accepted {ring : Bool} (h : Tied I [] [b] s) (e : Engageable b s)
    (state : s.call[l].state = .idle ∨ s.call[l].state = .waiting ∨ s.call[l].state = .seizing) :
    Tied I [] [] (acceptIncoming l b ring s) := by
  have inService : s.inService l := h.inService List.not_mem_nil (by
    rcases state with x | x | x <;> rw [x] <;> rfl)
  unfold acceptIncoming
  split
  · next idle =>
    have taken : Tied I [l] [b] s := h.takeLine (h.unnamed List.not_mem_nil (by rw [idle]; decide))
    refine .ite (fun _ => taken.rung inService e) fun _ => ?_
    exact (taken.connect List.not_mem_nil List.not_mem_nil inService e.up e.new e.unhanded (.refl _ _)).ofSameBut
      callTarget_sameBut (by decide)
  · obtain ⟨up, new, unhanded⟩ := withdrawOwn_engageable (l := l) e
    exact (h.withdrawn.connect List.not_mem_nil List.not_mem_nil (withdrawOwn_inService inService) up new unhanded
      (.refl _ _)).ofReports lineReport_sameBut

/-- The bearer that an Incoming names is in hand once the line that yields it, if any, has been placed. -/
theorem Tied.yieldedBearer (h : Tied I [] [] s) (ready : s.incomingBearer l b = true) :
    let u := match s.yielder l b with
      | some m => placeYielded m s
      | none => s
    Tied I [] [b] u ∧ Engageable b u ∧ u.call[l] = s.call[l] := by
  have free : b ∉ ([] : List Bearer) := List.not_mem_nil
  have engageable (up : s.bearers.linkUp = true) (state : (s.bearer b).state ≠ .engaged ∧ (s.bearer b).state ≠ .handover) :
      Engageable b s := ⟨up, h.unconnected free state.1, h.unhanded free state.2⟩
  dsimp only
  split
  · next m yields =>
    unfold State.yielder at yields
    split at yields
    · next held =>
      obtain ⟨held, other⟩ := held
      obtain ⟨out, names⟩ := h.names_of_line free yields
      have seizing : s.call[m].state = .seizing := by
        have agrees := h.agree m b out names
        rw [held] at agrees
        revert agrees
        cases s.call[m].state <;> simp [useAgrees]
      have ne : l ≠ m := by
        rintro rfl
        exact other yields
      refine ⟨(h.takeUse out names).placedYielded (h.inService out (by rw [seizing]; rfl))
        (h.arrived m out (by rw [seizing]; rfl)) (h.service out (by rw [seizing]; rfl)) (by rw [held]; nofun), ?_,
        placeYielded_get ne⟩
      exact placeYielded_engageable (engageable (h.linkUp_of_names out names) (by rw [held]; exact ⟨nofun, nofun⟩))
    · exact nomatch yields
  · next none =>
    have idle : (s.bearer b).state = .idle := by simpa [State.incomingBearer, none] using ready
    exact ⟨h.takeBearer (h.lineless_of_idle free idle),
      engageable (h.linkUp_of_present free (by rw [idle]; nofun)) (by rw [idle]; exact ⟨nofun, nofun⟩), rfl⟩

theorem reqIncoming_keepsTied {x y z : Byte} : (reqIncoming x y z).KeepsTied := by
  intro s h
  have ended : Tied True [] [] (endQuiet s) := h.ofSameBut endQuiet_sameBut (by decide)
  have carried {l : Line} {b : Bearer} {ring : Bool} (ready : (endQuiet s).incomingBearer l b = true)
      (state : (endQuiet s).call[l].state = .idle ∨ (endQuiet s).call[l].state = .waiting ∨
        (endQuiet s).call[l].state = .seizing) : Tied True [] [] (carryIncoming l b ring (endQuiet s)) := by
    obtain ⟨tied, engageable, same⟩ := ended.yieldedBearer ready
    exact (tied.accepted engageable (by rw [same]; exact state)).reconsideredIf
  unfold reqIncoming
  dsimp only
  split
  · split
    · exact ended
    · split
      · next idle => split <;> first | exact carried ‹_› (.inl idle) | exact ended
      · next waiting => split <;> first | exact carried ‹_› (.inr (.inl waiting)) | exact ended
      · next seizing => split <;> first | exact carried ‹_› (.inr (.inr seizing)) | exact ended
      · exact ended
  · exact ended

/-! ## Tests -/

theorem reqTestLine_keepsTied {x y z : Byte} : (reqTestLine x y z).KeepsTied := by
  refine onLine_keepsTied fun l s h => ?_
  dsimp only
  split
  · exact h
  · split
    · exact h
    · next free =>
      split
      · exact h
      · generalize (if z.toNat = 0 then TestMode.courteous else TestMode.forced) = mode
        split
        · next allowed => exact h.sessionStarted (by simpa using free) allowed
        · exact h

theorem reqTestAbort_keepsTied : (reqTestAbort).KeepsTied := by
  intro s h
  unfold reqTestAbort
  split
  · exact h
  · next x on =>
    split
    · exact h
    · exact h.disconnecting (line_of_session on) (h.modeFits on)

end

end Sys2Proof.Machine
end

section
/-! What ties calls is kept by the settings writes, by restarts, by what comes on the bus, and by the clock: O6. -/

namespace Sys2Proof.Machine

section
variable {I : Prop} {L : List Line} {B : List Bearer} {s t : State} {l m : Line} {b : Bearer} {x : Session}

/-! ## Set Line -/

/-- The entry of a line in hand may become anything, unless looks are still made for it. -/
theorem Tied.setEntry {n : LineEntry} (h : Tied I L B s) (mem : l ∈ L) : Tied I L B (s.setEntry l n) := by
  have entry (m : Line) (out : m ∉ L) : (s.setEntry l n).entries[m] = s.entries[m] := by
    change (s.entries.set l n)[m] = _
    rw [set_get, if_neg fun e : m = l => out (e ▸ mem)]
  refine h.congr (fun _ _ => ⟨rfl, rfl, rfl⟩) (fun _ _ => ⟨rfl, rfl⟩) h.connectionOnce (fun _ _ => .rfl) rfl
    (fun _ _ _ => .rfl) h.arrivedOnce (fun _ _ => .rfl) (fun _ => id) (fun m out => by rw [entry m out])
    (fun _ _ => .rfl) fun y on out => h.looks y on out

/-- An entry that stays enabled or disabled ties nothing anew. -/
theorem Tied.setEntry_same {n : LineEntry} (h : Tied I L B s) (same : n.enabled = s.entries[l].enabled) :
    Tied I L B (s.setEntry l n) := by
  have entry (m : Line) : (s.setEntry l n).entries[m].enabled = s.entries[m].enabled := by
    change (s.entries.set l n)[m].enabled = _
    rw [set_get]
    split
    · next e => rw [same, e]
    · rfl
  refine h.congr (fun _ _ => ⟨rfl, rfl, rfl⟩) (fun _ _ => ⟨rfl, rfl⟩) h.connectionOnce (fun _ _ => .rfl) rfl
    (fun _ _ _ => .rfl) h.arrivedOnce (fun _ _ => .rfl) (fun _ => id) (fun m _ => entry m)
    (fun _ _ => .rfl) fun y on out => h.looks y on out

theorem setEntry_get {n : LineEntry} : (s.setEntry l n).entries[l] = n := by
  change (s.entries.set l n)[l] = n
  rw [set_get, if_pos rfl]

theorem Tied.rewritten {old new : LineEntry} (h : Tied I L B s) : Tied I L B (rewriteLine l old new s) := by
  have reset : Tied I L B (if old.profile ≠ new.profile then resetCounts l s else s) :=
    .ite (fun _ => h.ofSameBut resetCounts_sameBut (by decide)) fun _ => h
  exact .ite (fun _ => reset.ofSameBut ringClassChange_sameBut (by decide)) fun _ => reset

theorem Tied.enabledAgain (h : Tied I [l] [] s) (k : s.inService l) : Tied I [] [] (enableLine l s) := by
  have fresh : Tied I [l] [] (s.setSup l Supervision.fresh) := h.ofSameBut setSup_sameBut (by decide)
  exact (fresh.idle (k.ofSameBut setSup_sameBut (by decide))).ofSameBut endQuiet_sameBut (by decide)

/-- The line in hand, which has left its call, becomes Disabled. -/
theorem Tied.disabledInHand {y : Bool} (h : Tied I [l] [] s) (off : s.entries[l].enabled = false)
    (untested : s.test.session.map Session.line ≠ some l) :
    Tied I [] [] (reconsiderIf y
      ((callTarget l .openLoop (enter l { state := .disabled } s)).setSup l Supervision.fresh)) := by
  have settled : LineSettled I l (enter l { state := .disabled } s) :=
    enter_settled rfl (iff_of_true off (.inl rfl)) (iff_of_false nofun untested)
      fun y on line => absurd (by rw [on, ← line]; rfl) untested
  have entered : Tied I [] [] (enter l { state := .disabled } s) :=
    h.enterUnused rfl ⟨nofun, nofun, nofun⟩ settled
  exact ((entered.ofSameBut callTarget_sameBut (by decide)).ofSameBut setSup_sameBut (by decide)).reconsideredIf

/-- A line that is not under test is disabled, with what it was doing. -/
theorem Tied.disabledLine {n : LineEntry} (h : Tied I [] [] s) (off : n.enabled = false)
    (untested : s.test.session.map Session.line ≠ some l) : Tied I [] [] (disableLine l (s.setEntry l n)) := by
  have out : l ∉ ([] : List Line) := List.not_mem_nil
  have released : Tied I [l] [] (releaseUse l .disabled (s.setEntry l n)) := by
    unfold releaseUse
    split
    · next b names =>
      have cleared := ((h.takeUse out names).setEntry (n := n) List.mem_cons_self).cleared (h.linkUp_of_names out names)
      exact cleared.ofSameBut releaseReport_sameBut (by decide)
    · next names => exact (h.takeLine names).setEntry List.mem_cons_self
  have kept : SameBut _ (s.setEntry l n) (releaseUse l .disabled (s.setEntry l n)) := releaseUse_sameBut
  have entries : (releaseUse l .disabled (s.setEntry l n)).entries = (s.setEntry l n).entries :=
    kept .entries (by decide)
  have test : (releaseUse l .disabled (s.setEntry l n)).test = s.test := kept .test (by decide)
  refine released.disabledInHand ?_ ?_
  · rw [entries, setEntry_get, off]
  · rw [test]
    exact untested

/-- A line under test that is in hand is put down with its session. -/
theorem Tied.putTested (h : Tied I [l] [] s) (on : s.test.session = some x) (line : x.line = l)
    (state : s.call[l].state = .testing) (names : s.call[l].bearer = none)
    (absent : ∀ a ∈ s.arbiter.arrivals, a.line ≠ l)
    (prior : s.entries[l].enabled = false ↔ s.call[l].prior = some .disabled) (fit : s.looksFit x) :
    Tied I [] [] s := by
  refine h.putLine names (by rw [state]; exact ⟨nofun, nofun, nofun⟩) ⟨?_, ?_, ?_, ?_, ?_, ?_⟩
  · exact fun a mem mine => absurd mine (absent a mem)
  · rw [state]
    exact nofun
  · rw [state]
    exact fun _ _ => rfl
  · rw [prior, state]
    simp
  · rw [state, on]
    exact iff_of_true rfl (congrArg some line)
  · intro y mine _
    rw [on] at mine
    cases mine
    exact fit

/-- After its looks are dropped the line under test is measured without any, in no look. -/
theorem dropLooks_session (on : s.test.session = some x) (line : x.line = l)
    (more : x.phase = .look → x.remaining ≠ []) :
    ∃ y, (dropLooks l s).test.session = some y ∧ y.line = l ∧ y.mode = .forced ∧ y.phase ≠ .look := by
  unfold dropLooks
  rw [on]
  dsimp only
  rw [if_pos line]
  split
  · next k _ _ _ =>
    unfold toMeasure
    dsimp only
    split
    · exact ⟨_, rfl, line, rfl, nofun⟩
    · exact ⟨_, rfl, line, rfl, nofun⟩
  · next other =>
    refine ⟨_, rfl, line, rfl, fun looking => ?_⟩
    obtain ⟨k, ks, some⟩ := List.exists_cons_of_ne_nil (more looking)
    exact other k ks looking some

theorem Tied.looksDropped (h : Tied I L B s) (on : s.test.session = some x) : Tied I L B (dropLooks l s) := by
  unfold dropLooks
  rw [on]
  dsimp only
  refine .ite (fun _ => ?_) fun _ => h
  split
  · exact h.toMeasuring (x := { x with mode := .forced, lookCount := 0 }) (by rw [on]; rfl) nofun
  · next k _ =>
    refine h.setTest (fun m _ => ?_) fun y mine out => ?_
    · rw [on]
      exact .rfl
    · cases mine
      exact ⟨nofun, (h.looks x on out).2⟩

/-- The line under test is taken up: it names no bearer, has no entry in the arrival list, and its looks fit. -/
theorem Tied.takeTested (h : Tied I [] [] s) (state : s.call[l].state = .testing) :
    ∃ x, s.test.session = some x ∧ x.line = l ∧ s.looksFit x ∧ s.call[l].bearer = none ∧
      (∀ a ∈ s.arbiter.arrivals, a.line ≠ l) ∧ Tied I [l] [] s := by
  have on := (h.tested l List.not_mem_nil).mp state
  obtain ⟨x, on, line⟩ := Option.map_eq_some_iff.mp on
  have names := h.unnamed (l := l) List.not_mem_nil (by rw [state]; decide)
  exact ⟨x, on, line, h.looks x on List.not_mem_nil, names,
    h.no_entry List.not_mem_nil (by rw [state]; rfl), h.takeLine names⟩

theorem Tied.enabledTested {n : LineEntry} (h : Tied I [] [] s) (on : n.enabled = true)
    (state : s.call[l].state = .testing) : Tied I [] [] (enableTested l (s.setEntry l n)) := by
  obtain ⟨x, session, line, fit, names, absent, taken⟩ := h.takeTested state
  have changed {y : CallRecord} (call : y.state = .testing ∧ y.bearer = none ∧ y.prior ≠ some .disabled) :
      Tied I [] [] ((s.setEntry l n).setCall l y) := by
    have record : ((s.setEntry l n).setCall l y).call[l] = y := State.setCall_get ..
    refine ((taken.setEntry List.mem_cons_self).setCall List.mem_cons_self).putTested session line
      (by rw [record]; exact call.1) (by rw [record]; exact call.2.1) absent (iff_of_false ?_ ?_) ?_
    · change ¬(s.setEntry l n).entries[l].enabled = false
      rw [setEntry_get, on]
      nofun
    · rw [record]
      exact call.2.2
    · have entry : ((s.setEntry l n).setCall l y).entries[x.line].enabled = true := by
        change (s.setEntry l n).entries[x.line].enabled = true
        subst line
        rw [setEntry_get, on]
      exact ⟨fun _ => entry, fun looking => ⟨entry, (fit.2 looking).2⟩⟩
  have tested : Tied I [] [] ((s.setEntry l n).setCall l
      { (s.setEntry l n).call[l] with prior := some .idle, fault := none }) := changed ⟨state, names, nofun⟩
  exact ((tested.ofSameBut callTarget_sameBut (by decide)).ofSameBut setSup_sameBut (by decide)).ofSameBut
    endQuiet_sameBut (by decide)

theorem Tied.disabledTested {n : LineEntry} (h : Tied I [] [] s) (off : n.enabled = false)
    (state : s.call[l].state = .testing) : Tied I [] [] (disableTested l (s.setEntry l n)) := by
  obtain ⟨x, session, line, fit, names, absent, taken⟩ := h.takeTested state
  have written {y : CallRecord} {f : FeedMode} (call : y.state = .testing ∧ y.bearer = none ∧ y.prior = some .disabled) :
      Tied I [] [] (dropLooks l ((callTarget l f ((s.setEntry l n).setCall l y)).setSup l Supervision.fresh)) := by
    generalize hu : (callTarget l f ((s.setEntry l n).setCall l y)).setSup l Supervision.fresh = u
    have kept : SameBut [.feed, .sup] ((s.setEntry l n).setCall l y) u :=
      by
        rw [← hu]
        exact SameBut.then (SameBut.then (.refl _ _) callTarget_sameBut (by decide)) setSup_sameBut (by decide)
    have inHand : Tied I [l] [] u :=
      ((taken.setEntry List.mem_cons_self).setCall List.mem_cons_self).ofSameBut kept (by decide)
    have test : u.test = s.test := kept .test (by decide)
    have on : u.test.session = some x := by rw [test, session]
    obtain ⟨z, session, its, forced, noLook⟩ := dropLooks_session on line fun looking => (fit.2 looking).2
    have dropped : SameBut _ u (dropLooks l u) := dropLooks_sameBut
    have record : (dropLooks l u).call[l] = y := by
      have call : (dropLooks l u).call = u.call := dropped .call (by decide)
      have called : u.call = ((s.setEntry l n).setCall l y).call := kept .call (by decide)
      rw [call, called, State.setCall_get]
    have entry : (dropLooks l u).entries[l].enabled = false := by
      have entries : (dropLooks l u).entries = u.entries := dropped .entries (by decide)
      have entered : u.entries = (s.setEntry l n).entries := kept .entries (by decide)
      rw [entries, entered, setEntry_get, off]
    have arbiter : (dropLooks l u).arbiter = s.arbiter := (dropped .arbiter (by decide)).trans (kept .arbiter (by decide))
    refine (inHand.looksDropped on).putTested session its (by rw [record]; exact call.1)
      (by rw [record]; exact call.2.1) (arbiter ▸ absent) (iff_of_true entry (by rw [record]; exact call.2.2)) ?_
    refine ⟨fun courteous => ?_, fun looking => absurd looking noLook⟩
    rw [forced] at courteous
    exact nomatch courteous
  exact written ⟨state, names, rfl⟩

/-- Whether Set Line finds the line enabled is whether its entry was. -/
theorem Tied.wasDisabled (h : Tied I [] [] s) :
    (if s.call[l].state = .testing then s.call[l].prior.getD .idle else s.call[l].state) = .disabled ↔
      s.entries[l].enabled = false := by
  rw [h.disabled l List.not_mem_nil]
  split
  · next testing =>
    rw [getD_idle, testing]
    simp
  · next other => exact ⟨.inl, fun k => k.elim id fun ⟨testing, _⟩ => absurd testing other⟩

theorem reqSetLine_keepsTied {y e p k q : Byte} : (reqSetLine y e p k q).KeepsTied := by
  refine onLine_keepsTied fun l s h => ?_
  split
  · next e p k pre _ _ _ _ =>
    dsimp only
    generalize hn : ({ enabled := e, profile := p, cls := k, preemptible := pre } : LineEntry) = n
    have enabled : n.enabled = e := hn ▸ rfl
    have was := h.wasDisabled (l := l)
    have call : (s.setEntry l n).call = s.call := rfl
    unfold lineWritten
    dsimp only
    rw [call]
    split
    · next wasDisabled now =>
      have off := was.mp (by simpa using wasDisabled)
      split
      · next testing => exact h.enabledTested now testing
      · next other =>
        have untested := fun on => other ((h.tested l List.not_mem_nil).mpr on)
        have names := h.unnamed (l := l) List.not_mem_nil (by
          rcases (h.disabled l List.not_mem_nil).mp off with d | ⟨t, -⟩
          · rw [d]; decide
          · exact absurd t other)
        exact ((h.takeLine names).setEntry List.mem_cons_self).enabledAgain ⟨by rw [setEntry_get]; exact now, untested⟩
    · next wasEnabled now =>
      split
      · next testing => exact h.disabledTested now testing
      · next other => exact h.disabledLine now fun on => other ((h.tested l List.not_mem_nil).mpr on)
    · next wasEnabled now =>
      have on : s.entries[l].enabled = true := by simpa using fun off => (of_decide_eq_false wasEnabled) (was.mpr off)
      exact (h.setEntry_same (now.trans on.symm)).rewritten
    · next wasDisabled now =>
      have off := was.mp (of_decide_eq_true wasDisabled)
      exact h.setEntry_same (now.trans off.symm)
  · exact h

/-! ## The other settings -/

theorem reqSetProfile_keepsTied {y : Byte} {p : Profile} : (reqSetProfile y p).KeepsTied := by
  intro s h
  unfold reqSetProfile
  split
  · split
    · exact (h.tablesSet.ofSameBut resetProfileCounts_sameBut (by decide)).referenceComputed
    · exact h
  · exact h

theorem reqSetClassMap_keepsTied {a b c d : Word16} : (reqSetClassMap a b c d).KeepsTied := by
  intro s h
  unfold reqSetClassMap
  split
  · exact h.tablesSet.referenceComputed.idleRun
  · exact h

theorem reqSetArbiterPhases_keepsTied {t : Vector Byte 8} : (reqSetArbiterPhases t).KeepsTied := by
  intro s h
  unfold reqSetArbiterPhases
  split
  · exact (h.tablesSet.setPointer).referenceComputed
  · exact h

theorem reqSetTimers_keepsTied {t : Timers} : (reqSetTimers t).KeepsTied := fun _ h =>
  h.tablesSet.referenceComputed.ofSameBut quietDelayWritten_sameBut (by decide)

theorem reqSetSupplyThresholds_keepsTied {t : Thresholds} : (reqSetSupplyThresholds t).KeepsTied := by
  intro s h
  unfold reqSetSupplyThresholds
  split
  · exact h.tablesSet.referenceComputed
  · exact h

theorem reqArmMonitor_keepsTied {y : Byte} : (reqArmMonitor y).KeepsTied := by
  intro s h
  unfold reqArmMonitor
  dsimp only
  split
  · exact h
  · exact h.setMonitor fun _ => id

/-! ## Restarts -/

/-- A state in which no call, test or handover is left is tied. -/
theorem Tied.ofQuiescent
    (calls : ∀ l : Line, t.call[l].bearer = none ∧
      t.call[l].state = if t.entries[l].enabled then .idle else .disabled)
    (bearers : ∀ b, (t.bearer b).line = none ∧ (t.bearer b).state.busy = false)
    (connection : t.bearers.connection = []) (handover : t.arbiter.handover = none)
    (arrivals : t.arbiter.arrivals = []) (session : t.test.session = none)
    (link : t.bearers.linkUp = false → ∀ b, (t.bearer b).state = .absent) : Tied I [] [] t := by
  have state (l : Line) : t.call[l].state = .idle ∧ t.entries[l].enabled = true ∨
      t.call[l].state = .disabled ∧ t.entries[l].enabled = false := by
    rw [(calls l).2]
    cases t.entries[l].enabled
    · exact .inr ⟨rfl, rfl⟩
    · exact .inl ⟨rfl, rfl⟩
  have notBusy {b : Bearer} {y : BearerState} (busy : y.busy = true) : (t.bearer b).state ≠ y := fun e => by
    have still := (bearers b).2
    rw [e, busy] at still
    exact nomatch still
  have unhanded b m : ¬t.hands b m := fun ⟨r, on, _⟩ => nomatch on.symm.trans handover
  exact
  { named := fun l b => iff_of_false (fun ⟨_, names⟩ => nomatch names.symm.trans (calls l).1)
      fun ⟨_, line⟩ => nomatch line.symm.trans (bearers b).1
    agree := fun l b _ names => nomatch names.symm.trans (calls l).1
    lineNames := fun l _ _ => by rcases state l with ⟨e, -⟩ | ⟨e, -⟩ <;> rw [e] <;> exact ⟨nofun, nofun, nofun⟩
    bearerNames := fun b _ _ busy => nomatch busy.symm.trans (bearers b).2
    connectionOnce := by rw [connection]; exact List.nodup_nil
    connected := fun b _ => by
      rw [connection]
      exact iff_of_false List.not_mem_nil (notBusy rfl)
    handed := fun b _ => iff_of_false (notBusy rfl) fun ⟨m, hands⟩ => unhanded b m hands
    handedLine := fun b m _ hands => absurd hands (unhanded b m)
    arrivedOnce := by rw [arrivals]; exact List.nodup_nil
    stands := fun a mem _ => by
      rw [arrivals] at mem
      exact nomatch mem
    arrived := fun l _ joined => by rcases state l with ⟨e, -⟩ | ⟨e, -⟩ <;> rw [e] at joined <;> exact nomatch joined
    isolated := fun _ _ l _ => by rcases state l with ⟨e, -⟩ | ⟨e, -⟩ <;> rw [e] <;> rfl
    disabled := fun l _ => by rcases state l with ⟨e, off⟩ | ⟨e, off⟩ <;> rw [e, off] <;> simp
    tested := fun l _ => by
      refine iff_of_false ?_ (untested_of_none session)
      rcases state l with ⟨e, -⟩ | ⟨e, -⟩ <;> rw [e] <;> nofun
    looks := fun y on _ => nomatch on.symm.trans session
    linkDown := fun down b _ => link down b }

theorem beginRestart_tied : Tied I [] [] (beginRestart s) := by
  have cold (l : Line) : State.cold.call[l] = { state := .disabled } := by simp [State.cold]
  have disabled (l : Line) : State.cold.entries[l].enabled = false := by simp [State.cold, LineEntry.initial]
  have absent (b : Bearer) : State.cold.bearer b = {} := by simp [State.cold, State.bearer]
  refine .ofQuiescent (fun l => ?_) (fun b => ?_) rfl rfl rfl rfl fun _ b => ?_
  · change State.cold.call[l].bearer = none ∧ State.cold.call[l].state = if State.cold.entries[l].enabled then _ else _
    rw [cold, disabled]
    exact ⟨rfl, rfl⟩
  · change (State.cold.bearer b).line = none ∧ (State.cold.bearer b).state.busy = false
    rw [absent]
    exact ⟨rfl, rfl⟩
  · change (State.cold.bearer b).state = .absent
    rw [absent]

/-- The end of a restart ties as what went before it. -/
theorem Tied.restartEnded {cause : Nat} (h : Tied I L B s) : Tied I L B (s.endRestart cause) :=
  h.congr (fun _ _ => ⟨rfl, rfl, rfl⟩) (fun _ _ => ⟨rfl, rfl⟩) h.connectionOnce (fun _ _ => .rfl) rfl
    (fun _ _ _ => .rfl) h.arrivedOnce (fun _ _ => .rfl) (fun _ => id) (fun _ _ => rfl) (fun _ _ => .rfl) h.looks

theorem fullRestart_tied {c : RestartCause} : Tied I [] [] (fullRestart c s) := (beginRestart_tied).restartEnded

theorem Tied.busBroken (h : Tied I [] [] s) : Tied I [] [] (busBreak s) := by
  refine .ite (fun _ => h) fun _ => ?_
  have begun : Tied I [] [] (beginRestart s) := beginRestart_tied
  exact begun.congr (fun _ _ => ⟨rfl, rfl, rfl⟩) (fun _ _ => ⟨rfl, rfl⟩) begun.connectionOnce (fun _ _ => .rfl) rfl
    (fun _ _ _ => .rfl) begun.arrivedOnce (fun _ _ => .rfl) (fun _ => id) (fun _ _ => rfl) (fun _ _ => .rfl) begun.looks

theorem Tied.receivedHigh {pins : Straps} (h : Tied I [] [] s) : Tied I [] [] (receiveLineHigh pins s) := by
  have read : Tied I [] [] (s.setStrapPins pins) := h.ofSameBut setStrapPins_sameBut (by decide)
  exact .ite (fun _ => (read.ofSameBut setBus_sameBut (by decide)).restartEnded)
    fun _ => read.ofSameBut lineHigh_sameBut (by decide)

theorem callsRestart_bearers : (callsRestart s).bearers =
    { s.bearers with recs := tabulate fun b => (s.bearer b).callsRestart, connection := [] } := by
  unfold callsRestart
  dsimp only
  split <;> rfl

theorem callsRestart_arbiter : (callsRestart s).arbiter = { s.arbiter with arrivals := [], handover := none } := by
  unfold callsRestart
  dsimp only
  split <;> rfl

theorem callsRestart_test : (callsRestart s).test = s.test.callsRestart := by
  unfold callsRestart
  dsimp only
  split <;> rfl

theorem TestUnit.callsRestart_session (x : TestUnit) : x.callsRestart.session = none := by
  unfold TestUnit.callsRestart
  split
  · rfl
  · next none => exact none

theorem BearerRecord.callsRestart_state (r : BearerRecord) :
    r.callsRestart.state = if r.state = .absent then .absent else .unchecked := by
  unfold BearerRecord.callsRestart
  split
  · next absent => exact absent
  · rfl

theorem Tied.callsRestarted (h : Tied I [] [] s) : Tied I [] [] (callsRestart s) := by
  have record (b : Bearer) : (callsRestart s).bearer b = (s.bearer b).callsRestart := by
    rw [State.bearer, callsRestart_bearers]
    exact tabulate_get ..
  have entries : (callsRestart s).entries = s.entries := callsRestart_sameBut s .entries (by decide)
  refine .ofQuiescent (fun l => ?_) (fun b => ?_) (by rw [callsRestart_bearers]) (by rw [callsRestart_arbiter])
    (by rw [callsRestart_arbiter]) (by rw [callsRestart_test, TestUnit.callsRestart_session]) fun down b => ?_
  · rw [callsRestart_call, entries]
    unfold CallRecord.callsRestart
    split
    · exact ⟨rfl, rfl⟩
    · next off =>
      split
      · exact ⟨rfl, rfl⟩
      · next other =>
        have disabled : s.call[l].state = .disabled := by
          rcases (h.disabled l List.not_mem_nil).mp (by simpa using off) with d | ⟨t, -⟩
          · exact d
          · exact absurd t other
        exact ⟨h.unnamed List.not_mem_nil (by rw [disabled]; decide), disabled⟩
  · rw [record]
    refine ⟨?_, ?_⟩
    · unfold BearerRecord.callsRestart
      split
      · next absent =>
        by_contra some
        obtain ⟨m, line⟩ := Option.ne_none_iff_exists'.mp some
        obtain ⟨-, names⟩ := h.names_of_line List.not_mem_nil line
        exact useAgrees_present (h.agree m b List.not_mem_nil names) absent
      · rfl
    · rw [BearerRecord.callsRestart_state]
      split <;> rfl
  · rw [callsRestart_bearers] at down
    rw [record, BearerRecord.callsRestart_state, if_pos (h.linkDown down b List.not_mem_nil)]

/-! ## What comes on the bus -/

theorem refuseWith_keepsTied {c : Cause} : (refuseWith c).KeepsTied := fun _ h => h

theorem Tied.atRequest (h : Tied I L B s) : Tied I L B s.atRequest := Tied.reloaded (h.ofSameBut cancelReply_sameBut (by decide))

theorem Tied.frameLost (h : Tied I L B s) : Tied I L B (loseFrame s) := h.ofSameBut loseFrame_sameBut (by decide)

theorem Tied.frameTaken {d : Addressee} {allowed : Bool} {q : Request} (h : Tied True [] [] s) (keeps : q.KeepsTied) :
    Tied True [] [] (takeFrame d allowed q s) := by
  have asked : Tied True [] [] (q s.atRequest).1 := keeps _ h.atRequest
  refine .ite (fun _ => ?_) fun _ => h.frameLost
  dsimp only
  split
  · exact asked.ofSameBut setBus_sameBut (by decide)
  · exact .ite (fun _ => asked) fun _ => h.atRequest

theorem reqFarAnswer_keepsTied {y : Byte} : (reqFarAnswer y).KeepsTied := (reqFarAnswer_changes).keepsTied (by decide)

theorem reqSetAttention_keepsTied {y : Byte} : (reqSetAttention y).KeepsTied := by
  intro s h
  unfold reqSetAttention
  split
  · exact h.ofSameBut setReports_sameBut (by decide)
  · exact h

theorem reqClearSupplyDip_keepsTied : reqClearSupplyDip.KeepsTied := (reqClearSupplyDip_changes).keepsTied (by decide)

theorem reqUnitQuery_keepsTied {a : Option Nat} {b : Bool} {c : Byte} : (reqUnitQuery a b c).KeepsTied :=
  (reqUnitQuery_changes (parts := [])).keepsTied (by decide)

theorem requestOf_keepsTied {before : State} {code : Nat} {p : List Byte} : (requestOf before code p).KeepsTied := by
  unfold requestOf
  dsimp only
  split
  · exact fun _ h => h
  · exact onLine_keepsTied fun _ _ h => h
  · exact onBearer_keepsTied fun _ _ h => h
  · exact reqUnitQuery_keepsTied
  · exact fun _ h => h
  · exact fun _ h => h
  · exact reqSetProfile_keepsTied
  · exact reqSetLine_keepsTied
  · exact reqSetClassMap_keepsTied
  · exact reqSetArbiterPhases_keepsTied
  · exact reqSetTimers_keepsTied
  · exact reqSetSupplyThresholds_keepsTied
  · exact reqSetAttention_keepsTied
  · exact reqClearSupplyDip_keepsTied
  · exact reqArmMonitor_keepsTied
  · split
    · exact fun _ h => h.callsRestarted
    · exact refuseWith_keepsTied
  · split
    · exact reqLinkDown_keepsTied
    · split
      · exact reqLinkUp_keepsTied
      · exact refuseWith_keepsTied
  · exact reqBearerCheck_keepsTied
  · exact reqBar_keepsTied
  · exact reqUnbar_keepsTied
  · exact reqReleaseAcknowledge_keepsTied
  · exact reqGrant_keepsTied
  · exact reqRefuse_keepsTied
  · exact reqRelease_keepsTied
  · exact reqIncoming_keepsTied
  · exact reqFarAnswer_keepsTied
  · exact reqTestLine_keepsTied
  · exact reqTestAbort_keepsTied
  · exact refuseWith_keepsTied

theorem payloadRequest_keepsTied {before : State} {p : List Byte} : (payloadRequest before p).KeepsTied := by
  unfold payloadRequest
  dsimp only
  split
  · exact refuseWith_keepsTied
  · split
    · exact requestOf_keepsTied
    · exact refuseWith_keepsTied

theorem Tied.restartTaken (h : Tied True [] [] s) : Tied True [] [] (takeRestartFull s) :=
  .ite (fun _ => fullRestart_tied) fun _ => h.frameLost

theorem Tied.payloadTaken {d : Addressee} {p : List Byte} (h : Tied True [] [] s) : Tied True [] [] (takePayload d p s) :=
  .ite (fun _ => h.restartTaken) fun _ => h.frameTaken payloadRequest_keepsTied

theorem Tied.discarded (h : Tied I L B s) : Tied I L B (discardFrame s) := h.ofSameBut discardFrame_sameBut (by decide)

theorem Tied.judged {check : Byte} (h : Tied True [] [] s) : Tied True [] [] (judgeFrame check s) := by
  unfold judgeFrame
  dsimp only
  exact .ite (fun _ => .ite (fun _ => h.payloadTaken) fun _ => .ite (fun _ => h.payloadTaken) fun _ => h.discarded)
    fun _ => h.discarded

theorem Tied.byteTaken {v : Byte} (h : Tied True [] [] s) : Tied True [] [] (goodByte v s) := by
  have assembled {a : Assembly} : Tied True [] [] (assemble a s) := h.ofSameBut setBus_sameBut (by decide)
  unfold goodByte
  dsimp only
  split
  · exact .ite (fun _ => assembled) fun _ => h
  · exact assembled
  · exact .ite (fun _ => assembled) fun _ => h.discarded
  · exact assembled
  · exact h.judged

theorem Tied.byteArrived {v : Byte} {part : BytePart} (h : Tied True [] [] s) : Tied True [] [] (bytePart v part s) := by
  cases part with
  | start => exact h.ofSameBut byteStart_sameBut (by decide)
  | rest parity stop =>
    have after : Tied True [] [] (lineAfterByte v parity stop s) := h.ofSameBut lineAfterByte_sameBut (by decide)
    exact .ite (fun _ => h) fun _ => .ite
      (fun _ => .ite (fun _ => .ite (fun _ => after) fun _ => after.discarded) fun _ => after.byteTaken) fun _ => after

/-! ## The clock -/

theorem CallRecord.age_ties (x : CallRecord) :
    x.age.state = x.state ∧ x.age.bearer = x.bearer ∧ x.age.prior = x.prior := by
  unfold CallRecord.age
  split <;> exact ⟨rfl, rfl, rfl⟩

theorem Tied.aged (h : Tied I L B s) : Tied I L B (age s) := by
  refine h.congr (fun m _ => ?_) (fun b _ => ?_) h.connectionOnce (fun _ _ => .rfl) rfl (fun b _ m => ?_) h.arrivedOnce
    (fun _ _ => .rfl) (fun _ => id) (fun _ _ => rfl) (fun m _ => ?_) fun y on out => ?_
  · rw [age_call]
    exact CallRecord.age_ties _
  · rw [age_bearer]
    exact ⟨rfl, rfl⟩
  · constructor
    · rintro ⟨r, on, rfl, rfl⟩
      obtain ⟨old, was, rfl⟩ := Option.map_eq_some_iff.mp on
      exact ⟨old, was, rfl, rfl⟩
    · rintro ⟨r, on, rfl, rfl⟩
      exact ⟨_, Option.map_eq_some_iff.mpr ⟨r, on, rfl⟩, rfl, rfl⟩
  · change (s.test.session.map _).map Session.line = some m ↔ _
    rw [Option.map_map]
    rfl
  · obtain ⟨old, was, rfl⟩ := Option.map_eq_some_iff.mp on
    exact h.looks old was out

theorem Tied.ran {due : State → Bool} {f : State → State} (h : Tied I [] [] s)
    (act : ∀ v, Tied I [] [] v → Tied I [] [] (f v)) : Tied I [] [] (whenDue due f s) :=
  .ite (fun _ => (act s h).eventKept) fun _ => h

theorem Tied.toneEnded (h : Tied I L B s) : Tied I L B (tonePhaseEnd l s) :=
  .ite (fun _ => h.setCallFeed rfl rfl rfl) fun _ => h

theorem Tied.howlerEnded (h : Tied I L B s) : Tied I L B (howlerPhaseEnd l s) :=
  .ite (fun _ => h.setCallFeed rfl rfl rfl) fun _ => h

theorem Tied.preemptionToneEnded (h : Tied I L B s) : Tied I L B (preemptionToneEnd l s) :=
  .ite (fun _ => h.setCall_same rfl rfl rfl) fun _ => h

theorem Tied.lineTimersRan (h : Tied I [] [] s) : Tied I [] [] (lineTimers l s) :=
  ((((((((h.ran fun _ hv => hv.ofSameBut blankingEnd_sameBut (by decide)).ran fun _ hv => hv.settled).ran
    fun _ hv => hv.answerExpired).ran fun _ hv => hv.waitLimit).ran fun _ hv => hv.preemptionToneEnded).ran
    fun _ hv => hv.toneEnded).ran fun _ hv => hv.howlerEnded).ran fun _ hv => hv.retryWaited).ran
    fun _ hv => hv.retryLooked

theorem Tied.unitTimersRan (h : Tied I [] [] s) : Tied I [] [] (unitTimers s) := by
  unfold unitTimers
  exact (((((((h.ran fun _ hv => hv.handoverEnded).ran fun _ hv => hv.boundaryPassed).ran
    fun _ hv => hv.connectExpired).ran fun _ hv => hv.lookExpired).ran fun _ hv => hv.disconnectExpired).ran
    fun _ hv => hv.countdownExpired).ran fun _ hv => hv.audited).ran
    fun _ hv => hv.ofSameBut quietExpiry_sameBut (by decide)

theorem Tied.lineTimerRan (h : Tied I [] [] s) : Tied I [] [] (lineTimer s) := by
  unfold lineTimer
  split
  · exact .ite (fun _ => h.busBroken) fun _ => h
  · exact h

theorem Tied.ticked_ms (h : Tied I [] [] s) : Tied I [] [] (tick s) := by
  refine .ite (fun _ => h.ofSameBut setBus_sameBut (by decide)) fun _ => ?_
  have lines : Tied I [] [] (eachLine lineTimers (age s)) := h.aged.eachKept fun _ _ hv => hv.lineTimersRan
  have bearers : Tied I [] [] (each allBearers bearerTimers (eachLine lineTimers (age s))) :=
    lines.eachKept fun _ _ hv => hv.ran fun _ hw => hw.guardExpired
  exact (bearers.unitTimersRan.ofSameBut busTimers_sameBut (by decide)).lineTimerRan

/-! ## Commands -/

theorem exec_keepsTied (i : Instr) {s : State} (h : Tied True [] [] s) : ∃ t, exec i s = .next t ∧ Tied True [] [] t := by
  have framed {q : Request} (d : Addressee) (allowed : Bool) (keeps : q.KeepsTied) :
      Tied True [] [] (event (takeFrame d allowed q) s) := (h.frameTaken keeps).eventKept
  cases i with
  | senseSample line current ringTrip => exact ⟨_, rfl, h.visited.eventKept⟩
  | scanRoundStart => exact ⟨_, rfl, h.ofSameBut roundStart_sameBut (by decide)⟩
  | hookDecision line => exact ⟨_, rfl, h.hookDecided.eventKept⟩
  | overcurrentDecision line => exact ⟨_, rfl, h.faultDecided.eventKept⟩
  | foreignBatteryDecision line => exact ⟨_, rfl, h.faultDecided.eventKept⟩
  | ringTripDecision line => exact ⟨_, rfl, h.ringTripDecided.eventKept⟩
  | clearDecision line => exact ⟨_, rfl, h.clearDecided.eventKept⟩
  | digitEnd line => exact ⟨_, rfl, h.digitEnded.eventKept⟩
  | settleEnd line => exact ⟨_, rfl, h.settled.eventKept⟩
  | blankingEnd line => exact ⟨_, rfl, h.ofSameBut blankingEnd_sameBut (by decide)⟩
  | waitLimitExpiry line => exact ⟨_, rfl, h.waitLimit.eventKept⟩
  | tonePhaseExpiry line => exact ⟨_, rfl, h.toneEnded.eventKept⟩
  | preemptionToneEnd line => exact ⟨_, rfl, h.preemptionToneEnded⟩
  | howlerPhaseExpiry line => exact ⟨_, rfl, h.howlerEnded.eventKept⟩
  | retryWaitExpiry line => exact ⟨_, rfl, h.retryWaited.eventKept⟩
  | retryLookExpiry line => exact ⟨_, rfl, h.retryLooked.eventKept⟩
  | guardExpiry bearer => exact ⟨_, rfl, h.guardExpired.eventKept⟩
  | handoverExpiry => exact ⟨_, rfl, h.handoverEnded.eventKept⟩
  | ringPhaseBoundary => exact ⟨_, rfl, h.boundaryPassed.eventKept⟩
  | ringLimitReached line => exact ⟨_, rfl, (h.ringLimit List.not_mem_nil).eventKept⟩
  | supplySample value => exact ⟨_, rfl, h.supplySampled.eventKept⟩
  | quietTimerExpiry => exact ⟨_, rfl, Tied.eventKept (h.ofSameBut quietExpiry_sameBut (by decide))⟩
  | monitorCountdownExpiry => exact ⟨_, rfl, h.countdownExpired.eventKept⟩
  | auditTimerExpiry => exact ⟨_, rfl, h.audited.eventKept⟩
  | testConverterSample value => exact ⟨_, rfl, h.sampled.eventKept⟩
  | measurementWindowEnd => exact ⟨_, rfl, h.windowEnded.eventKept⟩
  | testConnectExpiry => exact ⟨_, rfl, h.connectExpired.eventKept⟩
  | testLookExpiry => exact ⟨_, rfl, h.lookExpired.eventKept⟩
  | lookOffHook => exact ⟨_, rfl, h.lookedOffHook.eventKept⟩
  | testDisconnectExpiry => exact ⟨_, rfl, h.disconnectExpired.eventKept⟩
  | gapTimerExpiry => exact ⟨_, rfl, h.ofSameBut gapExpiry_sameBut (by decide)⟩
  | replyTransmitStart => exact ⟨_, rfl, h.ofSameBut transmitStart_sameBut (by decide)⟩
  | replyTransmitEnd => exact ⟨_, rfl, h.ofSameBut transmitEnd_sameBut (by decide)⟩
  | busBreak => exact ⟨_, rfl, h.busBroken⟩
  | receiveLineHigh address rate => exact ⟨_, rfl, h.receivedHigh⟩
  | readyMarkSet => exact ⟨_, rfl, h.ofSameBut readyExpiry_sameBut (by decide)⟩
  | powerOn straps lineHigh => exact ⟨_, rfl, fullRestart_tied⟩
  | poll dest => exact ⟨_, rfl, h.frameTaken fun _ hv => hv⟩
  | lineQuery dest line => exact ⟨_, rfl, h.frameTaken (onLine_keepsTied fun _ _ hv => hv)⟩
  | bearerQuery dest bearer => exact ⟨_, rfl, h.frameTaken (onBearer_keepsTied fun _ _ hv => hv)⟩
  | unitQuery dest sect => exact ⟨_, rfl, h.frameTaken reqUnitQuery_keepsTied⟩
  | testResult dest => exact ⟨_, rfl, h.frameTaken fun _ hv => hv⟩
  | readDigest dest => exact ⟨_, rfl, h.frameTaken fun _ hv => hv⟩
  | setProfile dest profile k m tOn tOff tOver flags => exact ⟨_, rfl, framed dest _ reqSetProfile_keepsTied⟩
  | setLine dest line enabled profile cls preemptible => exact ⟨_, rfl, framed dest _ reqSetLine_keepsTied⟩
  | setClassMap dest priority standard economy alarm => exact ⟨_, rfl, framed dest _ reqSetClassMap_keepsTied⟩
  | setArbiterPhases dest c0 c1 c2 c3 c4 c5 c6 c7 => exact ⟨_, rfl, framed dest _ reqSetArbiterPhases_keepsTied⟩
  | setTimers dest answer guard wait congestion howler ringLimit quietDelay =>
    exact ⟨_, rfl, framed dest _ reqSetTimers_keepsTied⟩
  | setSupplyThresholds dest criticalEnter criticalExit lowEnter lowExit =>
    exact ⟨_, rfl, framed dest _ reqSetSupplyThresholds_keepsTied⟩
  | setAttention dest value => exact ⟨_, rfl, framed dest _ reqSetAttention_keepsTied⟩
  | clearSupplyDip dest => exact ⟨_, rfl, framed dest _ reqClearSupplyDip_keepsTied⟩
  | armMonitor dest interval => exact ⟨_, rfl, framed dest _ reqArmMonitor_keepsTied⟩
  | restartFull dest address rate =>
    refine ⟨_, rfl, .ite (fun _ => ?_) fun _ => h.frameLost⟩
    exact Tied.restartTaken (h.ofSameBut setStrapPins_sameBut (by decide))
  | restartCalls dest => exact ⟨_, rfl, framed dest _ fun _ hv => hv.callsRestarted⟩
  | linkStateUp dest count => exact ⟨_, rfl, framed dest _ reqLinkUp_keepsTied⟩
  | linkStateDown dest count => exact ⟨_, rfl, framed dest _ reqLinkDown_keepsTied⟩
  | bearerCheck dest bearers => exact ⟨_, rfl, framed dest _ reqBearerCheck_keepsTied⟩
  | bar dest bearer => exact ⟨_, rfl, framed dest _ reqBar_keepsTied⟩
  | unbar dest bearer => exact ⟨_, rfl, framed dest _ reqUnbar_keepsTied⟩
  | releaseAcknowledge dest bearer => exact ⟨_, rfl, framed dest _ reqReleaseAcknowledge_keepsTied⟩
  | grant dest line bearer => exact ⟨_, rfl, framed dest _ reqGrant_keepsTied⟩
  | refuse dest line bearer => exact ⟨_, rfl, framed dest _ reqRefuse_keepsTied⟩
  | release dest line bearer => exact ⟨_, rfl, framed dest _ reqRelease_keepsTied⟩
  | incoming dest line bearer ring => exact ⟨_, rfl, framed dest _ reqIncoming_keepsTied⟩
  | farAnswer dest line => exact ⟨_, rfl, framed dest _ reqFarAnswer_keepsTied⟩
  | testLine dest line measurements mode => exact ⟨_, rfl, framed dest _ reqTestLine_keepsTied⟩
  | testAbort dest => exact ⟨_, rfl, framed dest _ reqTestAbort_keepsTied⟩
  | busByteReceived value part => exact ⟨_, rfl, h.byteArrived.eventKept⟩
  | unknownRequestCode dest code => exact ⟨_, rfl, .ite (fun _ => h) fun _ => h.frameTaken refuseWith_keepsTied⟩
  | storageDisturbance index value =>
    exact ⟨_, rfl, .ite (fun _ => Tied.eventKept (h.ofSameBut disturb_sameBut (by decide))) fun _ => h⟩

end

/-- Settles O6: every operation on calls takes up the lines and bearers it changes and puts them down settled. -/
theorem stepKeepsEarlyDigitsBounded : Obligations.StepKeepsEarlyDigitsBounded := by
  intro s t
  refine ⟨step_keeps_earlyDigitsBounded, fun tied stepped => callsTied_iff.mpr ?_⟩
  have h := callsTied_iff.mp tied
  unfold step at stepped
  split at stepped
  · cases stepped
    exact h.ticked_ms
  · next i rest waiting =>
    have queued : Tied True [] [] (s.setPending rest) :=
      h.congr (fun _ _ => ⟨rfl, rfl, rfl⟩) (fun _ _ => ⟨rfl, rfl⟩) h.connectionOnce (fun _ _ => .rfl) rfl
        (fun _ _ _ => .rfl) h.arrivedOnce (fun _ _ => .rfl) (fun _ => id) (fun _ _ => rfl) (fun _ _ => .rfl) h.looks
    obtain ⟨u, answered, after⟩ := exec_keepsTied i queued
    rw [answered] at stepped
    cases stepped
    exact after

end Sys2Proof.Machine
end

section
/-! What operations leave alone, line by line and bearer by bearer; and the statements about the block as a whole. -/

namespace Sys2Proof.Machine

section
variable {s t u : State} {l m : Line} {b c : Bearer} {parts : List Part}

/-! ## Other lines and other bearers -/

theorem OtherLines.refl (l : Line) (s : State) : OtherLines l s s := fun _ _ => ⟨rfl, rfl, rfl, rfl, rfl⟩

theorem OtherLines.trans (h : OtherLines l s t) (k : OtherLines l t u) : OtherLines l s u := fun m ne => by
  obtain ⟨entry, sup, brk, feed, call⟩ := h m ne
  obtain ⟨entry', sup', brk', feed', call'⟩ := k m ne
  exact ⟨entry'.trans entry, sup'.trans sup, brk'.trans brk, feed'.trans feed, call'.trans call⟩

/-- What changes no part that is kept line by line leaves all lines. -/
theorem OtherLines.ofSameBut (h : SameBut parts s t)
    (read : ∀ p ∈ [Part.entries, .sup, .brk, .feed, .call], p ∉ parts) : OtherLines l s t := by
  have entries : t.entries = s.entries := h .entries (read _ (by decide))
  have sup : t.sup = s.sup := h .sup (read _ (by decide))
  have brk : t.brk = s.brk := h .brk (read _ (by decide))
  have feed : t.feed = s.feed := h .feed (read _ (by decide))
  have call : t.call = s.call := h .call (read _ (by decide))
  intro m _
  rw [entries, sup, brk, feed, call]
  exact ⟨rfl, rfl, rfl, rfl, rfl⟩

theorem setSup_otherLines {x : Supervision} : OtherLines l s (s.setSup l x) := fun _ ne =>
  ⟨rfl, State.setSup_get_ne s l _ x ne, rfl, rfl, rfl⟩

theorem setBrk_otherLines {x : BreakTiming} : OtherLines l s (s.setBrk l x) := fun _ ne =>
  ⟨rfl, rfl, State.setBrk_get_ne s l _ x ne, rfl, rfl⟩

theorem setFeed_otherLines {x : Feed} : OtherLines l s (s.setFeed l x) := fun _ ne =>
  ⟨rfl, rfl, rfl, State.setFeed_get_ne s l _ x ne, rfl⟩

theorem setCall_otherLines {x : CallRecord} : OtherLines l s (s.setCall l x) := fun _ ne =>
  ⟨rfl, rfl, rfl, rfl, State.setCall_get_ne s l _ x ne⟩

theorem callTarget_otherLines {x : FeedMode} : OtherLines l s (callTarget l x s) := setFeed_otherLines

theorem enterCall_otherLines {n : CallRecord} : OtherLines l s (enterCall l n s) := by
  have called : OtherLines l s (s.setCall l (n.entering s.call[l])) := setCall_otherLines
  have timed : OtherLines l s (if s.call[l].state.timed && n.state.timed then s.setCall l (n.entering s.call[l])
      else (s.setCall l (n.entering s.call[l])).setBrk l {}) := by
    split
    · exact called
    · exact called.trans setBrk_otherLines
  unfold enterCall
  dsimp only
  split
  · exact timed
  · exact timed.trans (.ofSameBut setArbiter_sameBut (by decide))

/-- A line that is not Ringing leaves no ring collection as it changes its state. -/
theorem enter_unrung {n : CallRecord} (h : s.call[l].state ≠ .ringing) : enter l n s = enterCall l n s := by
  rw [enter_eq, if_neg fun k => h k.1]

theorem OtherBearers.refl (b : Bearer) (s : State) : OtherBearers b s s := fun _ _ => rfl

theorem OtherBearers.trans (h : OtherBearers b s t) (k : OtherBearers b t u) : OtherBearers b s u := fun c ne =>
  (k c ne).trans (h c ne)

theorem OtherBearers.ofSameBut (h : SameBut parts s t) (read : Part.bearers ∉ parts) : OtherBearers b s t :=
  fun c _ => by
    have bearers : t.bearers = s.bearers := h .bearers read
    rw [State.bearer, bearers, State.bearer]

theorem SameLink.ofSameBut (h : SameBut parts s t) (read : Part.bearers ∉ parts) : SameLink s t := by
  have bearers : t.bearers = s.bearers := h .bearers read
  rw [SameLink, bearers]
  exact ⟨rfl, rfl⟩

/-! ## Explicit next states -/

/-- The frame relation part by part. -/
theorem sameBut_iff : SameBut parts s t ↔
    (.entries ∈ parts ∨ t.entries = s.entries) ∧ (.tables ∈ parts ∨ t.tables = s.tables) ∧
    (.scanner ∈ parts ∨ t.scanner = s.scanner) ∧ (.sup ∈ parts ∨ t.sup = s.sup) ∧
    (.brk ∈ parts ∨ t.brk = s.brk) ∧ (.feed ∈ parts ∨ t.feed = s.feed) ∧ (.call ∈ parts ∨ t.call = s.call) ∧
    (.bearers ∈ parts ∨ t.bearers = s.bearers) ∧ (.arbiter ∈ parts ∨ t.arbiter = s.arbiter) ∧
    (.ringer ∈ parts ∨ t.ringer = s.ringer) ∧ (.test ∈ parts ∨ t.test = s.test) ∧
    (.supply ∈ parts ∨ t.supply = s.supply) ∧
    (.quietRun ∈ parts ∨ t.monitor.quiet = s.monitor.quiet ∧ t.monitor.quietTimer = s.monitor.quietTimer) ∧
    (.watch ∈ parts ∨ t.monitor.watch = s.monitor.watch) ∧ (.reports ∈ parts ∨ t.reports = s.reports) ∧
    (.bus ∈ parts ∨ t.bus = s.bus) ∧ (.strapPins ∈ parts ∨ t.strapPins = s.strapPins) ∧
    (.toneClock ∈ parts ∨ t.toneClock = s.toneClock) ∧ (.inRestart ∈ parts ∨ t.inRestart = s.inRestart) ∧
    (.pending ∈ parts ∨ t.pending = s.pending) := by
  have each : SameBut parts s t ↔ ∀ p : Part, p ∈ parts ∨ p.same s t := forall_congr' fun p => by
    rw [← or_iff_not_imp_left]
  rw [each]
  constructor
  · exact fun h => ⟨h .entries, h .tables, h .scanner, h .sup, h .brk, h .feed, h .call, h .bearers, h .arbiter,
      h .ringer, h .test, h .supply, h .quietRun, h .watch, h .reports, h .bus, h .strapPins, h .toneClock,
      h .inRestart, h .pending⟩
  · rintro ⟨a, b, c, d, e, f, g, h, i, j, k, l, m, n, o, p, q, r, u, v⟩ (_ | _) <;> assumption

/-- An event is its changes and then a change of the Quiet state, which it does not begin, and of the quiet timer. -/
theorem event_eq (f : State → State) (s : State) : ∃ q t, event f s =
    (f s).setMonitor { (f s).monitor with quiet := q, quietTimer := t } ∧ (q = true → (f s).monitor.quiet = true) := by
  refine ⟨_, _, event_frame f s, fun on => ?_⟩
  revert on
  unfold event runQuiet
  dsimp only
  split
  · split
    · next quiet => exact fun _ => quiet
    · split
      · nofun
      · split
        · nofun
        · exact id
  · nofun

/-- A change of state of a line that is not Ringing. -/
theorem enter_frame_unrung {n : CallRecord} (h : s.call[l].state ≠ .ringing) : enter l n s = { s with
    call := s.call.set l (n.entering s.call[l])
    brk := if s.call[l].state.timed && n.state.timed then s.brk else s.brk.set l {}
    arbiter := { s.arbiter with
      arrivals := if n.state.joined then s.arbiter.arrivals
        else s.arbiter.arrivals.filter fun a => a.line ≠ l } } := by
  rw [enter_unrung h]
  unfold enterCall
  dsimp only
  split <;> split <;> rfl

end

/-! ## The block as a whole -/

/-- Settles O1: a step looks at the front of its queue. -/
theorem stepRunsFrontCommand : Obligations.StepRunsFrontCommand := fun _ _ _ => rfl

/-- Settles O55: the two capacities decide where a report goes, and the attention output reads the queues. -/
theorem reportsAreQueuedOrOverflow : Obligations.ReportsAreQueuedOrOverflow := by
  refine ⟨fun q r => ?_, fun s => ?_⟩
  · have routine : q.append false r = if q.routine.length < 48 then { q with routine := q.routine ++ [r] }
        else { q with overflow := true } := rfl
    have urgent : q.append true r = if q.urgent.length < 16 then { q with urgent := q.urgent ++ [r] }
        else q.append false r := by
      by_cases room : q.urgent.length < 16 <;> simp [Reports.append, Config.urgentCapacity, room]
    rw [urgent, routine]
    dsimp only
    refine ⟨fun room => if_pos (by omega), fun full => if_neg (by omega), fun room => if_pos (by omega),
      fun full => if_neg (by omega)⟩
  · simp [State.attention]
    tauto

section
variable {α : Type} {s : State}

/-- Work that changes nothing piece by piece changes nothing. -/
theorem each_idle {f : α → State → State} {xs : List α} (h : ∀ x ∈ xs, f x s = s) : each xs f s = s := by
  induction xs with
  | nil => rfl
  | cons x xs ih =>
    change each xs f (f x s) = s
    rw [h x List.mem_cons_self]
    exact ih fun y mem => h y (List.mem_cons_of_mem _ mem)

theorem whenDue_idle {due : State → Bool} {f : State → State} (h : due s = false) : whenDue due f s = s := by
  rw [whenDue, h]
  rfl

theorem lineDue_idle {l : Line} {k : TimerKind} (h : ∀ t, s.call[l].timer = some t → t.left ≠ 0) :
    lineDue l k s = false := decide_eq_false fun due => h _ due rfl

/-- No timer of line `l` has run out. -/
def State.lineTimersWait (s : State) (l : Line) : Prop :=
  (∀ t, s.call[l].timer = some t → t.left ≠ 0) ∧ (s.feed[l].settling = true → s.feed[l].settle ≠ 0) ∧
    s.feed[l].blanking ≠ .left 0 ∧ s.call[l].preemptionTone ≠ some 0

/-- No timer of the arbiter, the wheel, the Test Unit or the Unit Monitor has run out. -/
def State.unitTimersWait (s : State) : Prop :=
  s.arbiter.handover.map Handover.left ≠ some 0 ∧ (∀ p n, s.ringer.wheel = .running p n → n < 1000) ∧
    s.test.session.bind Session.timer ≠ some 0 ∧ s.monitor.countdown ≠ some 0 ∧ s.monitor.audit ≠ some 0 ∧
    s.monitor.quietTimer ≠ some 0

/-- No timer of the Bus Interface has run out. -/
def State.busTimersWait (s : State) : Prop :=
  s.bus.gap ≠ some 0 ∧ s.bus.readyTimer ≠ some 0 ∧ (∀ r n, s.bus.pending = .waiting r n → n < 8) ∧
    (∀ f n, s.bus.pending = .transmitting f n → n ≠ 0) ∧ ∀ n, s.bus.lowTimer = some n → n < 50

/-- Timers that do not run out do not act. -/
theorem lineTimers_idle {l : Line} (wait : s.lineTimersWait l) : lineTimers l s = s := by
  obtain ⟨run, settle, blanking, tone⟩ := wait
  have settles : (s.feed[l].settling && decide (s.feed[l].settle = 0)) = false := by
    simpa [-Fin.getElem_fin] using settle
  unfold lineTimers
  simp only [whenDue_idle, lineDue_idle run, settles, blanking, tone, decide_false]

theorem unitTimers_idle (wait : s.unitTimersWait) : unitTimers s = s := by
  obtain ⟨handover, wheel, test, countdown, audit, quiet⟩ := wait
  have handovers : (s.arbiter.handover.any fun h => decide (h.left = 0)) = false := by
    cases record : s.arbiter.handover with
    | none => rfl
    | some h =>
      rw [record] at handover
      simpa using handover
  have turns : (match s.ringer.wheel with
      | .running _ t => decide (Config.ringPhaseMs ≤ t)
      | .stopped => false) = false := by
    split
    · next p n running => exact decide_eq_false (Nat.not_le.mpr (wheel p n running))
    · rfl
  have sessions (p : SessionPhase) : sessionDue p s = false := by
    unfold sessionDue
    cases record : s.test.session with
    | none => rfl
    | some x =>
      rw [record] at test
      have timer : x.timer ≠ some 0 := test
      simp [timer]
  unfold unitTimers
  dsimp only
  rw [whenDue_idle (s := s) (f := handoverExpiry), whenDue_idle (s := s) (f := phaseBoundary),
    whenDue_idle (s := s) (f := connectExpiry), whenDue_idle (s := s) (f := lookExpiry),
    whenDue_idle (s := s) (f := disconnectExpiry), whenDue_idle (s := s) (f := countdownExpiry),
    whenDue_idle (s := s) (f := auditExpiry), whenDue_idle (s := s) (f := quietExpiry)]
  exacts [decide_eq_false quiet, decide_eq_false audit, decide_eq_false countdown, sessions .disconnect, sessions .look,
    sessions .connect, turns, handovers]

theorem busTimers_idle (wait : s.busTimersWait) : busTimers s = s := by
  obtain ⟨gap, ready, waiting, sending, -⟩ := wait
  have ends : (match s.bus.pending with
      | .transmitting _ n => decide (n = 0)
      | _ => false) = false := by
    split
    · next f n sent => exact decide_eq_false (sending f n sent)
    · rfl
  have begins : (match s.bus.pending with
      | .waiting _ n => decide (Config.replyWindowMs ≤ n)
      | _ => false) = false := by
    split
    · next r n waits => exact decide_eq_false (Nat.not_le.mpr (waiting r n waits))
    · rfl
  unfold busTimers
  dsimp only
  rw [whenDue_idle (s := s) (f := gapExpiry), whenDue_idle (s := s) (f := readyExpiry),
    whenDue_idle (s := s) (f := transmitEnd), whenDue_idle (s := s) (f := transmitStart)]
  exacts [begins, ends, decide_eq_false ready, decide_eq_false gap]

theorem lineTimer_idle (wait : s.busTimersWait) : lineTimer s = s := by
  unfold lineTimer
  split
  · next n now => exact if_neg (Nat.not_le.mpr (wait.2.2.2.2 n now))
  · rfl

/-- A timer that does not run out in this millisecond has not run out after it. -/
theorem ageTimer_runs {t : Option Nat} (h : runsOn t) : ageTimer t ≠ some 0 := by
  cases t with
  | none => nofun
  | some n =>
    obtain ⟨notZero, notOne⟩ := h
    simp only [ageTimer, Option.map_some, ne_eq, Option.some.injEq] at *
    omega

theorem age_feed {l : Line} : (age s).feed[l] = s.feed[l].age := tabulate_get ..

theorem age_lineTimersWait {l : Line} (runs : s.lineTimersRun l) : (age s).lineTimersWait l := by
  obtain ⟨settle, notZero, notOne, timer, tone, toneOne⟩ := runs
  refine ⟨?_, ?_, ?_, ?_⟩
  · rw [age_call]
    intro t on
    unfold CallRecord.age at on
    split at on
    · exact (timer t on).1
    · next running =>
      obtain ⟨old, was, rfl⟩ := Option.map_eq_some_iff.mp on
      obtain ⟨zero, one⟩ := timer old was
      have := one running
      change old.left - 1 ≠ 0
      omega
  · rw [age_feed]
    intro settling
    have := settle settling
    change s.feed[l].settle - 1 ≠ 0
    omega
  · rw [age_feed]
    unfold Feed.age
    generalize s.feed[l].blanking = x at *
    cases x with
    | left n =>
      simp only [ne_eq, Blanking.left.injEq] at *
      omega
    | _ => nofun
  · rw [age_call]
    unfold CallRecord.age
    split
    · exact tone
    · next running => exact ageTimer_runs ⟨tone, toneOne running⟩

theorem age_guard {b : Bearer} (guard : runsOn (s.bearer b).guard) : ((age s).bearer b).guard ≠ some 0 := by
  rw [age_bearer]
  exact ageTimer_runs guard

theorem age_unitTimersWait (unit : s.unitTimersRun) : (age s).unitTimersWait := by
  obtain ⟨-, handover, wheel, test, countdown, audit, quiet⟩ := unit
  refine ⟨?_, ?_, ?_, ageTimer_runs countdown, ageTimer_runs audit, ageTimer_runs quiet⟩
  · change (s.arbiter.handover.map _).map _ ≠ _
    have ran := ageTimer_runs handover
    rw [ageTimer, Option.map_map] at ran
    rw [Option.map_map]
    exact ran
  · intro p n running
    change s.ringer.wheel.age = _ at running
    cases old : s.ringer.wheel with
    | stopped =>
      rw [old] at running
      exact nomatch running
    | running q k =>
      rw [old] at running
      have := wheel q k old
      cases running
      omega
  · change (s.test.session.map _).bind _ ≠ _
    rw [Option.bind_map]
    have ran := ageTimer_runs test
    cases record : s.test.session with
    | none => nofun
    | some x =>
      rw [record] at ran
      exact ran

theorem age_busTimersWait (bus : s.busTimersRun) : (age s).busTimersWait := by
  obtain ⟨gap, ready, waiting, sending, low⟩ := bus
  refine ⟨ageTimer_runs gap, ageTimer_runs ready, ?_, ?_, ?_⟩
  · intro r n now
    change s.bus.pending.age = _ at now
    cases old : s.bus.pending with
    | waiting r' k =>
      rw [old] at now
      have := waiting r' k old
      cases now
      omega
    | none => rw [old] at now; exact nomatch now
    | transmitting f k => rw [old] at now; exact nomatch now
  · intro f n now
    change s.bus.pending.age = _ at now
    cases old : s.bus.pending with
    | transmitting f' k =>
      rw [old] at now
      have := sending f' k old
      cases now
      omega
    | none => rw [old] at now; exact nomatch now
    | waiting r k => rw [old] at now; exact nomatch now
  · intro n now
    obtain ⟨k, was, rfl⟩ := Option.map_eq_some_iff.mp now
    exact Nat.succ_lt_succ (low k was)

/-- Where no timer runs out a millisecond is ageing alone. -/
theorem tick_idle (notBroken : s.inRestart = false) (lines : ∀ l : Line, s.lineTimersRun l) (unit : s.unitTimersRun)
    (bus : s.busTimersRun) : tick s = age s := by
  have linesIdle : eachLine lineTimers (age s) = age s :=
    each_idle fun l _ => lineTimers_idle (age_lineTimersWait (lines l))
  have bearersIdle : each allBearers bearerTimers (age s) = age s :=
    each_idle fun b _ => whenDue_idle (decide_eq_false (age_guard (unit.1 b)))
  rw [tick, notBroken, linesIdle, bearersIdle, unitTimers_idle (age_unitTimersWait unit),
    busTimers_idle (age_busTimersWait bus), lineTimer_idle (age_busTimersWait bus)]
  rfl

theorem step_empty (h : s.pending = []) : step s = .next (tick s) := by rw [step, h]

end

/-- Settles O2: every command is the change of the state it names, and ageing alone is left of a millisecond in which no
timer runs out. -/
theorem everyCommandAnswersNext : Obligations.EveryCommandAnswersNext := by
  refine ⟨exec_answers_next, fun s empty notBroken lines unit bus => ?_, fun s empty broken => ?_⟩
  · refine ⟨age s, by rw [step_empty empty, tick_idle notBroken lines unit bus], age_sameBut s, fun l => ⟨?_, ?_, ?_⟩,
      ⟨rfl, rfl⟩, rfl, age_bearer, rfl, ?_, rfl, rfl, ?_, rfl⟩
    · exact age_feed
    · intro testing
      rw [age_call, CallRecord.age, if_pos testing]
    · intro other
      rw [age_call, CallRecord.age, if_neg other]
      rfl
    · rfl
    · rfl
  · have broke : tick s = s.setBus { s.bus with lowTimer := s.bus.lowTimer.map (· + 1) } := by rw [tick, broken]; rfl
    exact ⟨_, (step_empty empty).trans (congrArg _ broke), setBus_sameBut, rfl⟩

end Sys2Proof.Machine
end

section
/-! Restarts and the values they leave. -/

namespace Sys2Proof.Machine

section
variable {s t : State} {l : Line}

/-- The state after a full restart with this cause and these straps, with the receive line high. -/
def restartedWith (a : Fin 4) (r : BusRate) (cause : Nat) (pending : List Instr) : State :=
  { State.reset with
    bus := { State.reset.bus with address := a, rate := r }
    strapPins := { address := a, rate := r }
    reports := { urgent := [{ kind := .restarted, value := some cause }] }
    pending := pending }

/-- A full restart reads the straps, the level of the receive line and the queue of commands alone. -/
theorem fullRestart_eq {c : RestartCause} {a : Fin 4} {r : BusRate} (pins : s.strapPins = ⟨a, r⟩)
    (high : s.bus.lowTimer = none) : fullRestart c s = restartedWith a r c.code s.pending := by
  unfold fullRestart beginRestart restartedWith State.endRestart
  dsimp only
  rw [pins, high]
  rfl

theorem restartFull_restarts {d : Addressee} {a : Fin 4} {r : BusRate} (h : s.receives = true) :
    exec (.restartFull d a r) s = .next (restartedWith a r 2 s.pending) := by
  have asked : takeRestartFull (s.setStrapPins ⟨a, r⟩) = fullRestart .requestFull (s.setStrapPins ⟨a, r⟩).atRequest := by
    have receives : (s.setStrapPins ⟨a, r⟩).receives = true := h
    rw [takeRestartFull, receives]
    rfl
  have taken : exec (.restartFull d a r) s = .next (takeRestartFull (s.setStrapPins ⟨a, r⟩)) := by
    change Host.Outcome.next (if s.receives then _ else _) = _
    rw [h]
    rfl
  rw [taken, asked, fullRestart_eq (a := a) (r := r)]
  · have pending : (s.setStrapPins ⟨a, r⟩).atRequest.pending = s.pending := atRequest_sameBut _ .pending (by decide)
    rw [pending]
    rfl
  · exact atRequest_sameBut _ .strapPins (by decide)
  · rw [State.atRequest, reloadMonitor_frame]
    rfl

/-- The restart of a bus break holds the part until the receive line returns high. -/
theorem busBreak_holds (h : s.inRestart = false) (a : Fin 4) (r : BusRate) :
    (busBreak s).inRestart = true ∧ (busBreak s).attention = false ∧ (busBreak s).pending = s.pending ∧
      exec .busBreak (busBreak s) = .next (busBreak s) ∧
      exec (.receiveLineHigh a r) (busBreak s) = .next (restartedWith a r 1 s.pending) := by
  have broken : busBreak s = { beginRestart s with
      bus := { (beginRestart s).bus with lowTimer := some Config.busBreakMs }, inRestart := true } := by
    rw [busBreak, h]
    rfl
  rw [broken]
  exact ⟨rfl, rfl, rfl, rfl, rfl⟩

theorem whenDue_lowTimer {due : State → Bool} {f : State → State}
    (h : ∀ v, (f v).bus.lowTimer = v.bus.lowTimer) : (whenDue due f s).bus.lowTimer = s.bus.lowTimer := by
  unfold whenDue
  split
  · have bus : (event f s).bus = (f s).bus := event_sameBut f s .bus (by decide)
    rw [bus, h]
  · rfl

/-- The timers of the Bus Interface leave the low timer. -/
theorem busTimers_lowTimer : (busTimers s).bus.lowTimer = s.bus.lowTimer := by
  unfold busTimers
  dsimp only
  rw [whenDue_lowTimer, whenDue_lowTimer, whenDue_lowTimer, whenDue_lowTimer]
  · intro v
    unfold gapExpiry
    split <;> rfl
  · intro v
    unfold readyExpiry
    split <;> rfl
  · intro v
    unfold transmitEnd
    split <;> rfl
  · intro v
    unfold transmitStart
    split
    · split
      · split <;> rfl
      · rfl
    · rfl

/-- The millisecond in which the receive line has been low for 50 ms is a bus break. -/
theorem tick_breaks {n : Nat} (h : s.inRestart = false) (low : s.bus.lowTimer = some n) (long : 49 ≤ n) :
    ∃ u : State, tick s = busBreak u ∧ u.inRestart = false ∧ u.pending = s.pending := by
  have lines : SameBut timerParts (age s) (eachLine lineTimers (age s)) :=
    SameBut.each _ allLines (.refl _ _) fun _ _ => lineTimers_sameBut
  have bearers : SameBut timerParts (age s) (each allBearers bearerTimers (eachLine lineTimers (age s))) :=
    SameBut.each _ allBearers lines fun _ _ => whenDue_timerParts (fun _ => guardExpiry_sameBut) (by decide)
  have unit : SameBut timerParts (age s)
      (unitTimers (each allBearers bearerTimers (eachLine lineTimers (age s)))) := bearers.trans unitTimers_sameBut
  generalize hu : unitTimers (each allBearers bearerTimers (eachLine lineTimers (age s))) = u at unit
  have bus : u.bus = (age s).bus := unit .bus (by decide)
  have after : SameBut _ u (busTimers u) := busTimers_sameBut
  have restart : (busTimers u).inRestart = false := ((after .inRestart (by decide)).trans (unit .inRestart (by decide))).trans h
  have pending : (busTimers u).pending = s.pending := (after .pending (by decide)).trans (unit .pending (by decide))
  have lowNow : (busTimers u).bus.lowTimer = some (n + 1) := by
    rw [busTimers_lowTimer, bus]
    exact congrArg (Option.map (· + 1)) low
  refine ⟨busTimers u, ?_, restart, pending⟩
  rw [tick, h, hu, lineTimer, lowNow]
  exact if_pos (Nat.succ_le_succ long)

theorem reset_eq : State.reset = fullRestart .powerOn State.cold := rfl

theorem reset_safe : Safe State.reset := by
  have call (m : Line) : State.reset.call[m] = { state := .disabled } := by simp [State.reset, State.endRestart, State.cold]
  have filter (m : Line) : State.reset.sup[m].f = 0 := by simp [State.reset, State.endRestart, State.cold]
  refine ⟨⟨by decide, by decide⟩, fun m => ?_, fun m => ?_, .ofRestarted rfl, nofun, ?_, fun _ => rfl,
    .ofRestarted rfl fun m => ?_⟩
  · rw [filter]
    decide
  · rw [call]
    exact ⟨Nat.zero_le _, fun _ _ => ⟨rfl, rfl⟩⟩
  · rw [reset_eq]
    exact callsTied_iff.mpr fullRestart_tied
  · rw [call]
    nofun

end

/-- Settles O3: a full restart builds the state of the state tables from the straps and the receive line alone. -/
theorem fullRestartLeavesResetValues : Obligations.FullRestartLeavesResetValues := by
  refine ⟨fun s a r => ⟨?_, ?_, fun d => restartFull_restarts, fun h => ?_, fun n h empty low long => ?_⟩, ?_⟩
  · have restarted : powerOn ⟨a, r⟩ true s = restartedWith a r 0 s.pending := fullRestart_eq (c := .powerOn)
      (s := (s.setStrapPins ⟨a, r⟩).setBus { (s.setStrapPins ⟨a, r⟩).bus with lowTimer := none }) rfl rfl
    exact congrArg Host.Outcome.next restarted
  · rfl
  · exact ⟨busBreak s, rfl, busBreak_holds h a r⟩
  · obtain ⟨u, breaks, restart, pending⟩ := tick_breaks h low long
    refine ⟨busBreak u, by rw [step_empty empty, breaks], ?_⟩
    have held := busBreak_holds restart a r
    rw [pending] at held
    exact held
  · have digested : digest State.reset.tables = 0x12BF := BitVec.eq_of_toNat_eq Tests.test_digest_after_restart
    refine ⟨fun l => ?_, fun b => ?_, rfl, rfl, rfl, digested.symm, digested, rfl, rfl, rfl, ?_, rfl, rfl, reset_safe⟩
    · simp [State.reset, State.endRestart, State.cold, LineEntry.initial]
    · simp [State.reset, State.endRestart, State.cold, State.bearer]
    · intro t
      cases t <;> rfl

end Sys2Proof.Machine
end

section
/-! Chapter 2: hook decisions on a timed line, clears and digits. -/

namespace Sys2Proof.Machine

/-! ## The end of an event, part by part -/

section
variable {s t : State} {l m : Line} {b : Bearer} {parts : List Part} {f : State → State}

@[simp] theorem event_entries : (event f s).entries = (f s).entries := event_sameBut f s .entries (by decide)
@[simp] theorem event_tables : (event f s).tables = (f s).tables := event_sameBut f s .tables (by decide)
@[simp] theorem event_scanner : (event f s).scanner = (f s).scanner := event_sameBut f s .scanner (by decide)
@[simp] theorem event_brk : (event f s).brk = (f s).brk := event_sameBut f s .brk (by decide)
@[simp] theorem event_feed : (event f s).feed = (f s).feed := event_sameBut f s .feed (by decide)
@[simp] theorem event_call : (event f s).call = (f s).call := event_sameBut f s .call (by decide)
@[simp] theorem event_bearers : (event f s).bearers = (f s).bearers := event_sameBut f s .bearers (by decide)
@[simp] theorem event_bearer : (event f s).bearer b = (f s).bearer b := by rw [State.bearer, event_bearers]; rfl
@[simp] theorem event_arbiter : (event f s).arbiter = (f s).arbiter := event_sameBut f s .arbiter (by decide)
@[simp] theorem event_ringer : (event f s).ringer = (f s).ringer := event_sameBut f s .ringer (by decide)
@[simp] theorem event_test : (event f s).test = (f s).test := event_sameBut f s .test (by decide)
@[simp] theorem event_watch : (event f s).monitor.watch = (f s).monitor.watch := event_sameBut f s .watch (by decide)
@[simp] theorem event_reports : (event f s).reports = (f s).reports := event_sameBut f s .reports (by decide)
@[simp] theorem event_bus : (event f s).bus = (f s).bus := event_sameBut f s .bus (by decide)

/-- An event changes what its changes do, and the Quiet state. -/
theorem SameBut.event (h : SameBut parts s (f s)) (sub : [.quietRun] ⊆ parts) : SameBut parts s (event f s) :=
  h.then (event_sameBut f s) sub

theorem OtherLines.event (h : OtherLines l s (f s)) : OtherLines l s (event f s) :=
  h.trans (.ofSameBut (event_sameBut f s) (by decide))

theorem OtherBearers.event (h : OtherBearers b s (f s)) : OtherBearers b s (event f s) :=
  h.trans (.ofSameBut (event_sameBut f s) (by decide))

theorem SameLink.event (h : SameLink s (f s)) : SameLink s (event f s) := by
  rw [SameLink, event_bearers]
  exact h

/-- An event does not begin Quiet operation of itself. -/
theorem event_quiet (h : (f s).monitor.quiet = false) : (event f s).monitor.quiet = false := by
  obtain ⟨q, t, explicit, off⟩ := event_eq f s
  rw [explicit]
  cases q with
  | false => rfl
  | true => exact nomatch h.symm.trans (off rfl)

/-! ## Digits -/

theorem digitValue_many {p : Nat} (h : 11 ≤ p) : digitValue p = none := by
  rw [digitValue, if_neg (by omega), if_neg (by omega)]

theorem digitValue_few {p : Nat} (least : 1 ≤ p) (most : p ≤ 10) : digitValue p = some (p % 10) := by
  rcases Nat.lt_or_eq_of_le most with less | rfl
  · rw [digitValue, if_pos (by omega), Nat.mod_eq_of_lt less]
  · rfl

theorem callDigit_otherLines {v : Nat} : OtherLines l s (callDigit l v s) := by
  unfold callDigit
  dsimp only
  split
  · split <;> exact setCall_otherLines
  · split <;> exact setCall_otherLines
  · exact .ofSameBut lineReport_sameBut (by decide)
  · exact .refl l s

theorem digitEnd_eq (timed : s.call[l].state.timed = true) (make : s.brk[l].makeCount ≠ none) :
    digitEnd l s = match digitValue s.brk[l].pulses with
      | some v => callDigit l v (s.setBrk l s.brk[l].digitDone)
      | none => s.setBrk l s.brk[l].digitDone := by
  refine if_pos ?_
  rw [timed, Bool.true_and]
  exact Option.isSome_iff_ne_none.mpr make

theorem digitEnd_otherLines : OtherLines l s (digitEnd l s) := by
  unfold digitEnd
  dsimp only
  split
  · split
    · exact (setBrk_otherLines).trans callDigit_otherLines
    · exact setBrk_otherLines
  · exact .refl l s

theorem callDigit_connected {v : Nat} (h : s.call[l].state = .connected) :
    callDigit l v s = s.lineReport .digit l s.call[l].bearer (some v) := by
  unfold callDigit
  dsimp only
  rw [h]

theorem callDigit_early {v : Nat} (h : s.call[l].state = .waiting ∨ s.call[l].state = .seizing) :
    callDigit l v s = s.setCall l (if s.call[l].early.length < 8 then { s.call[l] with early := s.call[l].early ++ [v] }
      else { s.call[l] with lost := true }) := by
  unfold callDigit
  dsimp only
  rcases h with h | h <;> rw [h] <;> exact (apply_ite (s.setCall l) ..).symm

theorem timed_iff : s.call[l].state.timed = true ↔
    s.call[l].state = .waiting ∨ s.call[l].state = .seizing ∨ s.call[l].state = .connected := by
  cases s.call[l].state <;> simp [CallState.timed]

end

/-- Settles O15: the pulses decide the digit, and the call state where it goes. -/
theorem digitEndHandsDigit : Obligations.DigitEndHandsDigit := by
  intro s l state make least
  have ended := digitEnd_eq (timed_iff.mpr state) make
  have brk : (digitEnd l s).brk = s.brk.set l s.brk[l].digitDone := by
    rw [ended]
    split
    · exact callDigit_sameBut .brk (by decide)
    · rfl
  refine ⟨_, rfl, SameBut.event (SameBut.then (.refl _ s) digitEnd_sameBut (by decide)) (by decide),
    OtherLines.event digitEnd_otherLines, ?_, fun many => ?_, fun few => ⟨fun connected => ?_, fun other => ?_⟩⟩
  · rw [event_brk, brk, set_get, if_pos rfl]
    rfl
  · rw [event_call, event_reports, ended, digitValue_many many]
    exact ⟨rfl, rfl⟩
  · rw [event_call, event_reports, ended, digitValue_few least few]
    dsimp only
    rw [callDigit_connected (by exact connected)]
    exact ⟨rfl, rfl⟩
  · have early : s.call[l].state = .waiting ∨ s.call[l].state = .seizing := by tauto
    rw [event_call, event_reports, ended, digitValue_few least few]
    dsimp only
    rw [callDigit_early (by exact early)]
    refine ⟨rfl, ?_⟩
    rw [State.setCall_call, set_get, if_pos rfl]
    rfl

end Sys2Proof.Machine
end

section
/-! Chapters 1 and 2: what a hook decision does. -/

namespace Sys2Proof.Machine

section
variable {s t : State} {l m : Line} {b : Nat} {h : Hook}

/-- The state in which a hook decision is delivered: the hook state is `h` and Quiet operation has ended. -/
def hookTaken (l : Line) (h : Hook) (s : State) : State :=
  endQuiet (s.setSup l { s.sup[l] with hook := h, hookCount := 0 })

theorem hookTaken_sameBut : SameBut [.sup, .quietRun] s (hookTaken l h s) :=
  SameBut.then (SameBut.then (.refl _ s) setSup_sameBut (by decide)) endQuiet_sameBut (by decide)

theorem hookTaken_otherLines : OtherLines l s (hookTaken l h s) :=
  (setSup_otherLines).trans (.ofSameBut endQuiet_sameBut (by decide))

theorem hookTaken_sup : (hookTaken l h s).sup[l] = { s.sup[l] with hook := h, hookCount := 0 } := by
  change (s.sup.set l _)[l] = _
  rw [set_get, if_pos rfl]

theorem hookDecision_eq (supervised : s.call[l].state.supervised = true) (opposes : h ≠ s.sup[l].hook) :
    hookDecision l s = if s.call[l].state.timed then breakDecision l h (hookTaken l h s)
      else callHook l h (hookTaken l h s) := by
  have flips : (match s.sup[l].hook with
      | .onHook => Hook.offHook
      | .offHook => Hook.onHook) = h := by
    revert opposes
    cases s.sup[l].hook <;> cases h <;> simp
  have delivered : hookDecision l s = deliverHook l (s.setSup l { s.sup[l] with hook := h, hookCount := 0 }) := by
    rw [← flips]
    exact if_pos supervised
  have sup : (s.setSup l { s.sup[l] with hook := h, hookCount := 0 }).sup[l].hook = h := by rw [State.setSup_get]
  rw [delivered, deliverHook, sup]
  rfl

/-- On a line that is not supervised no hook decision is taken. -/
theorem hookDecision_unsupervised (unsupervised : s.call[l].state.supervised = false) : hookDecision l s = s :=
  if_neg (by simp [unsupervised, -Fin.getElem_fin])

theorem supervised_of_timed {st : CallState} (timed : st.timed = true) : st.supervised = true := by
  cases st <;> first | rfl | exact nomatch timed

/-! ## Breaks -/

theorem callFlash_otherLines : OtherLines l s (callFlash l s) := .ofSameBut callFlash_sameBut (by decide)

theorem breakDecision_otherLines : OtherLines l s (breakDecision l h s) := by
  unfold breakDecision
  dsimp only
  split
  · exact setBrk_otherLines
  · exact .refl l s
  · split
    · exact (setBrk_otherLines).trans callFlash_otherLines
    · exact setBrk_otherLines

theorem breakDecision_onHook : breakDecision l .onHook s = s.setBrk l s.brk[l].start := rfl

theorem breakDecision_untimed (none : s.brk[l].breakCount = none) : breakDecision l .offHook s = s := by
  unfold breakDecision
  dsimp only
  rw [none]

/-- The end of a break of `b` samples. -/
theorem breakDecision_ends (break_ : s.brk[l].breakCount = some b) : breakDecision l .offHook s =
    if breakClassOf l b s = .flash then callFlash l (s.setBrk l (s.brk[l].finish .flash))
    else s.setBrk l (s.brk[l].finish (breakClassOf l b s)) := by
  unfold breakDecision
  dsimp only
  rw [break_]
  dsimp only
  split
  · next flash => rw [flash]
  · rfl

theorem breakClassOf_flash_iff :
    breakClassOf l b s = .flash ↔ 125 ≤ b ∧ (s.profileOf l).flags.getLsbD 0 = true := by
  unfold breakClassOf classifyBreak
  by_cases short : b ≤ 124
  · rw [if_pos short]
    refine iff_of_false ?_ (by omega)
    split_ifs <;> nofun
  · rw [if_neg (by omega), if_neg (by omega), if_neg short]
    change (if (s.profileOf l).flags.getLsbD 0 = true then BreakClass.flash else BreakClass.invalid) = .flash ↔ _
    split_ifs with allowed
    · exact iff_of_true rfl ⟨by omega, allowed⟩
    · exact iff_of_false nofun fun k => allowed k.2

theorem breakClassOf_glitch (short : b ≤ 9) : breakClassOf l b s = .glitch := by
  rw [breakClassOf, classifyBreak, if_pos short]

theorem breakClassOf_pulse (least : 10 ≤ b) (most : b ≤ 60) : breakClassOf l b s = .pulse := by
  rw [breakClassOf, classifyBreak, if_neg (by omega), if_pos most]

/-- A break longer than a pulse discards the digit in progress, whether it is a flash or not. -/
theorem finish_long {t : BreakTiming} (long : 61 ≤ b) : t.finish (breakClassOf l b s) = {} := by
  unfold breakClassOf classifyBreak
  rw [if_neg (by omega), if_neg (by omega)]
  by_cases short : b ≤ 124
  · rw [if_pos short]
    rfl
  · rw [if_neg short]
    dsimp only
    split_ifs <;> rfl

theorem breakDecision_brk (break_ : s.brk[l].breakCount = some b) :
    (breakDecision l .offHook s).brk = s.brk.set l (s.brk[l].finish (breakClassOf l b s)) := by
  rw [breakDecision_ends break_]
  split
  · next flash =>
    rw [flash]
    exact callFlash_sameBut .brk (by decide)
  · rfl

theorem breakDecision_reports (break_ : s.brk[l].breakCount = some b) : (breakDecision l .offHook s).reports =
    if 125 ≤ b ∧ (s.profileOf l).flags.getLsbD 0 = true ∧ s.call[l].state = .connected then
      s.reports.append (s.urgentFor l) { kind := .flash, line := some l, bearer := s.call[l].bearer }
    else s.reports := by
  rw [breakDecision_ends break_]
  by_cases flash : breakClassOf l b s = .flash
  · obtain ⟨long, allowed⟩ := breakClassOf_flash_iff.mp flash
    rw [if_pos flash]
    unfold callFlash
    split
    · next connected => rw [if_pos ⟨long, allowed, connected⟩]; rfl
    · next other => rw [if_neg fun k => other k.2.2]; rfl
  · rw [if_neg flash, if_neg fun k => flash (breakClassOf_flash_iff.mpr ⟨k.1, k.2.1⟩)]
    rfl

theorem breakDecision_quiet : (breakDecision l h s).monitor.quiet = s.monitor.quiet :=
  (breakDecision_sameBut (s := s) (l := l) (h := h) .quietRun (by decide)).1

end

/-- Settles O13: a timed line hands its hook decisions to the Break Timer, and of the other supervised states only three
act on one. -/
theorem hookDecisionTimesBreaks : Obligations.HookDecisionTimesBreaks := by
  refine ⟨fun s l timed => ?_, fun s l => ⟨fun state => ?_, fun state => ?_⟩⟩
  · have isTimed := timed_iff.mpr timed
    have decided {h : Hook} (opposes : h ≠ s.sup[l].hook) : hookDecision l s = breakDecision l h (hookTaken l h s) := by
      rw [hookDecision_eq (supervised_of_timed isTimed) opposes, if_pos isTimed]
    have others {h : Hook} : OtherLines l s (breakDecision l h (hookTaken l h s)) :=
      (hookTaken_otherLines).trans breakDecision_otherLines
    have quiet {h : Hook} : (breakDecision l h (hookTaken l h s)).monitor.quiet = false := by
      rw [breakDecision_quiet]
      rfl
    have sup {h : Hook} : (breakDecision l h (hookTaken l h s)).sup[l] = { s.sup[l] with hook := h, hookCount := 0 } := by
      rw [breakDecision_sup, hookTaken_sup]
    refine ⟨fun off => ?_, fun b on break_ _ => ?_, fun on none => ?_⟩
    · have eq : hookDecision l s = _ := decided (h := .onHook) (by rw [off]; nofun)
      refine ⟨event (hookDecision l) s, rfl, SameBut.event ?_ (by decide), OtherLines.event (by rw [eq]; exact others),
        event_quiet (by rw [eq]; exact quiet), by rw [event_sup, eq, sup], ?_⟩
      · rw [eq, breakDecision_onHook]
        exact SameBut.then (SameBut.then (.refl _ s) hookTaken_sameBut (by decide)) setBrk_sameBut (by decide)
      · rw [event_brk, eq, breakDecision_onHook, State.setBrk_get]
        rfl
    · have eq : hookDecision l s = _ := decided (h := .offHook) (by rw [on]; nofun)
      have brk : (hookDecision l s).brk[l] = s.brk[l].finish (breakClassOf l b (hookTaken l .offHook s)) := by
        rw [eq, breakDecision_brk (by exact break_), set_get, if_pos rfl]
        rfl
      refine ⟨event (hookDecision l) s, rfl, SameBut.event ?_ (by decide), OtherLines.event (by rw [eq]; exact others),
        event_quiet (by rw [eq]; exact quiet), by rw [event_sup, eq, sup], ?_, ?_, ?_, ?_⟩
      · rw [eq]
        exact SameBut.then (SameBut.then (.refl _ s) hookTaken_sameBut (by decide)) breakDecision_sameBut (by decide)
      · intro short
        rw [event_brk, brk, breakClassOf_glitch short]
        rfl
      · intro least most
        rw [event_brk, brk, breakClassOf_pulse least most]
        rfl
      · intro long
        rw [event_brk, brk, finish_long long]
      · rw [event_reports, eq, breakDecision_reports (by exact break_)]
        rfl
    · have eq : hookDecision l s = hookTaken l .offHook s := by
        rw [decided (h := .offHook) (by rw [on]; nofun), breakDecision_untimed (by exact none)]
      refine ⟨event (hookDecision l) s, rfl, SameBut.event ?_ (by decide), OtherLines.event ?_, event_quiet ?_, ?_⟩
      · rw [eq]
        exact hookTaken_sameBut
      · rw [eq]
        exact hookTaken_otherLines
      · rw [eq]
        rfl
      · rw [event_sup, eq, hookTaken_sup]
  · have supervised : s.call[l].state.supervised = true := by
      rcases state with e | ⟨e | e, -⟩ | ⟨e, -⟩ <;> rw [e] <;> rfl
    have untimed : ¬s.call[l].state.timed = true := by
      rcases state with e | ⟨e | e, -⟩ | ⟨e, -⟩ <;> rw [e] <;> nofun
    have ⟨h, opposes⟩ : ∃ h, h ≠ s.sup[l].hook := ⟨if s.sup[l].hook = .onHook then .offHook else .onHook, by
      cases s.sup[l].hook <;> nofun⟩
    have eq : hookDecision l s = hookTaken l h s := by
      rw [hookDecision_eq supervised opposes, if_neg untimed]
      have call : (hookTaken l h s).call = s.call := rfl
      unfold callHook
      rw [call]
      rcases state with e | ⟨e | e, off⟩ | ⟨e, on⟩
      · rw [e]
      · rw [e]
        cases h with
        | onHook => rfl
        | offHook => exact absurd off.symm opposes
      · rw [e]
        cases h with
        | onHook => rfl
        | offHook => exact absurd off.symm opposes
      · rw [e]
        cases h with
        | offHook => rfl
        | onHook => exact absurd on.symm opposes
    refine ⟨event (hookDecision l) s, rfl, SameBut.event ?_ (by decide), OtherLines.event ?_, event_quiet ?_, ?_, ?_⟩
    · rw [eq]
      exact hookTaken_sameBut
    · rw [eq]
      exact hookTaken_otherLines
    · rw [eq]
      rfl
    · rw [event_sup, eq, hookTaken_sup]
      exact opposes
    · rw [event_sup, eq, hookTaken_sup]
  · have eq : hookDecision l s = s := hookDecision_unsupervised (by rcases state with e | e <;> rw [e] <;> rfl)
    refine ⟨event (hookDecision l) s, rfl, SameBut.event ?_ (by decide)⟩
    rw [eq]
    exact .refl _ s

end Sys2Proof.Machine
end

section
/-! Chapter 2: what a clear does. -/

namespace Sys2Proof.Machine

section
variable {s t : State} {l m p : Line} {b c : Bearer}

/-- An event whose changes lead to `u` leads to `u` but for the Quiet state and the quiet timer. -/
theorem sameBut_event_of {f : State → State} {u : State} (h : f s = u) : SameBut [.quietRun] u (event f s) :=
  h ▸ event_sameBut f s

/-! ## Explicit changes of calls -/

theorem goIdle_frame_unrung (h : s.call[l].state ≠ .ringing) : goIdle l s = { s with
    call := s.call.set l { state := .idle }
    brk := s.brk.set l {}
    feed := s.feed.set l (s.feed[l].callTarget .standby)
    arbiter := { s.arbiter with arrivals := s.arbiter.arrivals.filter fun a => a.line ≠ l } } := by
  have untimed : (s.call[l].state.timed && CallState.idle.timed) = false := Bool.and_false _
  rw [goIdle, enter_frame_unrung h, callTarget_frame]
  simp only [untimed]
  rfl

/-- The record of a bearer that the part gives back, where its line is known. -/
theorem toClearing_eq (line : (s.bearer b).line = some l) :
    (s.bearer b).toClearing (secondsMs s.tables.timers.guard) = s.clearingRecord b l := by
  unfold BearerRecord.toClearing BearerRecord.withLine State.clearingRecord
  dsimp only
  rw [line]
  simp [secondsMs, Nat.mul_comm]

theorem clearBearer_frame_of (line : (s.bearer b).line = some l) : clearBearer b s = { s with
    bearers := { s.bearers with
      recs := s.bearers.recs.set b (s.clearingRecord b l)
      connection := s.bearers.connection.filter fun x => x ≠ b }
    arbiter := { s.arbiter with
      handover := if s.arbiter.handover.map Handover.bearer = some b then none else s.arbiter.handover } } := by
  rw [clearBearer_frame, toClearing_eq line]

theorem bearer_set_ne (ne : c ≠ b) {x : BearerRecord} : (s.bearers.recs.set b x)[c] = s.bearer c := by
  rw [set_get, if_neg ne]
  rfl

/-! ## The Priority reconsideration where no Priority line waits -/

theorem reconsider_idle (none : ∀ a ∈ s.arbiter.arrivals, a.waits .priority = false) : reconsider s = s := by
  have empty : s.arbiter.arrivals.filter (fun a => a.waits .priority) = [] :=
    List.filter_eq_nil_iff.mpr fun a mem => by rw [none a mem]; nofun
  rw [reconsider, empty]
  rfl

/-! ## A Break Timer at rest stays at rest while other lines are served -/

/-- The Break Timer of the line is at rest. -/
def State.rests (s : State) (m : Line) : Prop := s.brk[m] = {}

theorem enter_rests {n : CallRecord} (rest : s.rests m) : (enter l n s).rests m := by
  have brk : (enter l n s).brk = if s.call[l].state.timed && n.state.timed then s.brk else s.brk.set l {} := by
    rw [enter_frame]
  unfold State.rests
  rw [brk]
  by_cases kept : (s.call[l].state.timed && n.state.timed) = true
  · rw [if_pos kept]
    exact rest
  · rw [if_neg kept, set_get]
    split
    · rfl
    · exact rest

theorem grantBearer_rests (rest : s.rests m) : (grantBearer l b s).rests m := by
  have stood : (setStanding l .seizing (giveBearer b .held l s)).rests m := rest
  have entered : (enter l (seizingRecord b (setStanding l .seizing (giveBearer b .held l s)))
      (setStanding l .seizing (giveBearer b .held l s))).rests m := enter_rests stood
  exact entered

theorem goIdle_rests (rest : s.rests m) : (goIdle l s).rests m := by
  have entered : (enter l { state := .idle } s).rests m := enter_rests rest
  exact entered

theorem enterLockout_rests {x : LockoutCause} (rest : s.rests m) : (enterLockout l x s).rests m := by
  have entered : (enter l (lockoutRecord x s) s).rests m := enter_rests rest
  have targeted : (callTarget l .active (enter l (lockoutRecord x s) s)).rests m := entered
  unfold enterLockout
  dsimp only
  split
  · exact goIdle_rests targeted
  · exact targeted

theorem startHandover_rests (rest : s.rests m) : (startHandover p b s).rests m := by
  unfold startHandover
  split
  · exact rest
  · next old _ =>
    dsimp only
    have reported : (s.report true { kind := .preempted, line := some old, bearer := some b }).rests m := rest
    have locked := enterLockout_rests (l := old) (x := .preempted) reported
    generalize enterLockout old .preempted (s.report true { kind := .preempted, line := some old, bearer := some b }) = v
      at locked
    have stood : (setStanding p .seizing (disconnect b (giveBearer b .handover p v))).rests m := locked
    have entered : (enter p { state := .seizing, bearer := some b }
        (setStanding p .seizing (disconnect b (giveBearer b .handover p v)))).rests m := enter_rests stood
    exact entered

theorem priorityStep_rests (rest : s.rests m) : (priorityStep p s).rests m := by
  unfold priorityStep
  split
  · exact rest
  · split
    · exact startHandover_rests rest
    · exact rest

theorem reconsider_rests (rest : s.rests m) : (reconsider s).rests m := by
  have served (ps : List Line) : ∀ v : State, v.rests m → (reconsiderWaiters ps v).rests m := by
    induction ps with
    | nil => exact fun _ h => h
    | cons p ps ih =>
      intro v h
      unfold reconsiderWaiters
      split
      · exact ih _ (grantBearer_rests h)
      · exact priorityStep_rests h
  exact served _ s rest

theorem State.rests.setBrk (h : s.rests l) : s.setBrk l {} = s := by
  have same : s.brk.set l {} = s.brk := by
    rw [← show s.brk[l] = {} from h]
    exact Vector.set_getElem_self ..
  unfold State.setBrk
  rw [same]

/-! ## Clears -/

theorem clearDecision_eq (timed : s.call[l].state.timed = true) (break_ : s.brk[l].breakCount ≠ none) :
    clearDecision l s = (callClear l s).setBrk l {} := by
  refine if_pos ?_
  rw [timed, Bool.true_and]
  exact Option.isSome_iff_ne_none.mpr break_

/-- A clear of a Waiting line. -/
theorem callClear_waiting (h : s.call[l].state = .waiting) : callClear l s = goIdle l s := by
  unfold callClear
  dsimp only
  rw [h]

theorem callClear_seizing (h : s.call[l].state = .seizing) (names : s.call[l].bearer = some b)
    (held : (s.bearer b).state ≠ .handover) :
    callClear l s = goIdle l ((clearBearer b s).lineReport .withdraw l (some b) none) := by
  unfold callClear
  dsimp only
  rw [h, names]
  exact if_neg held

theorem callClear_connected (h : s.call[l].state = .connected) (names : s.call[l].bearer = some b) :
    callClear l s = goIdle l (clearBearer b (s.lineReport .clear l (some b) none)) := by
  unfold callClear
  dsimp only
  rw [h, names]

theorem callClear_handover (h : s.call[l].state = .seizing) (names : s.call[l].bearer = some b)
    (handover : (s.bearer b).state = .handover) :
    callClear l s = reconsider (goIdle l (releaseReport l b .preempted (clearBearer b s))) := by
  unfold callClear
  dsimp only
  rw [h, names]
  exact if_pos handover

theorem lineReport_eq {k : ReportKind} {n : Option Bearer} {v : Option Nat} : s.lineReport k l n v =
    s.report (s.urgentFor l) { kind := k, line := some l, bearer := n, value := v } := rfl

theorem clearBearer_urgentFor : (clearBearer b s).urgentFor l = s.urgentFor l := by
  rw [clearBearer_frame]
  rfl

theorem clearBearer_report {x : Bool} {r : Report} : clearBearer b (s.report x r) = (clearBearer b s).report x r := by
  rw [clearBearer_frame, clearBearer_frame]
  rfl

/-- The state in which a Seizing or Connected line has gone Idle, its bearer in Clearing with a report. -/
def State.clearedCall (s : State) (l : Line) (b : Bearer) (r : Report) : State :=
  { s with
    call := s.call.set l { state := .idle }
    brk := s.brk.set l {}
    feed := s.feed.set l (s.feed[l].callTarget .standby)
    bearers := { s.bearers with
      recs := s.bearers.recs.set b (s.clearingRecord b l)
      connection := s.bearers.connection.filter fun x => x ≠ b }
    arbiter :=
      { s.arbiter with
        arrivals := s.arbiter.arrivals.filter fun a => a.line ≠ l
        handover := if s.arbiter.handover.map Handover.bearer = some b then none else s.arbiter.handover }
    reports := s.reports.append (s.urgentFor l) r }

theorem goIdle_clearedCall {r : Report} (unrung : s.call[l].state ≠ .ringing) (line : (s.bearer b).line = some l) :
    goIdle l ((clearBearer b s).report (s.urgentFor l) r) = s.clearedCall l b r := by
  rw [clearBearer_frame_of line, goIdle_frame_unrung (by exact unrung)]
  rfl

end

/-- Settles O14: a clear takes the line back to Idle, with what it uses given back first. -/
theorem clearEndsCall : Obligations.ClearEndsCall := by
  intro s l break_
  have resting {v : State} (rest : v.rests l) : v.setBrk l {} = v := State.rests.setBrk rest
  refine ⟨fun waiting => ?_, fun b names line state other => ?_, fun b left seizing names line handover record => ?_⟩
  · have unrung : s.call[l].state ≠ .ringing := by rw [waiting]; nofun
    have rests : (goIdle l s).rests l := by
      rw [goIdle_frame_unrung unrung, State.rests, set_get, if_pos rfl]
    have eq : clearDecision l s = goIdle l s := by
      rw [clearDecision_eq (by rw [waiting]; rfl) break_, callClear_waiting waiting, resting rests]
    have other : OtherLines l s (goIdle l s) := by
      rw [goIdle_frame_unrung unrung]
      exact fun m ne => ⟨rfl, rfl, by rw [set_get, if_neg ne], by rw [set_get, if_neg ne], by rw [set_get, if_neg ne]⟩
    refine ⟨event (clearDecision l) s, rfl, SameBut.event ?_ (by decide), OtherLines.event (by rw [eq]; exact other),
      ?_, ?_, ?_, ?_⟩
    · rw [eq, goIdle_frame_unrung unrung]
      simp [sameBut_iff]
    · rw [event_call, eq, goIdle_call]
    · rw [event_brk, eq]
      exact rests
    · rw [event_feed, eq, goIdle_frame_unrung unrung, set_get, if_pos rfl]
    · rw [event_arbiter, eq, goIdle_frame_unrung unrung]
  · obtain ⟨r, hr, eq⟩ : ∃ r : Report,
        r = { kind := if s.call[l].state = .seizing then .withdraw else .clear, line := some l, bearer := some b } ∧
        callClear l s = s.clearedCall l b r := by
      refine ⟨_, rfl, ?_⟩
      rcases state with ⟨seizing, held⟩ | ⟨connected, engaged⟩
      · rw [callClear_seizing seizing names (by rw [held]; nofun), lineReport_eq, clearBearer_urgentFor,
          goIdle_clearedCall (by rw [seizing]; nofun) line, if_pos seizing]
      · rw [callClear_connected connected names, lineReport_eq, clearBearer_report,
          goIdle_clearedCall (by rw [connected]; nofun) line, if_neg (by rw [connected]; nofun)]
    have timed : s.call[l].state.timed = true := by
      rcases state with ⟨e, -⟩ | ⟨e, -⟩ <;> rw [e] <;> rfl
    have rests : (s.clearedCall l b r).rests l := by
      rw [State.rests, State.clearedCall, set_get, if_pos rfl]
    have cleared : clearDecision l s = s.clearedCall l b r := by
      rw [clearDecision_eq timed break_, eq, resting rests]
    refine ⟨event (clearDecision l) s, rfl, SameBut.event ?_ (by decide), OtherLines.event ?_, OtherBearers.event ?_,
      SameLink.event ?_, ?_, ?_, ?_, ?_, ?_, ?_, ?_⟩
    · rw [cleared, State.clearedCall]
      simp [sameBut_iff]
    · rw [cleared]
      exact fun m ne => ⟨rfl, rfl, by rw [State.clearedCall, set_get, if_neg ne],
        by rw [State.clearedCall, set_get, if_neg ne], by rw [State.clearedCall, set_get, if_neg ne]⟩
    · rw [cleared]
      exact fun c ne => bearer_set_ne ne
    · rw [cleared]
      exact ⟨rfl, rfl⟩
    · rw [event_call, cleared, State.clearedCall, set_get, if_pos rfl]
    · rw [event_brk, cleared]
      exact rests
    · rw [event_feed, cleared, State.clearedCall, set_get, if_pos rfl]
    · rw [event_bearer, cleared, State.clearedCall, State.bearer, set_get, if_pos rfl]
    · rw [event_bearers, cleared, State.clearedCall]
    · rw [event_arbiter, cleared, State.clearedCall, if_neg other]
    · rw [event_reports, cleared, State.clearedCall, hr]
  · have eq : callClear l s = reconsider (s.clearedCall l b
        { kind := .release, line := some l, bearer := some b, value := some 3 }) := by
      rw [callClear_handover seizing names handover, releaseReport, lineReport_eq, clearBearer_urgentFor,
        goIdle_clearedCall (by rw [seizing]; nofun) line]
      rfl
    have rests {r : Report} : (s.clearedCall l b r).rests l := by
      rw [State.rests, State.clearedCall, set_get, if_pos rfl]
    have cleared : clearDecision l s = reconsider (s.clearedCall l b
        { kind := .release, line := some l, bearer := some b, value := some 3 }) := by
      rw [clearDecision_eq (by rw [seizing]; rfl) break_, eq, resting (reconsider_rests rests)]
    intro v
    have same : s.clearedCall l b { kind := .release, line := some l, bearer := some b, value := some 3 } = v := by
      unfold State.clearedCall v
      rw [record]
      simp
    rw [same] at cleared
    refine ⟨event (clearDecision l) s, rfl, sameBut_event_of cleared, fun noOther => sameBut_event_of ?_⟩
    rw [cleared]
    refine reconsider_idle fun a mem => ?_
    obtain ⟨mem, other⟩ := List.mem_filter.mp mem
    simpa [Arrival.waits] using noOther a mem (by simpa using other)

end Sys2Proof.Machine
end

section
/-! Chapters 5 and 6: explicit changes of calls, and an off-hook Idle line. -/

namespace Sys2Proof.Machine

section
variable {s t : State} {l m p v : Line} {b c : Bearer} {x : LockoutCause}

/-! ## Lockout, waiting and granting -/

theorem lockoutRecord_entering {old : CallRecord} : (lockoutRecord x s).entering old = s.lockedOut x := by
  cases x <;> simp [lockoutRecord, State.lockedOut, CallRecord.entering, CallState.joined, LockoutCause.tone,
    secondsMs, Nat.mul_comm, Config.preemptionToneMs]

/-- The record of a line that has just been locked out: on-hook it has gone on to Idle. -/
def State.lockoutCall (s : State) (l : Line) (x : LockoutCause) : CallRecord :=
  match s.sup[l].hook with
  | .offHook => s.lockedOut x
  | .onHook => { state := .idle }

/-- The feed of a line that has just been locked out. -/
def State.lockoutFeed (s : State) (l : Line) : Feed :=
  match s.sup[l].hook with
  | .offHook => s.feed[l].callTarget .active
  | .onHook => (s.feed[l].callTarget .active).callTarget .standby

theorem enterLockout_frame_unrung (unrung : s.call[l].state ≠ .ringing) : enterLockout l x s = { s with
    call := s.call.set l (s.lockoutCall l x)
    brk := s.brk.set l {}
    feed := s.feed.set l (s.lockoutFeed l)
    arbiter := { s.arbiter with arrivals := s.arbiter.arrivals.filter fun a => a.line ≠ l } } := by
  have locked : callTarget l .active (enter l (lockoutRecord x s) s) = { s with
      call := s.call.set l (s.lockedOut x)
      brk := s.brk.set l {}
      feed := s.feed.set l (s.feed[l].callTarget .active)
      arbiter := { s.arbiter with arrivals := s.arbiter.arrivals.filter fun a => a.line ≠ l } } := by
    have untimed : (s.call[l].state.timed && (lockoutRecord x s).state.timed) = false := Bool.and_false _
    rw [enter_frame_unrung unrung, callTarget_frame, lockoutRecord_entering]
    simp only [untimed]
    rfl
  unfold enterLockout State.lockoutCall State.lockoutFeed
  dsimp only
  rw [locked]
  cases s.sup[l].hook with
  | offHook => rfl
  | onHook =>
    have now : ({ s with
      call := s.call.set l (s.lockedOut x)
      brk := s.brk.set l {}
      feed := s.feed.set l (s.feed[l].callTarget .active)
      arbiter := { s.arbiter with arrivals := s.arbiter.arrivals.filter fun a => a.line ≠ l } } : State).call[l].state
        ≠ .ringing := by
      rw [set_get, if_pos rfl]
      nofun
    dsimp only
    rw [goIdle_frame_unrung now]
    dsimp only
    rw [Vector.set_set, Vector.set_set, Vector.set_set, set_get, if_pos rfl, List.filter_filter]
    simp

/-- The Idle line has entered Waiting. -/
theorem waited_frame (idle : s.call[l].state = .idle) : callTarget l .active (enter l (waitingRecord s) s) = { s with
    call := s.call.set l { state := .waiting, path := .tone .wait, early := s.call[l].early, lost := s.call[l].lost
                           timer := some { kind := .wait, left := 1000 * s.tables.timers.wait.toNat } }
    brk := s.brk.set l {}
    feed := s.feed.set l (s.feed[l].callTarget .active) } := by
  have record : (waitingRecord s).entering s.call[l] =
      { state := .waiting, path := .tone .wait, early := s.call[l].early, lost := s.call[l].lost
        timer := some { kind := .wait, left := 1000 * s.tables.timers.wait.toNat } } := by
    simp [waitingRecord, CallRecord.entering, CallState.joined, secondsMs, Nat.mul_comm]
  have untimed : (s.call[l].state.timed && (waitingRecord s).state.timed) = false := by rw [idle]; rfl
  rw [enter_frame_unrung (by rw [idle]; nofun), callTarget_frame, record]
  simp only [untimed]
  rfl

/-- The record of a line that holds `b` with its Seize report queued now. -/
def State.seizingCall (s : State) (l : Line) (b : Bearer) : CallRecord :=
  { state := .seizing, bearer := some b, early := s.call[l].early, lost := s.call[l].lost
    timer := some { kind := .answer, left := 1000 * s.tables.timers.answer.toNat } }

theorem seizingRecord_entering : (seizingRecord b s).entering s.call[l] = s.seizingCall l b := by
  simp [seizingRecord, State.seizingCall, CallRecord.entering, CallState.joined, secondsMs, Nat.mul_comm]

/-- A bearer without a line that is given to one has no other former line. -/
theorem give_of_none {r : BearerRecord} {st : BearerState} (none : r.line = none) :
    r.give st l = { r with state := st, line := some l } := by
  unfold BearerRecord.give BearerRecord.withLine
  dsimp only
  rw [none]
  simp

theorem give_of_some {r : BearerRecord} {st : BearerState} (some : r.line = some m) (ne : m ≠ l) :
    r.give st l = { r with state := st, line := .some l, formerLine := .some m } := by
  unfold BearerRecord.give BearerRecord.withLine
  dsimp only
  rw [some]
  simp [ne]

/-- A grant to a Waiting line. -/
theorem grantBearer_frame (waiting : s.call[l].state = .waiting) : grantBearer l b s = { s with
    call := s.call.set l (s.seizingCall l b)
    bearers := { s.bearers with recs := s.bearers.recs.set b ((s.bearer b).give .held l) }
    arbiter := { s.arbiter with
      arrivals := s.arbiter.arrivals.map fun a => if a.line = l then { a with standing := .seizing } else a }
    reports := s.reports.append (s.urgentFor l)
      { kind := .seize, line := some l, bearer := some b, value := some (s.classOf l).code } } := by
  have now : (setStanding l .seizing (giveBearer b .held l s)).call[l].state = .waiting := waiting
  have timed : ((setStanding l .seizing (giveBearer b .held l s)).call[l].state.timed &&
      (seizingRecord b (setStanding l .seizing (giveBearer b .held l s))).state.timed) = true := by rw [now]; rfl
  unfold grantBearer
  dsimp only
  rw [enter_frame_unrung (by rw [now]; nofun), seizingRecord_entering]
  simp only [timed]
  rfl

/-! ## Who is eligible -/

theorem find_allBearers {q : Bearer → Bool} (yes : q b = true) (lower : ∀ c < b, q c = false) :
    allBearers.find? q = some b := by
  refine List.find?_eq_some_iff_getElem.mpr ⟨yes, b, by simp [allBearers], by simp [allBearers], fun j hj => ?_⟩
  have lt : (⟨j, by omega⟩ : Bearer) < b := hj
  simpa [allBearers] using lower _ lt

theorem lowestEligible_none {k : Machine.Class} (none : ∀ b, s.eligible k b = false) : s.lowestEligible k = .none :=
  List.find?_eq_none.mpr fun b _ => by rw [none b]; nofun

/-- No call on the connection list may be preempted. -/
def State.spared (s : State) (cs : List Bearer) : Prop :=
  ∀ c ∈ cs, ∀ m, (s.bearer c).line = some m → s.entries[m].preemptible = false ∨ s.classOf m = .priority

theorem preemptibleOn_spared {cs : List Bearer} (spared : s.spared cs) (mem : c ∈ cs) :
    s.preemptibleOn c = false := by
  unfold State.preemptibleOn
  split
  · next m line =>
    rcases spared c mem m line with e | e
    · rw [e]
      rfl
    · simp [e]
  · rfl

theorem victim_none (spared : s.spared s.bearers.connection) : s.victim = none :=
  List.find?_eq_none.mpr fun c mem => by rw [preemptibleOn_spared spared mem]; nofun

theorem victim_first {older younger : List Bearer} (connection : s.bearers.connection = older ++ b :: younger)
    (spared : s.spared older) (line : (s.bearer b).line = some v) (preemptible : s.entries[v].preemptible = true)
    (cls : s.classOf v ≠ .priority) : s.victim = some b := by
  have takes : s.preemptibleOn b = true := by
    unfold State.preemptibleOn
    rw [line]
    simp only [preemptible, Bool.true_and]
    exact decide_eq_true cls
  unfold State.victim
  rw [connection, List.find?_append, List.find?_eq_none.mpr fun c mem => by
    rw [preemptibleOn_spared spared mem]; nofun]
  simp [takes]

/-- The Priority step leaves the line waiting where it may take no bearer. -/
theorem priorityStep_idle (none : s.arbiter.handover ≠ none ∨ s.spared s.bearers.connection) : priorityStep p s = s := by
  unfold priorityStep
  split
  · rfl
  · next free =>
    rw [victim_none (none.resolve_left fun k => k free)]

end

/-! ## An off-hook Idle line -/

section
variable {s t : State} {l m p v : Line} {b c : Bearer} {x : LockoutCause}

theorem hookDecision_idle (idle : s.call[l].state = .idle) (on : s.sup[l].hook = .onHook) :
    hookDecision l s = offHookHandling l (hookTaken l .offHook s) := by
  have call : (hookTaken l .offHook s).call[l].state = .idle := idle
  rw [hookDecision_eq (h := .offHook) (by rw [idle]; rfl) (by rw [on]; nofun), if_neg (by rw [idle]; nofun)]
  unfold callHook
  rw [call]

/-- The off-hook Idle line outside Isolated service, before the arbiter runs for it. -/
def State.joining (s : State) (l : Line) : State :=
  { s with
    call := s.call.set l { state := .waiting, path := .tone .wait, early := s.call[l].early, lost := s.call[l].lost
                           timer := some { kind := .wait, left := 1000 * s.tables.timers.wait.toNat } }
    brk := s.brk.set l {}
    feed := s.feed.set l (s.feed[l].callTarget .active)
    arbiter := { s.arbiter with
      arrivals := s.arbiter.arrivals ++ [{ line := l, cls := s.classOf l, standing := .waiting }] } }

theorem offHookHandling_eq (idle : s.call[l].state = .idle) (service : s.monitor.isolated = false) :
    offHookHandling l s = match s.lowestEligible (s.classOf l) with
      | some b => grantBearer l b (s.joining l)
      | none => if s.classOf l = .priority then priorityStep l (s.joining l) else s.joining l := by
  rw [offHookHandling, service, if_neg Bool.false_ne_true, waited_frame idle]
  rfl

/-- Off-hook handling of an Idle line for which a bearer is eligible. -/
theorem offHookHandling_granted (idle : s.call[l].state = .idle) (service : s.monitor.isolated = false)
    (eligible : s.lowestEligible (s.classOf l) = some b) (absent : ∀ a ∈ s.arbiter.arrivals, a.line ≠ l)
    (none : (s.bearer b).line = none) : offHookHandling l s = { s with
      call := s.call.set l (s.seizingCall l b)
      brk := s.brk.set l {}
      feed := s.feed.set l (s.feed[l].callTarget .active)
      bearers := { s.bearers with recs := s.bearers.recs.set b { s.bearer b with state := .held, line := some l } }
      arbiter := { s.arbiter with
        arrivals := s.arbiter.arrivals ++ [{ line := l, cls := s.classOf l, standing := .seizing }] }
      reports := s.reports.append (s.urgentFor l)
        { kind := .seize, line := some l, bearer := some b, value := some (s.classOf l).code } } := by
  have call : (s.joining l).call[l] = { state := .waiting, path := .tone .wait, early := s.call[l].early
                                        lost := s.call[l].lost
                                        timer := some { kind := .wait, left := 1000 * s.tables.timers.wait.toNat } } := by
    rw [State.joining, set_get, if_pos rfl]
  have seizing : (s.joining l).seizingCall l b = s.seizingCall l b := by
    unfold State.seizingCall
    rw [call]
    rfl
  have arrivals : (s.joining l).arbiter.arrivals.map
      (fun a => if a.line = l then { a with standing := .seizing } else a) =
      s.arbiter.arrivals ++ [{ line := l, cls := s.classOf l, standing := .seizing }] := by
    have others : s.arbiter.arrivals.map (fun a => if a.line = l then { a with standing := .seizing } else a) =
        s.arbiter.arrivals := (List.map_congr_left fun a mem => if_neg (absent a mem)).trans (List.map_id _)
    rw [State.joining, List.map_append, others]
    simp
  have bearer : (s.joining l).bearer b = s.bearer b := rfl
  rw [offHookHandling_eq idle service, eligible]
  dsimp only
  rw [grantBearer_frame (by rw [call]), seizing, arrivals, bearer, give_of_none none]
  unfold State.joining
  dsimp only
  rw [Vector.set_set]
  rfl

/-- Off-hook handling of an Idle line that finds no bearer and may take none. -/
theorem offHookHandling_waits (idle : s.call[l].state = .idle) (service : s.monitor.isolated = false)
    (none : ∀ b, s.eligible (s.classOf l) b = false)
    (waits : s.classOf l ≠ .priority ∨ s.arbiter.handover ≠ .none ∨ s.spared s.bearers.connection) :
    offHookHandling l s = s.joining l := by
  rw [offHookHandling_eq idle service, lowestEligible_none none]
  dsimp only
  split
  · next priority => exact priorityStep_idle (waits.resolve_left fun k => k priority)
  · rfl

/-- What a hook decision changes is what its delivery does, and the hook state. -/
theorem SameBut.ofTaken {parts : List Part} {h : Hook} (sub : [.sup, .quietRun] ⊆ parts)
    (k : SameBut parts (hookTaken l h s) t) : SameBut parts s t := SameBut.trans (SameBut.mono sub hookTaken_sameBut) k

end

/-- Settles O16: outside Isolated service the line joins and the arbiter runs for it alone. -/
theorem offHookJoins : Obligations.OffHookJoins := by
  refine ⟨fun s l b idle on service absent none state inClass admits lower => ?_, fun s l idle on =>
    ⟨fun service none waits => ?_, fun isolated => ?_⟩⟩
  · have eligible : (hookTaken l .offHook s).lowestEligible (s.classOf l) = some b := by
      refine find_allBearers ?_ fun c lt => ?_
      · change (decide ((s.bearer b).state = .idle) && inSet (s.tables.classMap.set (s.classOf l)) b
          && s.supply.level.admits (s.classOf l) && !s.monitor.isolated) = true
        rw [state, inClass, admits, service]
        rfl
      · change (decide ((s.bearer c).state = .idle) && inSet (s.tables.classMap.set (s.classOf l)) c
          && s.supply.level.admits (s.classOf l) && !s.monitor.isolated) = false
        rcases lower c lt with e | e
        · rw [decide_eq_false e]
          rfl
        · rw [e, Bool.and_false]
          rfl
    have eq := hookDecision_idle idle on
    rw [offHookHandling_granted (s := hookTaken l .offHook s) idle service eligible absent none] at eq
    refine ⟨event (hookDecision l) s, rfl, SameBut.event ?_ (by decide), OtherLines.event ?_, OtherBearers.event ?_,
      SameLink.event ?_, ?_, ?_, ?_, ?_, ?_, ?_, ?_, ?_⟩
    · rw [eq]
      exact SameBut.ofTaken (l := l) (h := .offHook) (by decide) (by simp [sameBut_iff])
    · rw [eq]
      exact (hookTaken_otherLines).trans fun m ne =>
        ⟨rfl, rfl, by rw [set_get, if_neg ne], by rw [set_get, if_neg ne], by rw [set_get, if_neg ne]⟩
    · rw [eq]
      exact fun c ne => bearer_set_ne (s := hookTaken l .offHook s) ne
    · rw [eq]
      exact ⟨rfl, rfl⟩
    · rw [event_bearers, eq]
      rfl
    · rw [event_sup, eq]
      exact hookTaken_sup
    · rw [event_brk, eq, set_get, if_pos rfl]
    · rw [event_feed, eq, set_get, if_pos rfl]
      rfl
    · rw [event_call, eq, set_get, if_pos rfl]
      rfl
    · rw [event_bearer, eq, State.bearer, set_get, if_pos rfl]
      rfl
    · rw [event_arbiter, eq]
      rfl
    · rw [event_reports, eq]
      rfl
  · have eq := hookDecision_idle idle on
    rw [offHookHandling_waits (s := hookTaken l .offHook s) idle service none waits] at eq
    refine ⟨event (hookDecision l) s, rfl, SameBut.event ?_ (by decide), OtherLines.event ?_, ?_, ?_, ?_, ?_⟩
    · rw [eq]
      exact SameBut.ofTaken (l := l) (h := .offHook) (by decide) (by simp [sameBut_iff, State.joining])
    · rw [eq]
      exact (hookTaken_otherLines).trans fun m ne => ⟨rfl, rfl, by rw [State.joining, set_get, if_neg ne],
        by rw [State.joining, set_get, if_neg ne], by rw [State.joining, set_get, if_neg ne]⟩
    · rw [event_sup, eq]
      exact hookTaken_sup
    · rw [event_feed, eq, State.joining, set_get, if_pos rfl]
      rfl
    · rw [event_call, eq, State.joining, set_get, if_pos rfl]
      rfl
    · rw [event_arbiter, eq]
      rfl
  · have off : (hookTaken l .offHook s).sup[l].hook = .offHook := by rw [hookTaken_sup]
    have handled : offHookHandling l (hookTaken l .offHook s) = enterLockout l .isolated (hookTaken l .offHook s) :=
      if_pos isolated
    have eq := hookDecision_idle idle on
    rw [handled, enterLockout_frame_unrung (by change s.call[l].state ≠ _; rw [idle]; nofun)] at eq
    refine ⟨event (hookDecision l) s, rfl, SameBut.event ?_ (by decide), OtherLines.event ?_, ?_, ?_, ?_, ?_⟩
    · rw [eq]
      exact SameBut.ofTaken (l := l) (h := .offHook) (by decide) (by simp [sameBut_iff])
    · rw [eq]
      exact (hookTaken_otherLines).trans fun m ne =>
        ⟨rfl, rfl, by rw [set_get, if_neg ne], by rw [set_get, if_neg ne], by rw [set_get, if_neg ne]⟩
    · rw [event_sup, eq]
      exact hookTaken_sup
    · rw [event_feed, eq, set_get, if_pos rfl, State.lockoutFeed, off]
      rfl
    · rw [event_call, eq, set_get, if_pos rfl, State.lockoutCall, off]
      rfl
    · rw [event_arbiter, eq]
      rfl

end Sys2Proof.Machine
end

section
/-! Chapter 6: preemption and the Priority reconsideration. -/

namespace Sys2Proof.Machine

section
variable {s t : State} {l m p v : Line} {b c : Bearer}

/-- The arrival list with line `p` seizing and line `v` gone. -/
def preemptedArrivals (p v : Line) (arrivals : List Arrival) : List Arrival :=
  (arrivals.map fun a => if a.line = p then { a with standing := .seizing } else a).filter fun a => a.line ≠ v

theorem preemptedArrivals_eq {arrivals : List Arrival} : preemptedArrivals p v arrivals =
    (arrivals.filter fun a => a.line ≠ v).map fun a => if a.line = p then { a with standing := .seizing } else a := by
  unfold preemptedArrivals
  rw [List.filter_map]
  refine congrArg _ (List.filter_congr fun a _ => ?_)
  simp only [Function.comp]
  split <;> rfl

/-- A handover of the bearer of a Connected line to a Waiting one. -/
theorem startHandover_frame (line : (s.bearer b).line = some v) (connected : s.call[v].state = .connected)
    (waiting : s.call[p].state = .waiting) : startHandover p b s = { s with
      call := (s.call.set v (s.lockoutCall v .preempted)).set p
        { state := .seizing, bearer := some b, early := s.call[p].early, lost := s.call[p].lost }
      brk := s.brk.set v {}
      feed := s.feed.set v (s.lockoutFeed v)
      bearers := { s.bearers with
        recs := s.bearers.recs.set b { s.bearer b with state := .handover, line := some p, formerLine := some v }
        connection := s.bearers.connection.filter fun c => c ≠ b }
      arbiter := { s.arbiter with
        arrivals := preemptedArrivals p v s.arbiter.arrivals
        handover := some { bearer := b, line := p, left := 500 } }
      reports := s.reports.append true { kind := .preempted, line := some v, bearer := some b } } := by
  have ne : p ≠ v := by
    rintro rfl
    exact nomatch connected.symm.trans waiting
  have locked := enterLockout_frame_unrung (s := s.report true { kind := .preempted, line := some v, bearer := some b })
    (l := v) (x := .preempted) (by change s.call[v].state ≠ _; rw [connected]; nofun)
  have given : (s.bearer b).give .handover p =
      { s.bearer b with state := .handover, line := some p, formerLine := some v } := give_of_some line ne.symm
  unfold startHandover
  rw [line]
  dsimp only
  rw [locked]
  generalize hw : setStanding p .seizing (disconnect b (giveBearer b .handover p _)) = w
  have call : w.call[p] = s.call[p] := by
    rw [← hw]
    change (s.call.set v _)[p] = _
    rw [set_get, if_neg ne]
  have timed : (w.call[p].state.timed && CallState.seizing.timed) = true := by rw [call, waiting]; rfl
  have record : CallRecord.entering { state := .seizing, bearer := some b } w.call[p] =
      { state := .seizing, bearer := some b, early := s.call[p].early, lost := s.call[p].lost } := by
    rw [call]
    rfl
  rw [enter_frame_unrung (by rw [call, waiting]; nofun), record]
  simp only [timed]
  rw [← hw, preemptedArrivals_eq, ← given]
  rfl

/-- What a handover does to the state, in the words of the statements. -/
structure Preempts (p v : Line) (b : Bearer) (s t : State) : Prop where
  frame : SameBut [.brk, .feed, .call, .bearers, .arbiter, .reports] s t
  calls : ∀ m : Line, m ≠ p → m ≠ v → t.call[m] = s.call[m]
  lines : ∀ m : Line, m ≠ v → t.feed[m] = s.feed[m] ∧ t.brk[m] = s.brk[m]
  bearers : OtherBearers b s t
  link : SameLink s t
  rest : t.brk[v] = {}
  off : s.sup[v].hook = .offHook → t.call[v] = s.lockedOut .preempted ∧ t.feed[v] = s.feed[v].callTarget .active
  on : s.sup[v].hook = .onHook → t.call[v] = { state := .idle } ∧
    t.feed[v] = (s.feed[v].callTarget .active).callTarget .standby
  reports : t.reports = s.reports.append true { kind := .preempted, line := some v, bearer := some b }
  bearer : t.bearer b = { s.bearer b with state := .handover, line := some p, formerLine := some v }
  connection : t.bearers.connection = s.bearers.connection.filter (fun c => c ≠ b)
  call : t.call[p] = { state := .seizing, bearer := some b, early := s.call[p].early, lost := s.call[p].lost }
  arbiter : t.arbiter = { s.arbiter with
    arrivals := preemptedArrivals p v s.arbiter.arrivals, handover := some { bearer := b, line := p, left := 500 } }

theorem startHandover_preempts (line : (s.bearer b).line = some v) (connected : s.call[v].state = .connected)
    (waiting : s.call[p].state = .waiting) : Preempts p v b s (startHandover p b s) := by
  have ne : v ≠ p := by
    rintro rfl
    exact nomatch connected.symm.trans waiting
  rw [startHandover_frame line connected waiting]
  refine ⟨by simp [sameBut_iff], fun m notP notV => ?_, fun m notV => ?_, fun c other => bearer_set_ne other, ⟨rfl, rfl⟩,
    ?_, fun off => ?_, fun on => ?_, rfl, ?_, rfl, ?_, rfl⟩
  · rw [set_get, if_neg notP, set_get, if_neg notV]
  · rw [set_get, if_neg notV, set_get, if_neg notV]
    exact ⟨rfl, rfl⟩
  · rw [set_get, if_pos rfl]
  · rw [set_get, if_neg ne, set_get, if_pos rfl, set_get, if_pos rfl, State.lockoutCall, State.lockoutFeed, off]
    exact ⟨rfl, rfl⟩
  · rw [set_get, if_neg ne, set_get, if_pos rfl, set_get, if_pos rfl, State.lockoutCall, State.lockoutFeed, on]
    exact ⟨rfl, rfl⟩
  · rw [State.bearer, set_get, if_pos rfl]
  · rw [set_get, if_pos rfl]

theorem priorityStep_takes (none : s.arbiter.handover = none) (victim : s.victim = some b) :
    priorityStep p s = startHandover p b s := by
  unfold priorityStep
  rw [none, victim]

end

/-- Settles O17: the line waits for a moment, and the Priority step hands it the victim's bearer. -/
theorem priorityLinePreempts : Obligations.PriorityLinePreempts := by
  intro s p v b older younger idle on service priority none free connection _ spared line preemptible cls connected joined
  have ne : v ≠ p := by
    rintro rfl
    exact nomatch connected.symm.trans idle
  generalize hw : (hookTaken p .offHook s).joining p = w
  have waiting : w.call[p] = { state := .waiting, path := .tone .wait, early := s.call[p].early, lost := s.call[p].lost
                               timer := some { kind := .wait, left := 1000 * s.tables.timers.wait.toNat } } := by
    rw [← hw, State.joining, set_get, if_pos rfl]
    rfl
  have calls {m : Line} (other : m ≠ p) : w.call[m] = s.call[m] := by
    rw [← hw, State.joining, set_get, if_neg other]
    rfl
  have feeds {m : Line} (other : m ≠ p) : w.feed[m] = s.feed[m] := by
    rw [← hw, State.joining, set_get, if_neg other]
    rfl
  have brks {m : Line} (other : m ≠ p) : w.brk[m] = s.brk[m] := by
    rw [← hw, State.joining, set_get, if_neg other]
    rfl
  have sups {m : Line} (other : m ≠ p) : w.sup[m] = s.sup[m] := by
    rw [← hw]
    exact (hookTaken_otherLines m other).2.1
  have arrivals : w.arbiter.arrivals = joined := by
    rw [← hw, State.joining]
    change s.arbiter.arrivals ++ [{ line := p, cls := s.classOf p, standing := .waiting }] = _
    rw [priority]
  have victim : w.victim = some b := by
    rw [← hw]
    exact victim_first (s := (hookTaken p .offHook s).joining p) connection spared line preemptible cls
  have eq : hookDecision p s = startHandover p b w := by
    rw [hookDecision_idle idle on, offHookHandling_eq (by exact idle) (by exact service), hw]
    have noBearer : (hookTaken p .offHook s).lowestEligible ((hookTaken p .offHook s).classOf p) = .none := by
      change (hookTaken p .offHook s).lowestEligible (s.classOf p) = .none
      rw [priority]
      exact lowestEligible_none none
    rw [noBearer]
    have handover : w.arbiter.handover = .none := by
      rw [← hw]
      exact free
    exact (if_pos priority).trans (priorityStep_takes handover victim)
  have does : Preempts p v b w (startHandover p b w) :=
    startHandover_preempts (by rw [← hw]; exact line) (by rw [calls ne, connected]) (by rw [waiting])
  have taken : SameBut [.sup, .quietRun, .brk, .feed, .call, .arbiter] s w := by
    rw [← hw]
    exact SameBut.ofTaken (l := p) (h := .offHook) (by decide) (by simp [sameBut_iff, State.joining])
  have bearers : w.bearers = s.bearers := taken .bearers (by decide)
  have reports : w.reports = s.reports := taken .reports (by decide)
  have tables : w.tables = s.tables := taken .tables (by decide)
  have sup : (startHandover p b w).sup = w.sup := does.frame .sup (by decide)
  have lockedOut : w.lockedOut .preempted = s.lockedOut .preempted := by rw [State.lockedOut, tables]; rfl
  refine ⟨event (hookDecision p) s, rfl, SameBut.event ?_ (by decide), fun m notP notV => ?_, fun m notP => ?_,
    OtherBearers.event ?_, SameLink.event ?_, ?_, ?_, ?_, fun off => ?_, fun onHook => ?_, ?_, ?_, ?_, ?_, ?_, ?_⟩
  · rw [eq]
    exact SameBut.then (SameBut.then (.refl _ s) taken (by decide)) does.frame (by decide)
  · obtain ⟨feed, brk⟩ := does.lines m notV
    rw [event_call, event_feed, event_brk, eq, does.calls m notP notV, feed, brk, calls notP, feeds notP, brks notP]
    exact ⟨rfl, rfl, rfl⟩
  · rw [event_sup, eq, sup, sups notP]
  · rw [eq]
    exact OtherBearers.trans (.ofSameBut taken (by decide)) does.bearers
  · rw [eq]
    obtain ⟨up, count⟩ := does.link
    exact ⟨up.trans (by rw [bearers]), count.trans (by rw [bearers])⟩
  · rw [event_sup, eq, sup, ← hw]
    exact hookTaken_sup
  · rw [event_brk, eq, (does.lines p ne.symm).2, ← hw, State.joining, set_get, if_pos rfl]
  · rw [event_brk, eq, does.rest]
  · obtain ⟨call, feed⟩ := does.off (by rw [sups ne, off])
    rw [event_call, event_feed, eq, call, feed, lockedOut, feeds ne]
    exact ⟨rfl, rfl⟩
  · obtain ⟨call, feed⟩ := does.on (by rw [sups ne, onHook])
    rw [event_call, event_feed, eq, call, feed, feeds ne]
    exact ⟨rfl, rfl⟩
  · rw [event_reports, eq, does.reports, reports]
  · rw [event_bearer, eq, does.bearer, State.bearer, bearers]
    rfl
  · rw [event_bearers, eq, does.connection, bearers]
  · rw [event_call, eq, does.call, waiting]
  · rw [event_feed, eq, (does.lines p ne.symm).1, ← hw, State.joining, set_get, if_pos rfl]
    rfl
  · rw [event_arbiter, eq, does.arbiter, arrivals, ← hw]
    rfl

end Sys2Proof.Machine
end

section
/-! Chapter 6: the end of a handover, and who is served in turn. -/

namespace Sys2Proof.Machine

section
variable {s t : State} {l m p v : Line} {b c : Bearer} {k : Machine.Class}

/-! ## Waiters in the order of their arrival -/

theorem waits_eq (k : Machine.Class) :
    (fun a : Arrival => a.waits k) = fun a => decide (a.standing = .waiting ∧ a.cls = k) := by
  funext a
  rw [Bool.decide_and]
  rfl

theorem grantBearer_arrivals : (grantBearer l b s).arbiter.arrivals =
    s.arbiter.arrivals.map fun a => if a.line = l then { a with standing := .seizing } else a := by
  unfold grantBearer
  dsimp only
  change (enter l _ (setStanding l .seizing (giveBearer b .held l s))).arbiter.arrivals = _
  rw [enter_arrivals]
  rfl

/-- Once the first waiter seizes, the waiters are those after it. -/
theorem waiters_after {arrivals rest : List Arrival} {a : Arrival} (once : (arrivals.map Arrival.line).Nodup)
    (waiters : arrivals.filter (fun x => x.waits k) = a :: rest) :
    (arrivals.map fun x => if x.line = a.line then { x with standing := .seizing } else x).filter (fun x => x.waits k) =
      rest := by
  have lines : ((a :: rest).map Arrival.line).Nodup := by
    rw [← waiters]
    exact once.sublist (List.filter_sublist.map _)
  have others : ∀ x ∈ rest, x.line ≠ a.line := fun x mem same => by
    have fresh := (List.nodup_cons.mp lines).1
    exact fresh (same ▸ List.mem_map_of_mem mem)
  have still (x : Arrival) : (Arrival.waits (if x.line = a.line then { x with standing := .seizing } else x) k) =
      (decide (x.line ≠ a.line) && x.waits k) := by
    split
    · next same => simp [Arrival.waits, same]
    · next other => simp [other]
  rw [List.filter_map, show ((fun x : Arrival => x.waits k) ∘ fun x => if x.line = a.line then
    { x with standing := .seizing } else x) = fun x => decide (x.line ≠ a.line) && x.waits k from funext still,
    ← List.filter_filter, waiters]
  have gone : (a :: rest).filter (fun x => decide (x.line ≠ a.line)) = rest := by
    rw [List.filter_cons_of_neg (by simp), List.filter_eq_self.mpr fun x mem => by simpa using others x mem]
  rw [gone]
  exact (List.map_congr_left fun x mem => if_neg (others x mem)).trans (List.map_id rest)

/-! ## The Priority reconsideration -/

/-- The first Priority line in the wait list. -/
def State.firstWaiter (s : State) (k : Machine.Class) : Option Line :=
  (s.arbiter.arrivals.find? fun a => a.waits k).map Arrival.line

/-- The waiters begin with the first one. -/
theorem waiters_of_first (first : s.firstWaiter k = some p) :
    ∃ a rest, s.arbiter.arrivals.filter (fun x => x.waits k) = a :: rest ∧ a.line = p := by
  obtain ⟨a, found, line⟩ := Option.map_eq_some_iff.mp first
  have head : (s.arbiter.arrivals.filter fun x => x.waits k).head? = some a := by rw [List.head?_filter, found]
  obtain ⟨rest, list⟩ := List.head?_eq_some_iff.mp head
  exact ⟨a, rest, list, line⟩

theorem reconsider_none (first : s.firstWaiter .priority = none) : reconsider s = s :=
  reconsider_idle fun a mem => by
    simpa using List.find?_eq_none.mp (Option.map_eq_none_iff.mp first) a mem

/-- With a bearer for it the first Priority waiter is granted it, and the reconsideration goes on. -/
theorem reconsider_grants (once : (s.arbiter.arrivals.map Arrival.line).Nodup)
    (first : s.firstWaiter .priority = some p) (eligible : s.lowestEligible .priority = some b) :
    reconsider s = reconsider (grantBearer p b s) := by
  obtain ⟨a, rest, waiters, rfl⟩ := waiters_of_first first
  unfold reconsider
  rw [waiters, grantBearer_arrivals, waiters_after once waiters]
  change reconsiderWaiters (a.line :: rest.map Arrival.line) s = _
  rw [reconsiderWaiters, eligible]

/-- Without one it takes the Priority step. -/
theorem reconsider_steps (first : s.firstWaiter .priority = some p) (none : ∀ c, s.eligible .priority c = false) :
    reconsider s = priorityStep p s := by
  obtain ⟨a, rest, waiters, rfl⟩ := waiters_of_first first
  unfold reconsider
  rw [waiters]
  change reconsiderWaiters (a.line :: rest.map Arrival.line) s = _
  rw [reconsiderWaiters, lowestEligible_none none]

/-! ## The end of a handover -/

theorem give_of_same {r : BearerRecord} {st : BearerState} (same : r.line = some l) :
    r.give st l = { r with state := st } := by
  unfold BearerRecord.give BearerRecord.withLine
  dsimp only
  rw [if_pos same, same]

theorem handoverExpiry_eq {left : Nat} (record : s.arbiter.handover = some { bearer := b, line := p, left := left })
    (seizing : s.call[p].state = .seizing) (line : (s.bearer b).line = some p) :
    handoverExpiry s = reconsider { s with
      call := s.call.set p (s.seizingCall p b)
      bearers := { s.bearers with recs := s.bearers.recs.set b { s.bearer b with state := .held } }
      arbiter := { s.arbiter with handover := none }
      reports := s.reports.append (s.urgentFor p)
        { kind := .seize, line := some p, bearer := some b, value := some (s.classOf p).code } } := by
  have now : (giveBearer b .held p s).call[p].state = .seizing := seizing
  have timed : ((giveBearer b .held p s).call[p].state.timed &&
      (seizingRecord b (giveBearer b .held p s)).state.timed) = true := by rw [now]; rfl
  have given : (s.bearer b).give .held p = { s.bearer b with state := .held } := give_of_same line
  unfold handoverExpiry
  rw [record]
  dsimp only
  rw [enter_frame_unrung (by rw [now]; nofun), seizingRecord_entering]
  simp only [timed]
  rw [← given]
  rfl

end

/-- Settles O18: the bearer of the handover becomes Held, and the waiters are taken up from the first. -/
theorem handoverEndsInSeize : Obligations.HandoverEndsInSeize := by
  refine ⟨fun s p b left record seizing _ _ line => ?_, fun s once => ?_⟩
  · intro v
    have eq : handoverExpiry s = reconsider v := handoverExpiry_eq record seizing line
    refine ⟨event handoverExpiry s, rfl, sameBut_event_of eq, fun none => sameBut_event_of ?_⟩
    rw [eq]
    refine reconsider_idle fun a mem => ?_
    simpa [Arrival.waits] using none a mem
  · intro first
    have first_eq : first = s.firstWaiter .priority := by rw [State.firstWaiter, waits_eq]
    rw [first_eq]
    refine ⟨reconsider_none, fun p isFirst => ⟨fun b yes lower => ?_, fun free => ⟨fun flight => ?_, fun spared => ?_, ?_⟩⟩⟩
    · exact reconsider_grants once isFirst (find_allBearers yes lower)
    · rw [reconsider_steps isFirst free, priorityStep_idle (.inl flight)]
    · rw [reconsider_steps isFirst free, priorityStep_idle (.inr spared)]
    · intro older younger b v none connection _ spared line preemptible cls connected waiting
      have eq : reconsider s = startHandover p b s := by
        rw [reconsider_steps isFirst free]
        exact priorityStep_takes none (victim_first connection spared line preemptible cls)
      rw [eq]
      obtain ⟨frame, calls, lines, bearers, link, rest, off, on, reports, bearer, conn, call, arbiter⟩ :=
        startHandover_preempts line connected waiting
      exact ⟨frame, calls, lines, bearers, link, rest, off, on, reports, bearer, conn, call, arbiter⟩

end Sys2Proof.Machine
end

section
/-! Requests for the unit: their operands, their replies, and those that are refused. -/

namespace Sys2Proof.Machine

section
variable {s t v : State} {l m : Line} {b c : Bearer} {x y z : Byte} {r : Reply} {q : Request} {allowed : Bool}

/-! ## Operands -/

theorem lineOfByte_of (h : l.val = x.toNat) : lineOfByte x = some l := by
  have lt : x.toNat < 32 := h ▸ l.isLt
  rw [lineOfByte, dif_pos lt]
  exact congrArg some (Fin.ext h.symm)

theorem bearerOfByte_of (h : b.val = x.toNat) : bearerOfByte x = some b := by
  have lt : x.toNat < 12 := h ▸ b.isLt
  rw [bearerOfByte, dif_pos lt]
  exact congrArg some (Fin.ext h.symm)

theorem toNat_lineByte (l : Line) : (BitVec.ofNat 8 l.val).toNat = l.val :=
  Nat.mod_eq_of_lt (Nat.lt_trans l.isLt (by decide))

theorem toNat_bearerByte (b : Bearer) : (BitVec.ofNat 8 b.val).toNat = b.val :=
  Nat.mod_eq_of_lt (Nat.lt_trans b.isLt (by decide))

theorem onLine_of {f : Line → Request} (h : l.val = x.toNat) : onLine x f = f l := by
  rw [onLine, lineOfByte_of h]

theorem onLine_ofNat {f : Line → Request} : onLine (BitVec.ofNat 8 l.val) f = f l := onLine_of (toNat_lineByte l).symm

theorem onLine_out {f : Line → Request} (h : 32 ≤ x.toNat) : onLine x f = refuseWith .outOfRange := by
  rw [onLine, lineOfByte, dif_neg (by omega)]

theorem onBearer_of {f : Bearer → Request} (h : b.val = x.toNat) : onBearer x f = f b := by
  rw [onBearer, bearerOfByte_of h]

theorem onBearer_ofNat {f : Bearer → Request} : onBearer (BitVec.ofNat 8 b.val) f = f b :=
  onBearer_of (toNat_bearerByte b).symm

theorem onBearer_out {f : Bearer → Request} (h : 12 ≤ x.toNat) : onBearer x f = refuseWith .outOfRange := by
  rw [onBearer, bearerOfByte, dif_neg (by omega)]

/-! ## Replies -/

theorem atRequest_bus (s : State) : s.atRequest.bus =
    { s.bus with assembly := {}, gap := none, reception := .none, pending := .none, lowTimer := none } := by
  rw [State.atRequest, reloadMonitor_frame]
  rfl

@[simp] theorem atRequest_entries : s.atRequest.entries = s.entries := atRequest_sameBut s .entries (by decide)
@[simp] theorem atRequest_tables : s.atRequest.tables = s.tables := atRequest_sameBut s .tables (by decide)
@[simp] theorem atRequest_sup : s.atRequest.sup = s.sup := atRequest_sameBut s .sup (by decide)
@[simp] theorem atRequest_brk : s.atRequest.brk = s.brk := atRequest_sameBut s .brk (by decide)
@[simp] theorem atRequest_feed : s.atRequest.feed = s.feed := atRequest_sameBut s .feed (by decide)
@[simp] theorem atRequest_call : s.atRequest.call = s.call := atRequest_sameBut s .call (by decide)
@[simp] theorem atRequest_bearers : s.atRequest.bearers = s.bearers := atRequest_sameBut s .bearers (by decide)
@[simp] theorem atRequest_bearer : s.atRequest.bearer b = s.bearer b := by rw [State.bearer, atRequest_bearers]; rfl
@[simp] theorem atRequest_arbiter : s.atRequest.arbiter = s.arbiter := atRequest_sameBut s .arbiter (by decide)
@[simp] theorem atRequest_ringer : s.atRequest.ringer = s.ringer := atRequest_sameBut s .ringer (by decide)
@[simp] theorem atRequest_test : s.atRequest.test = s.test := atRequest_sameBut s .test (by decide)
@[simp] theorem atRequest_supply : s.atRequest.supply = s.supply := atRequest_sameBut s .supply (by decide)

theorem atRequest_otherLines : OtherLines l s s.atRequest := .ofSameBut (atRequest_sameBut s) (by decide)

theorem atRequest_otherBearers : OtherBearers b s s.atRequest := .ofSameBut (atRequest_sameBut s) (by decide)

/-- A frame for the unit leaves what its request does, and the reply. -/
theorem frame_replies (h : s.receives = true) (answer : q s.atRequest = (v, r)) (bus : v.bus = s.atRequest.bus) :
    SameBut [.bus] v (takeFrame .unit allowed q s) ∧ Replied r s (takeFrame .unit allowed q s) := by
  rw [takeFrame_unit allowed q s h, answer]
  refine ⟨setBus_sameBut, ?_⟩
  change { v.bus with pending := .waiting r 0 } = _
  rw [bus, atRequest_bus]

/-- The same for a frame that is an event. -/
theorem unit_replies (h : s.receives = true) (answer : q s.atRequest = (v, r)) (bus : v.bus = s.atRequest.bus) :
    SameBut [.bus, .quietRun] v (event (takeFrame .unit allowed q) s) ∧
      Replied r s (event (takeFrame .unit allowed q) s) := by
  obtain ⟨frame, replied⟩ := frame_replies (allowed := allowed) h answer bus
  refine ⟨SameBut.then (SameBut.mono (by decide) frame) (event_sameBut _ s) (by decide), ?_⟩
  rw [Replied, event_bus]
  exact replied

/-- A request that does nothing but reply. -/
theorem unit_answers (h : s.receives = true) (answer : q s.atRequest = (s.atRequest, r)) :
    SameBut [.bus, .quietRun] s.atRequest (event (takeFrame .unit allowed q) s) ∧
      Replied r s (event (takeFrame .unit allowed q) s) := unit_replies h answer rfl

theorem frame_answers (h : s.receives = true) (answer : q s.atRequest = (s.atRequest, r)) :
    SameBut [.bus] s.atRequest (takeFrame .unit allowed q s) ∧ Replied r s (takeFrame .unit allowed q s) :=
  frame_replies h answer rfl

end

/-! ## Refusals -/

section
variable {s : State} {c : Instr} {q : Request} {allowed : Bool}

/-- The command is refused OutOfRange and changes nothing. -/
def RefusedOutOfRange (s : State) (c : Instr) : Prop :=
  ∃ t, exec c s = .next t ∧ SameBut [.bus, .quietRun] s.atRequest t ∧ Replied (.refused .outOfRange) s t

theorem RefusedOutOfRange.ofEvent (h : s.receives = true) (ran : exec c s = .next (event (takeFrame .unit allowed q) s))
    (refuses : q s.atRequest = (s.atRequest, .refused .outOfRange)) : RefusedOutOfRange s c :=
  ⟨_, ran, unit_answers h refuses⟩

theorem RefusedOutOfRange.ofFrame (h : s.receives = true) (ran : exec c s = .next (takeFrame .unit allowed q s))
    (refuses : q s.atRequest = (s.atRequest, .refused .outOfRange)) : RefusedOutOfRange s c := by
  obtain ⟨frame, replied⟩ := frame_answers (allowed := allowed) h refuses
  exact ⟨_, ran, SameBut.mono (by decide) frame, replied⟩

theorem onLine_refuses {x : Byte} {f : Line → Request} (h : 32 ≤ x.toNat) :
    onLine x f s = (s, .refused .outOfRange) := by
  rw [onLine_out h]
  rfl

theorem onBearer_refuses {x : Byte} {f : Bearer → Request} (h : 12 ≤ x.toNat) :
    onBearer x f s = (s, .refused .outOfRange) := by
  rw [onBearer_out h]
  rfl

/-- A request that names a line and a bearer refuses either out of range. -/
theorem onBoth_refuses {x y : Byte} {f : Line → Bearer → Request} (h : 32 ≤ x.toNat ∨ 12 ≤ y.toNat) :
    onLine x (fun l => onBearer y (f l)) s = (s, .refused .outOfRange) := by
  by_cases out : 32 ≤ x.toNat
  · exact onLine_refuses out
  · rw [onLine_of (l := ⟨x.toNat, by omega⟩) rfl]
    exact onBearer_refuses (h.resolve_left out)

theorem reqSetLine_refuses {line e p c r : Byte} (h : 1 < e.toNat ∨ 7 < p.toNat ∨ 3 < c.toNat ∨ 1 < r.toNat) :
    reqSetLine line e p c r s = (s, .refused .outOfRange) := by
  by_cases out : 32 ≤ line.toNat
  · exact onLine_refuses out
  · rw [reqSetLine, onLine_of (l := ⟨line.toNat, by omega⟩) rfl]
    split
    · next e' p' c' r' yes profile cls other =>
      exfalso
      have le (b : Byte) (k : Bool) (some : yesNo b = .some k) : b.toNat ≤ 1 := by
        unfold yesNo at some
        split_ifs at some <;> omega
      have profiled : p.toNat < 8 := by
        unfold profileOfByte at profile
        split_ifs at profile
        assumption
      have classed : c.toNat ≤ 3 := by
        by_contra big
        have none : classOfCode c.toNat = none := by
          unfold classOfCode
          split <;> first | omega | rfl
        exact nomatch none.symm.trans cls
      have first := le e _ yes
      have last := le r _ other
      omega
    · rfl

theorem reqSetProfile_refuses {i : Byte} {p : Profile} (h : 7 < i.toNat ∨ p.inRange = false) :
    reqSetProfile i p s = (s, .refused .outOfRange) := by
  unfold reqSetProfile
  split
  · next small =>
    rw [h.resolve_left (by omega)]
    rfl
  · rfl

end

end Sys2Proof.Machine
end

section
/-! Chapter 4: requests about the link and the bearers; and requests that are refused. -/

namespace Sys2Proof.Machine

/-- Settles O58: every request checks its operands before it changes anything. -/
theorem outOfRangeIsRefused : Obligations.OutOfRangeIsRefused := by
  intro s h
  refine ⟨fun line bearer out => ⟨?_, ?_, ?_⟩, fun line out => ⟨?_, ?_, fun m o => ?_, fun e p c r => ?_⟩,
    fun bearer out => ⟨?_, ?_⟩, fun line e p c r out => ?_, fun i k m fl on off high out => ?_,
    fun a b c e f g i j out => ?_, fun a b c e out => ?_, fun v out => ?_, fun v n out => ?_⟩
  · exact RefusedOutOfRange.ofEvent h rfl (onBoth_refuses out)
  · exact RefusedOutOfRange.ofEvent h rfl (onBoth_refuses out)
  · exact RefusedOutOfRange.ofEvent h rfl (onBoth_refuses out)
  · exact RefusedOutOfRange.ofEvent h rfl (onLine_refuses out)
  · exact RefusedOutOfRange.ofFrame h rfl (onLine_refuses out)
  · exact RefusedOutOfRange.ofEvent h rfl (onLine_refuses out)
  · exact RefusedOutOfRange.ofEvent h rfl (onLine_refuses out)
  · exact RefusedOutOfRange.ofEvent h rfl (onBearer_refuses out)
  · exact RefusedOutOfRange.ofFrame h rfl (onBearer_refuses out)
  · exact RefusedOutOfRange.ofEvent h rfl (reqSetLine_refuses out)
  · refine RefusedOutOfRange.ofEvent h rfl (reqSetProfile_refuses ?_)
    rcases out with big | out
    · exact .inl big
    · refine .inr (Bool.eq_false_iff.mpr fun inRange => ?_)
      simp only [Profile.inRange, Bool.and_eq_true, decide_eq_true_eq] at inRange
      omega
  · refine RefusedOutOfRange.ofEvent h rfl ?_
    have bad : ¬(([a, b, c, e, f, g, i, j] : List Byte).all phaseCode = true) := by
      obtain ⟨x, mem, out⟩ := out
      intro all
      have code := List.all_eq_true.mp all x mem
      simp only [phaseCode, Bool.and_eq_true, decide_eq_true_eq] at code
      omega
    exact if_neg bad
  · refine RefusedOutOfRange.ofEvent h rfl (if_neg fun valid => ?_)
    simp only [validSet, Bool.and_eq_true, decide_eq_true_eq] at valid
    omega
  · refine RefusedOutOfRange.ofEvent h rfl ?_
    have none : attentionOfByte v = none := by rw [attentionOfByte, if_neg (by omega), if_neg (by omega)]
    rw [reqSetAttention, none]
  · have notZero (w : Byte) (is : v = w) : 1 < w.toNat := is ▸ out
    refine ⟨⟨_, rfl, ?_⟩, ⟨_, rfl, ?_⟩⟩
    · have partly : isRestartFull [0x2F, v] = false := by
        refine decide_eq_false fun same => ?_
        exact absurd (notZero 0 (by simpa using same)) (by decide)
      rw [takePayload, partly, if_neg Bool.false_ne_true]
      refine frame_answers h ?_
      have calls : ¬v.toNat = 1 := by omega
      change (if v.toNat = 1 then reqRestartCalls else refuseWith .outOfRange) _ = _
      rw [if_neg calls]
      rfl
    · have partly : isRestartFull [0x30, v, n] = false := decide_eq_false (by simp)
      rw [takePayload, partly, if_neg Bool.false_ne_true]
      refine frame_answers h ?_
      change (if v.toNat = 0 then reqLinkDown else if v.toNat = 1 then reqLinkUp n else refuseWith .outOfRange) _ = _
      rw [if_neg (by omega), if_neg (by omega)]
      rfl

section
variable {s : State} {l : Line} {b : Bearer}

theorem paired_false {x : CallState} {y : BearerState}
    (outside : ¬(s.call[l].state = x ∧ s.call[l].bearer = some b ∧ (s.bearer b).state = y)) :
    s.atRequest.paired l b x y = false := by
  refine Bool.eq_false_iff.mpr fun paired => outside ?_
  have := paired_iff.mp paired
  simpa [-Fin.getElem_fin] using this

theorem judgeLate_eq : judgeLate l b s.atRequest = (s.atRequest,
    if (s.bearer b).line = some l ∨ (s.bearer b).formerLine = some l then .late else .refused .wrongState) := by
  unfold judgeLate
  simp only [atRequest_bearer]
  split <;> rfl

end

/-- Settles O27: outside its pairing every one of the three requests is judged late. -/
theorem lateAnswersChangeNothing : Obligations.LateAnswersChangeNothing := by
  intro s l b h u reply outside line bearer
  have both {f : Line → Bearer → Request} : onLine line (fun l => onBearer bearer (f l)) = f l b :=
    (onLine_ofNat).trans onBearer_ofNat
  refine ⟨fun seizing => ⟨⟨_, rfl, unit_answers h ?_⟩, ⟨_, rfl, unit_answers h ?_⟩⟩,
    fun seizing connected ringing => ⟨_, rfl, unit_answers h ?_⟩⟩
  · rw [reqGrant, both, paired_false seizing]
    exact judgeLate_eq
  · rw [reqRefuse, both, paired_false seizing]
    exact judgeLate_eq
  · rw [reqRelease, both, paired_false seizing, paired_false connected, paired_false ringing]
    exact judgeLate_eq

/-- Settles O31: the checks of Incoming come in their order before any change but the end of Quiet. -/
theorem incomingIsChecked : Obligations.IncomingIsChecked := by
  intro s line bearer ring h u refusedWith
  have refused {c : Cause} (answer : reqIncoming line bearer ring s.atRequest = (endQuiet s.atRequest, .refused c)) :
      refusedWith c := by
    obtain ⟨frame, replied⟩ := unit_replies (allowed := false) h answer rfl
    refine ⟨_, rfl, SameBut.trans (SameBut.mono (by decide) endQuiet_sameBut) frame, event_quiet ?_, replied⟩
    rw [takeFrame_unit _ _ s h, answer]
    rfl
  refine ⟨fun out => refused ?_, fun l b isLine isBearer few => ⟨fun notIdle notWaiting notSeizing => refused ?_,
    fun state notIdle held => refused ?_⟩⟩
  · unfold reqIncoming
    dsimp only
    split
    · next l b isLine isBearer =>
      have small : line.toNat < 32 ∧ bearer.toNat < 12 := by
        constructor
        · by_contra big
          rw [lineOfByte, dif_neg big] at isLine
          exact nomatch isLine
        · by_contra big
          rw [bearerOfByte, dif_neg big] at isBearer
          exact nomatch isBearer
      exact if_pos (by omega)
    · rfl
  all_goals
    unfold reqIncoming
    dsimp only
    rw [lineOfByte_of isLine, bearerOfByte_of isBearer]
    dsimp only
    rw [if_neg (by omega)]
    have call : (endQuiet s.atRequest).call[l] = s.call[l] := by
      change s.atRequest.call[l] = _
      rw [atRequest_call]
    rw [call]
  · split
    · next e => exact absurd e notIdle
    · next e => exact absurd e notWaiting
    · next e => exact absurd e notSeizing
    · rfl
  · have unavailable : (endQuiet s.atRequest).incomingBearer l b = false := by
      have bearer : (endQuiet s.atRequest).bearer b = s.bearer b := atRequest_bearer
      rw [State.incomingBearer, State.yielder, bearer, decide_eq_false notIdle, Bool.false_or]
      split
      · next yields =>
        rcases held yields.1 with none | same
        · rw [none]
          rfl
        · exact absurd same yields.2
      · rfl
    rw [unavailable]
    rcases state with e | e | e <;> rw [e] <;> rfl

end Sys2Proof.Machine
end

section
/-! Chapters 4 and 6: a freed bearer and the wait list; bearer requests. -/

namespace Sys2Proof.Machine

section
variable {s t : State} {l m : Line} {b c : Bearer} {k : Machine.Class}

/-! ## The choice for a freed bearer -/

/-- The oldest waiter at the phase `i`, if its byte names a class. -/
def State.turnAt (s : State) (b : Bearer) (i : Fin 8) : Option Line :=
  (s.phaseClass i).bind fun c => s.oldestEligible c b

theorem turn_succ (i : Fin 8) (n : Nat) : i + Fin.ofNat 8 (n + 1) = i + 1 + Fin.ofNat 8 n := by
  refine Fin.ext ?_
  simp only [Fin.val_add, Fin.ofNat, Fin.val_one]
  omega

theorem turn_zero (i : Fin 8) : i + Fin.ofNat 8 0 = i := by
  refine Fin.ext ?_
  simp only [Fin.val_add, Fin.ofNat]
  omega

/-- The walk ends at the first phase whose turn it is. -/
theorem phaseWalk_at {n j : Nat} {i : Fin 8} (lt : j < n) (before : ∀ a < j, s.turnAt b (i + Fin.ofNat 8 a) = none)
    (here : s.turnAt b (i + Fin.ofNat 8 j) = some l) : phaseWalk s b n i = some (l, i + Fin.ofNat 8 j + 1) := by
  induction n generalizing i j with
  | zero => omega
  | succ n ih =>
    unfold phaseWalk
    change (match s.turnAt b i with
      | some l => some (l, i + 1)
      | none => phaseWalk s b n (i + 1)) = _
    cases j with
    | zero =>
      rw [turn_zero] at here ⊢
      rw [here]
    | succ j =>
      have notYet := before 0 (by omega)
      rw [turn_zero] at notYet
      rw [notYet]
      dsimp only
      rw [turn_succ] at here ⊢
      refine ih (by omega) (fun a less => ?_) here
      rw [← turn_succ]
      exact before (a + 1) (by omega)

/-- No phase has a turn. -/
theorem phaseWalk_none {n : Nat} {i : Fin 8} (no : ∀ a < n, s.turnAt b (i + Fin.ofNat 8 a) = none) :
    phaseWalk s b n i = none := by
  induction n generalizing i with
  | zero => rfl
  | succ n ih =>
    have notHere := no 0 (by omega)
    rw [turn_zero] at notHere
    unfold phaseWalk
    change (match s.turnAt b i with
      | some l => some (l, i + 1)
      | none => phaseWalk s b n (i + 1)) = _
    rw [notHere]
    refine ih fun a less => ?_
    rw [← turn_succ]
    exact no (a + 1) (by omega)

theorem freedRun_priority (oldest : s.oldestEligible .priority b = some l) : freedRun b s = grantBearer l b s := by
  rw [freedRun, oldest]

theorem freedRun_turn {j : Nat} (noPriority : s.oldestEligible .priority b = none) (lt : j < 8)
    (before : ∀ a < j, s.turnAt b (s.arbiter.pointer + Fin.ofNat 8 a) = none)
    (here : s.turnAt b (s.arbiter.pointer + Fin.ofNat 8 j) = some l) : freedRun b s =
      grantBearer l b (s.setArbiter { s.arbiter with pointer := s.arbiter.pointer + Fin.ofNat 8 j + 1 }) := by
  rw [freedRun, noPriority, phaseWalk_at lt before here]

theorem freedRun_none (noPriority : s.oldestEligible .priority b = none)
    (none : ∀ a < 8, s.turnAt b (s.arbiter.pointer + Fin.ofNat 8 a) = none) : freedRun b s = s := by
  rw [freedRun, noPriority, phaseWalk_none none]

theorem oldestEligible_noWaiters (none : s.noWaiters) : s.oldestEligible k b = .none := by
  unfold State.oldestEligible
  split
  · refine Option.map_eq_none_iff.mpr (List.find?_eq_none.mpr fun a mem => ?_)
    simp [Arrival.waits, none a mem]
  · rfl

/-- Without a waiter a freed bearer stays as it is. -/
theorem freedRun_noWaiters (none : s.noWaiters) : freedRun b s = s := by
  refine freedRun_none (oldestEligible_noWaiters none) fun a _ => ?_
  unfold State.turnAt
  cases s.phaseClass (s.arbiter.pointer + Fin.ofNat 8 a) with
  | none => rfl
  | some c => exact oldestEligible_noWaiters none

theorem handFreed_noWaiters (none : s.noWaiters) : handFreed b s = s := by
  unfold handFreed
  split
  · exact freedRun_noWaiters none
  · rfl

theorem eachFreed_noWaiters {bs : List Bearer} (none : s.noWaiters) : each bs freedRun s = s :=
  each_idle fun _ _ => freedRun_noWaiters none

theorem setBearer_self : s.setBearer b (s.bearer b) = s := by
  have same : s.bearers.recs.set b (s.bearer b) = s.bearers.recs := Vector.set_getElem_self ..
  rw [State.setBearer, State.setBearers, same]

theorem State.noWaiters.congr (h : s.noWaiters) (arrivals : t.arbiter.arrivals = s.arbiter.arrivals) : t.noWaiters := by
  unfold State.noWaiters
  rw [arrivals]
  exact h

theorem State.noWaiters.atRequest (h : s.noWaiters) : s.atRequest.noWaiters := h.congr (by rw [atRequest_arbiter])

end

/-! ## The link and the bearers -/

/-- Settles O22: the three checks of Link State Up, and the table it builds. -/
theorem linkUpBringsBearersIn : Obligations.LinkUpBringsBearersIn := by
  intro s count h u
  have asked : SameBut [.bearers] u (reqLinkUp count u).1 := reqLinkUp_changes u
  obtain ⟨frame, replied⟩ := unit_replies (q := reqLinkUp count) (allowed := false) h (v := (reqLinkUp count u).1)
    (r := (reqLinkUp count u).2) rfl
    (asked .bus (by decide))
  have bearers : (event (takeFrame .unit false (reqLinkUp count)) s).bearers = (reqLinkUp count u).1.bearers :=
    frame .bearers (by decide)
  refine ⟨_, rfl, SameBut.then (SameBut.mono (by decide) asked) frame (by decide), fun out => ?_, fun low high up => ?_,
    fun low high down => ?_⟩
  · have answer : reqLinkUp count u = (u, .refused .outOfRange) := if_pos out
    rw [bearers, answer, atRequest_bearers]
    rw [answer] at replied
    exact ⟨rfl, replied⟩
  · have answer : reqLinkUp count u = (u, .refused .wrongState) := by
      unfold reqLinkUp
      dsimp only
      rw [if_neg (by omega), if_pos (by rw [atRequest_bearers]; exact up)]
    rw [bearers, answer, atRequest_bearers]
    rw [answer] at replied
    exact ⟨rfl, replied⟩
  · have answer : reqLinkUp count u = (u.setBearers { u.bearers with
        linkUp := true, inService := some count.toNat
        recs := tabulate fun b => if b.val < count.toNat then
            { u.bearer b with state := .unchecked, line := none, barPending := false, guard := none }
          else u.bearer b }, .accepted) := by
      unfold reqLinkUp
      dsimp only
      rw [if_neg (by omega), if_neg (by rw [atRequest_bearers, down]; exact Bool.false_ne_true)]
    have connection : u.bearers.connection = s.bearers.connection := congrArg _ (atRequest_bearers (s := s))
    rw [answer] at replied bearers
    refine ⟨replied, by rw [bearers]; rfl, by rw [bearers]; rfl,
      by rw [bearers]; exact connection, fun b => ?_⟩
    have record : (event (takeFrame .unit false (reqLinkUp count)) s).bearer b = if b.val < count.toNat then
        { u.bearer b with state := .unchecked, line := none, barPending := false, guard := none } else u.bearer b := by
      rw [State.bearer, bearers]
      exact tabulate_get ..
    rw [record, atRequest_bearer]
    exact ⟨fun less => if_pos less, fun more => if_neg (by omega)⟩

section
variable {s v : State} {b : Bearer} {r : Reply} {q : Request} {allowed : Bool}

/-- A request that writes one bearer's record. -/
theorem unit_setsBearer {x : BearerRecord} (h : s.receives = true)
    (answer : q s.atRequest = (s.atRequest.setBearer b x, r)) :
    let t := event (takeFrame .unit allowed q) s
    SameBut [.bearers, .bus, .quietRun] s.atRequest t ∧ SameLink s t ∧ OtherBearers b s t ∧
      t.bearers.connection = s.bearers.connection ∧ Replied r s t ∧ t.bearer b = x := by
  obtain ⟨frame, replied⟩ := unit_replies (allowed := allowed) h answer rfl
  have bearers : (event (takeFrame .unit allowed q) s).bearers = (s.atRequest.setBearer b x).bearers :=
    frame .bearers (by decide)
  have link : s.atRequest.bearers.linkUp = s.bearers.linkUp := congrArg _ atRequest_bearers
  have inService : s.atRequest.bearers.inService = s.bearers.inService := congrArg _ atRequest_bearers
  have connection : s.atRequest.bearers.connection = s.bearers.connection := congrArg _ atRequest_bearers
  refine ⟨SameBut.then (SameBut.then (.refl _ _) setBearer_sameBut (by decide)) frame (by decide), ?_, fun c ne => ?_, ?_,
    replied, ?_⟩
  · rw [SameLink, bearers]
    exact ⟨link, inService⟩
  · rw [State.bearer, bearers]
    exact (State.setBearer_get_ne s.atRequest b c x ne).trans atRequest_bearer
  · rw [bearers]
    exact connection
  · rw [State.bearer, bearers]
    exact State.setBearer_get ..

end

/-- Settles O25: Bar and Unbar write the one record they name. -/
theorem barAndUnbar : Obligations.BarAndUnbar := by
  intro s x h u
  refine ⟨fun out => ⟨⟨_, rfl, unit_answers h (onBearer_refuses out)⟩, ⟨_, rfl, unit_answers h (onBearer_refuses out)⟩⟩,
    fun b is absent => ⟨⟨_, rfl, unit_answers h ?_⟩, ⟨_, rfl, unit_answers h ?_⟩⟩, fun b is present => ⟨?_, fun none => ?_⟩⟩
  · rw [reqBar, onBearer_of is]
    dsimp only
    rw [atRequest_bearer, absent]
  · rw [reqUnbar, onBearer_of is]
    dsimp only
    rw [atRequest_bearer, absent]
  · obtain ⟨y, answer, idle, unchecked, barred, busy⟩ : ∃ y, reqBar x u = (u.setBearer b y, .accepted) ∧
        ((s.bearer b).state = .idle → y = { s.bearer b with state := .barred }) ∧
        ((s.bearer b).state = .unchecked → y = { s.bearer b with state := .barred, barPending := false }) ∧
        ((s.bearer b).state = .barred → y = s.bearer b) ∧
        ((s.bearer b).state.busy = true → y = { s.bearer b with barPending := true }) := by
      have same : u.setBearer b (s.bearer b) = u := by
        rw [← atRequest_bearer (s := s)]
        exact setBearer_self
      rw [reqBar, onBearer_of is]
      dsimp only
      rw [atRequest_bearer]
      generalize hst : (s.bearer b).state = st at *
      cases st with
      | absent => exact absurd rfl present
      | idle => exact ⟨_, rfl, fun _ => rfl, nofun, nofun, nofun⟩
      | unchecked => exact ⟨_, rfl, nofun, fun _ => rfl, nofun, nofun⟩
      | barred => exact ⟨s.bearer b, by rw [same], nofun, nofun, fun _ => rfl, nofun⟩
      | _ => exact ⟨_, rfl, nofun, nofun, nofun, fun _ => rfl⟩
    obtain ⟨frame, link, others, connection, replied, record⟩ := unit_setsBearer (allowed := false) h answer
    rw [← record] at idle unchecked barred busy
    exact ⟨_, rfl, frame, link, others, connection, replied, idle, unchecked, barred, busy⟩
  · obtain ⟨y, answer, barred, other⟩ : ∃ y, reqUnbar x u = (u.setBearer b y, .accepted) ∧
        ((s.bearer b).state = .barred → y = { s.bearer b with state := .idle }) ∧
        ((s.bearer b).state ≠ .barred → y = { s.bearer b with barPending := false }) := by
      have stays {y : BearerRecord} : freedRun b (u.setBearer b y) = u.setBearer b y :=
        freedRun_noWaiters (none.atRequest.congr rfl)
      rw [reqUnbar, onBearer_of is]
      dsimp only
      rw [atRequest_bearer]
      generalize hst : (s.bearer b).state = st at *
      cases st with
      | absent => exact absurd rfl present
      | barred => exact ⟨_, by rw [stays], fun _ => rfl, fun k => absurd rfl k⟩
      | _ => exact ⟨_, rfl, nofun, fun _ => rfl⟩
    obtain ⟨frame, link, others, connection, replied, record⟩ := unit_setsBearer (allowed := false) h answer
    rw [← record] at barred other
    exact ⟨_, rfl, frame, link, others, connection, replied, barred, other⟩

/-- Settles O26: the acknowledge frees a Clearing bearer, and the guard's expiry leaves it Unchecked. -/
theorem clearingEnds : Obligations.ClearingEnds := by
  intro s b u
  have named {f : Bearer → Request} : onBearer (BitVec.ofNat 8 b.val) f = f b := onBearer_ofNat
  refine ⟨fun h clearing none => ?_, fun h other => ⟨_, rfl, unit_answers h ?_⟩, fun clearing guard => ?_⟩
  · have answer : reqReleaseAcknowledge (BitVec.ofNat 8 b.val) u = (u.setBearer b (s.bearer b).freed, .accepted) := by
      rw [reqReleaseAcknowledge, named, atRequest_bearer, if_pos clearing, handFreed_noWaiters (s := u.setBearer b (s.bearer b).freed) (none.atRequest.congr rfl)]
    obtain ⟨frame, link, others, connection, replied, record⟩ := unit_setsBearer (allowed := false) h answer
    exact ⟨_, rfl, frame, link, others, connection, replied, congrArg BearerRecord.guard record,
      congrArg BearerRecord.barPending record, congrArg BearerRecord.state record⟩
  · rw [reqReleaseAcknowledge, named, atRequest_bearer, if_neg other]
  · have eq : guardExpiry b s = s.setBearer b { s.bearer b with state := .unchecked, guard := none } :=
      if_pos ⟨clearing, Option.isSome_iff_ne_none.mpr guard⟩
    refine ⟨event (guardExpiry b) s, rfl, SameBut.event (SameBut.then (.refl _ _) guardExpiry_sameBut (by decide))
      (by decide), SameLink.event ?_, OtherBearers.event ?_, ?_, ?_⟩
    · rw [eq]
      exact ⟨rfl, rfl⟩
    · rw [eq]
      exact fun c ne => State.setBearer_get_ne s b c _ ne
    · rw [event_bearers, eq]
      rfl
    · rw [event_bearer, eq, State.setBearer_get]

end Sys2Proof.Machine
end

section
/-! Bearer Check, and the requests that hand a freed bearer to the arbiter. -/

namespace Sys2Proof.Machine

section
variable {s t u v : State} {l m : Line} {b c : Bearer} {bs : List Bearer} {g : Bearer → BearerRecord}

/-! ## Records of several bearers -/

/-- The records of the bearers in `bs` are those of `g`. -/
def State.withBearers (s : State) (g : Bearer → BearerRecord) (bs : List Bearer) : State :=
  bs.foldl (fun v b => v.setBearer b (g b)) s

theorem withBearers_sameBut : SameBut [.bearers] s (s.withBearers g bs) := by
  induction bs generalizing s with
  | nil => exact .refl _ s
  | cons b bs ih => exact SameBut.trans setBearer_sameBut ih

theorem withBearers_link : (s.withBearers g bs).bearers.linkUp = s.bearers.linkUp ∧
    (s.withBearers g bs).bearers.inService = s.bearers.inService ∧
    (s.withBearers g bs).bearers.connection = s.bearers.connection := by
  induction bs generalizing s with
  | nil => exact ⟨rfl, rfl, rfl⟩
  | cons b bs ih => exact ih (s := s.setBearer b (g b))

theorem withBearers_bearer : (s.withBearers g bs).bearer c = if c ∈ bs then g c else s.bearer c := by
  induction bs generalizing s with
  | nil => rw [if_neg List.not_mem_nil]; rfl
  | cons b bs ih =>
    refine (ih (s := s.setBearer b (g b))).trans ?_
    by_cases same : c = b
    · subst same
      rw [State.setBearer_get, ite_self, if_pos List.mem_cons_self]
    · rw [State.setBearer_get_ne s b c _ same]
      simp only [List.mem_cons, same, false_or]

theorem withBearers_congr {f : Bearer → BearerRecord} (same : ∀ b ∈ bs, f b = g b) :
    s.withBearers f bs = s.withBearers g bs := by
  induction bs generalizing s with
  | nil => rfl
  | cons b bs ih =>
    change (s.setBearer b (f b)).withBearers f bs = (s.setBearer b (g b)).withBearers g bs
    rw [same b List.mem_cons_self]
    exact ih fun c mem => same c (List.mem_cons_of_mem _ mem)

/-- Records changed one after the other are changed alike when each is changed once. -/
theorem each_setBearer {h : BearerRecord → BearerRecord} (once : bs.Nodup) (becomes : ∀ b ∈ bs, h (s.bearer b) = g b) :
    each bs (fun b s => s.setBearer b (h (s.bearer b))) s = s.withBearers g bs := by
  induction bs generalizing s with
  | nil => rfl
  | cons b bs ih =>
    obtain ⟨new, once⟩ := List.nodup_cons.mp once
    have first : h (s.bearer b) = g b := becomes b List.mem_cons_self
    change each bs (fun b s => s.setBearer b (h (s.bearer b))) (s.setBearer b (h (s.bearer b))) = _
    rw [first]
    refine ih (s := s.setBearer b (g b)) once fun c mem => ?_
    rw [State.setBearer_get_ne s b c _ fun same => new (same ▸ mem)]
    exact becomes c (List.mem_cons_of_mem _ mem)

theorem checked_nodup {set : Word16} : (s.checked set).Nodup := (List.nodup_finRange 12).filter _

theorem mem_checked {set : Word16} : b ∈ s.checked set ↔ set.getLsbD b = true ∧ (s.bearer b).state = .unchecked := by
  simp [State.checked, allBearers, inSet]

theorem atRequest_checked {set : Word16} : s.atRequest.checked set = s.checked set := by
  simp only [State.checked, atRequest_bearer]

theorem reqBearerCheck_eq {set : Word16} (range : set.toNat < 4096) (up : s.bearers.linkUp = true) :
    reqBearerCheck set s = (each ((s.checked set).filter fun b =>
        decide (((s.withBearers (fun b => (s.bearer b).freed) (s.checked set)).bearer b).state = .idle)) freedRun
      (s.withBearers (fun b => (s.bearer b).freed) (s.checked set)), .data [byteOf (s.checked set).length]) := by
  unfold reqBearerCheck
  rw [if_neg (by simp [validSet, range]), if_neg (by simp [up])]
  dsimp only
  rw [each_setBearer (s := s) (g := fun b => (s.bearer b).freed) checked_nodup fun _ _ => rfl]

end

/-- Settles O24: Bearer Check confirms the records it names. -/
theorem bearerCheckConfirms : Obligations.BearerCheckConfirms := by
  intro s set h u
  refine ⟨_, rfl, fun out => unit_answers h (if_pos (by simp [validSet]; exact out)), fun range down => unit_answers h ?_,
    fun range up none => ?_⟩
  · unfold reqBearerCheck
    rw [if_neg (by simp [validSet, range]), if_pos (by simp [down])]
  · have answer : reqBearerCheck set u =
        (u.withBearers (fun b => (u.bearer b).freed) (s.checked set), .data [byteOf (s.checked set).length]) := by
      have upThen : u.bearers.linkUp = true := (congrArg BearerTable.linkUp atRequest_bearers).trans up
      rw [reqBearerCheck_eq range upThen, atRequest_checked]
      rw [eachFreed_noWaiters (none.atRequest.congr (congrArg Arbiter.arrivals (withBearers_sameBut .arbiter (by decide))))]
    obtain ⟨frame, replied⟩ := unit_replies (allowed := false) h answer (withBearers_sameBut .bus (by decide))
    have bearers : (event (takeFrame .unit false (reqBearerCheck set)) s).bearers =
        (u.withBearers (fun b => (u.bearer b).freed) (s.checked set)).bearers := frame .bearers (by decide)
    obtain ⟨linkUp, inService, connection⟩ :=
      withBearers_link (s := u) (g := fun b => (u.bearer b).freed) (bs := s.checked set)
    have before : u.bearers = s.bearers := atRequest_bearers
    refine ⟨SameBut.then (SameBut.then (.refl _ _) withBearers_sameBut (by decide)) frame (by decide), ⟨?_, ?_⟩, ?_,
      fun b => ?_, replied⟩
    · rw [bearers, linkUp, before]
    · rw [bearers, inService, before]
    · rw [bearers, connection, before]
    · have record : (event (takeFrame .unit false (reqBearerCheck set)) s).bearer b =
          if b ∈ s.checked set then (s.bearer b).freed else s.bearer b := by
        rw [State.bearer, bearers]
        refine withBearers_bearer.trans ?_
        simp only [u, atRequest_bearer]
      rw [record]
      refine ⟨fun inSet unchecked => ?_, fun other => if_neg fun mem => ?_⟩
      · rw [if_pos (mem_checked.mpr ⟨inSet, unchecked⟩)]
        exact ⟨rfl, rfl⟩
      · obtain ⟨inSet, unchecked⟩ := mem_checked.mp mem
        rcases other with outside | state
        · exact absurd (inSet.symm.trans outside) (by decide)
        · exact state unchecked

section
variable {s u v : State} {l : Line} {b : Bearer}

/-! ## Requests that free a bearer -/

theorem freed_clearing (none : (s.bearer b).line = .none) (clear : (s.bearer b).barPending = false) :
    (s.bearer b).freed = { s.bearer b with state := .idle, guard := .none } := by
  simp [BearerRecord.freed, BearerRecord.withLine, none, clear]

theorem freed_unchecked (none : (s.bearer b).line = .none) (clear : (s.bearer b).barPending = false)
    (unguarded : (s.bearer b).guard = .none) : (s.bearer b).freed = { s.bearer b with state := .idle } := by
  rw [freed_clearing none clear, ← unguarded]

theorem freed_of (named : (s.bearer b).line = some l) : (s.bearer b).freed = s.freedRecord b l := by
  simp [BearerRecord.freed, BearerRecord.withLine, State.freedRecord, named]

theorem freedRecord_idle (clear : (s.bearer b).barPending = false) : (s.freedRecord b l).state = .idle := by
  rw [State.freedRecord, clear]
  rfl

theorem handFreed_idle (idle : (s.bearer b).state = .idle) : handFreed b s = freedRun b s := if_pos idle

/-- A freed bearer is handed over after the change of its line, which leaves the bearers as they are. -/
theorem handFreed_freeBearer (named : (s.bearer b).line = some l) (clear : (s.bearer b).barPending = false)
    (bearers : v.bearers = (freeBearer b s).bearers) : handFreed b v = freedRun b v := by
  refine handFreed_idle ?_
  have record : v.bearer b = (s.bearer b).freed := by
    rw [State.bearer, bearers]
    exact State.setBearer_get ..
  rw [record, freed_of named, freedRecord_idle clear]

theorem paired_true {x : CallState} {y : BearerState} (call : s.call[l].state = x) (bearer : s.call[l].bearer = some b)
    (state : (s.bearer b).state = y) : s.paired l b x y = true := by
  rw [State.paired, call, bearer, state]
  simp

theorem paired_other {x : CallState} {y : BearerState} (call : s.call[l].state ≠ x) : s.paired l b x y = false := by
  rw [State.paired, decide_eq_false call]
  rfl

theorem releaseConnected_eq (named : (s.bearer b).line = some l) (clear : (s.bearer b).barPending = false) :
    releaseConnected l b s = freedRun b (match s.sup[l].hook with
      | .offHook => enterLockout l .released (freeBearer b s)
      | .onHook => goIdle l (freeBearer b s)) := by
  unfold releaseConnected
  dsimp only
  have hook : (freeBearer b s).sup[l].hook = s.sup[l].hook := rfl
  rw [hook]
  cases s.sup[l].hook with
  | offHook => exact handFreed_freeBearer named clear enterLockout_bearers
  | onHook => exact handFreed_freeBearer named clear (goIdle_sameBut .bearers (by decide))

theorem refuseSeize_eq (named : (s.bearer b).line = some l) (clear : (s.bearer b).barPending = false) :
    refuseSeize l b s = freedRun b (enterLockout l .congestion (freeBearer b s)) :=
  handFreed_freeBearer named clear enterLockout_bearers

theorem releaseRinging_eq (named : (s.bearer b).line = some l) (clear : (s.bearer b).barPending = false) :
    releaseRinging l b s = freedRun b (goIdle l (freeBearer b s)) :=
  handFreed_freeBearer named clear (goIdle_sameBut .bearers (by decide))

theorem reqRefuse_paired (paired : s.paired l b .seizing .held = true) :
    reqRefuse (BitVec.ofNat 8 l.val) (BitVec.ofNat 8 b.val) s = (refuseSeize l b s, .accepted) := by
  rw [reqRefuse, onLine_ofNat, onBearer_ofNat]
  exact if_pos paired

theorem reqRelease_seizing (paired : s.paired l b .seizing .held = true) :
    reqRelease (BitVec.ofNat 8 l.val) (BitVec.ofNat 8 b.val) s = (refuseSeize l b s, .accepted) := by
  rw [reqRelease, onLine_ofNat, onBearer_ofNat]
  exact if_pos paired

theorem reqRelease_connected (paired : s.paired l b .connected .engaged = true) :
    reqRelease (BitVec.ofNat 8 l.val) (BitVec.ofNat 8 b.val) s = (releaseConnected l b s, .accepted) := by
  have connected : s.call[l].state = .connected := (paired_iff.mp paired).1
  rw [reqRelease, onLine_ofNat, onBearer_ofNat]
  rw [if_neg (by rw [paired_other (by rw [connected]; decide)]; decide), if_pos paired]

theorem reqRelease_ringing (paired : s.paired l b .ringing .reserved = true) :
    reqRelease (BitVec.ofNat 8 l.val) (BitVec.ofNat 8 b.val) s = (releaseRinging l b s, .accepted) := by
  have ringing : s.call[l].state = .ringing := (paired_iff.mp paired).1
  rw [reqRelease, onLine_ofNat, onBearer_ofNat]
  rw [if_neg (by rw [paired_other (by rw [ringing]; decide)]; decide),
    if_neg (by rw [paired_other (by rw [ringing]; decide)]; decide), if_pos paired]

end

/-- The choice for a freed bearer in the terms of R109. -/
theorem freedRun_turns (s : State) (b : Bearer) :
    (∀ l, s.oldestEligible .priority b = some l → freedRun b s = grantBearer l b s) ∧
    (∀ k l, s.oldestEligible .priority b = none → k < 8 →
      (∀ j, j < k → s.turnAt b (s.arbiter.pointer + Fin.ofNat 8 j) = none) →
      s.turnAt b (s.arbiter.pointer + Fin.ofNat 8 k) = some l → freedRun b s =
        grantBearer l b (s.setArbiter { s.arbiter with pointer := s.arbiter.pointer + Fin.ofNat 8 k + 1 })) ∧
    (s.oldestEligible .priority b = none →
      (∀ k, k < 8 → s.turnAt b (s.arbiter.pointer + Fin.ofNat 8 k) = none) → freedRun b s = s) :=
  ⟨fun _ oldest => freedRun_priority oldest,
    fun _ _ noPriority lt before here => freedRun_turn noPriority lt before here,
    fun noPriority none => freedRun_none noPriority none⟩

/-- The oldest waiter of a class that is eligible for a bearer, as R109 says it. -/
theorem oldestEligible_eq (s : State) (b : Bearer) (c : Machine.Class) : s.oldestEligible c b =
    if s.eligible c b = true then
      (s.arbiter.arrivals.find? fun a => decide (a.standing = .waiting ∧ a.cls = c)).map Arrival.line
    else none := by
  have waits : (fun a : Arrival => a.waits c) = fun a => decide (a.standing = .waiting ∧ a.cls = c) :=
    funext fun a => (Bool.decide_and ..).symm
  rw [State.oldestEligible, waits]

/-- The turn of a phase, as R109 says it. -/
theorem turnAt_eq (s : State) (b : Bearer) (i : Fin 8) : s.turnAt b i =
    match classOfCode s.tables.phaseTable[i].toNat with
    | some c => s.oldestEligible c b
    | none => none := by
  rw [State.turnAt, State.phaseClass]
  cases classOfCode s.tables.phaseTable[i].toNat <;> rfl

section
variable {s u v : State} {l : Line} {b : Bearer}

/-- What the exchange ends leaves the state in which the bearer is freed. -/
theorem freeBearer_atRequest (named : (s.bearer b).line = some l) : freeBearer b s.atRequest =
    (s.atRequest.setBearer b (s.freedRecord b l)).setConnection (s.bearers.connection.filter fun x => x ≠ b) := by
  have connection : (s.atRequest.setBearer b (s.freedRecord b l)).bearers.connection = s.bearers.connection :=
    (congrArg BearerTable.connection atRequest_bearers : s.atRequest.bearers.connection = s.bearers.connection)
  rw [freeBearer, atRequest_bearer, freed_of named, disconnect, connection]

theorem atRequest_paired {x : CallState} {y : BearerState} (call : s.call[l].state = x)
    (bearer : s.call[l].bearer = some b) (state : (s.bearer b).state = y) : s.atRequest.paired l b x y = true :=
  paired_true (by rw [atRequest_call]; exact call) (by rw [atRequest_call]; exact bearer)
    (by rw [atRequest_bearer]; exact state)

end

theorem eachFreed_bus (bs : List Bearer) (s : State) : (each bs freedRun s).bus = s.bus :=
  SameBut.each freedRun bs (.refl callParts s) (fun _ _ => freedRun_sameBut) .bus (by decide)

/-- Settles O19: the phase walk chooses, and the requests that free a bearer run it. -/
theorem freedBearerGoesByTurns : Obligations.FreedBearerGoesByTurns := by
  refine ⟨?_, ?_⟩
  · intro s b oldest turn
    have oldestIs : oldest = fun c => s.oldestEligible c b := funext fun c => (oldestEligible_eq s b c).symm
    have turnIs : turn = fun k => s.turnAt b (s.arbiter.pointer + Fin.ofNat 8 k) := funext fun k => by
      rw [turnAt_eq, ← oldestIs] <;> rfl
    rw [oldestIs, turnIs]
    exact freedRun_turns s b
  · intro s h u gives
    refine ⟨fun b => ?_, fun set range up fresh => ?_, fun x y z w hx hy hz hw => ?_⟩
    · intro bearer
      refine ⟨fun clearing none clear => ?_, fun barred => ?_, fun l call named clear => ?_⟩
      · have answer : reqReleaseAcknowledge bearer u =
            (freedRun b (u.setBearer b { s.bearer b with state := .idle, guard := .none }), .accepted) := by
          rw [reqReleaseAcknowledge, onBearer_ofNat, atRequest_bearer, if_pos clearing, freed_clearing none clear,
            handFreed_idle (by rw [State.setBearer_get])]
        exact ⟨_, rfl, unit_replies h answer (freedRun_sameBut .bus (by decide))⟩
      · have answer : reqUnbar bearer u = (freedRun b (u.setBearer b { s.bearer b with state := .idle }), .accepted) := by
          rw [reqUnbar, onBearer_ofNat]
          dsimp only
          rw [atRequest_bearer, barred]
        exact ⟨_, rfl, unit_replies h answer (freedRun_sameBut .bus (by decide))⟩
      · intro line free
        have namedThen : (u.bearer b).line = some l := by rw [atRequest_bearer]; exact named
        have clearThen : (u.bearer b).barPending = false := by rw [atRequest_bearer]; exact clear
        have freedIs : freeBearer b u = free := freeBearer_atRequest named
        refine ⟨fun seizing held => ?_, fun connected engaged => ?_, fun ringing reserved => ?_⟩
        · have refused := refuseSeize_eq namedThen clearThen
          have bus : (refuseSeize l b u).bus = u.bus := refuseSeize_sameBut .bus (by decide)
          rw [freedIs] at refused
          rw [← refused]
          exact ⟨⟨_, rfl, unit_replies h (reqRefuse_paired (atRequest_paired seizing call held)) bus⟩,
            ⟨_, rfl, unit_replies h (reqRelease_seizing (atRequest_paired seizing call held)) bus⟩⟩
        · have released := releaseConnected_eq namedThen clearThen
          have bus : (releaseConnected l b u).bus = u.bus := releaseConnected_sameBut .bus (by decide)
          have answer := reqRelease_connected (atRequest_paired connected call engaged)
          rw [freedIs, atRequest_sup] at released
          rw [released] at answer bus
          exact ⟨_, rfl, unit_replies h answer bus⟩
        · have released := releaseRinging_eq namedThen clearThen
          have bus : (releaseRinging l b u).bus = u.bus := releaseRinging_sameBut .bus (by decide)
          rw [freedIs] at released
          rw [← released]
          exact ⟨_, rfl, unit_replies h (reqRelease_ringing (atRequest_paired ringing call reserved)) bus⟩
    · intro confirmed
      have unchecked {b : Bearer} (mem : b ∈ s.checked set) : (u.bearer b).freed = { s.bearer b with state := .idle } := by
        obtain ⟨inSet, unchecked⟩ := mem_checked.mp mem
        obtain ⟨line, clear, guard⟩ := fresh b inSet unchecked
        rw [atRequest_bearer, freed_unchecked line clear guard]
      have records : u.withBearers (fun b => (u.bearer b).freed) confirmed =
          u.withBearers (fun b => { s.bearer b with state := .idle }) confirmed :=
        withBearers_congr fun b mem => unchecked mem
      have allIdle : (confirmed.filter fun b => decide
          (((u.withBearers (fun b => { s.bearer b with state := .idle }) confirmed).bearer b).state = .idle)) =
            confirmed :=
        List.filter_eq_self.mpr fun b mem => by rw [withBearers_bearer, if_pos mem]; rfl
      have upThen : u.bearers.linkUp = true := (congrArg BearerTable.linkUp atRequest_bearers).trans up
      have answer := reqBearerCheck_eq range upThen
      rw [show u.checked set = confirmed from atRequest_checked, records, allIdle] at answer
      have bus := (eachFreed_bus confirmed _).trans
        (withBearers_sameBut (s := u) (g := fun b => { s.bearer b with state := .idle }) (bs := confirmed) .bus (by decide))
      exact ⟨_, rfl, unit_replies h answer bus⟩
    · intro tables
      have answer : reqSetClassMap x y z w u = (runIdle { u with
          tables := tables, monitor := { u.monitor with reference := digest tables } },
          if x = 0x0FFF then .accepted else .clamped) := by
        have written : u.tables = s.tables := atRequest_tables
        unfold reqSetClassMap
        dsimp only
        rw [if_pos (by simp [validSet, hx, hy, hz, hw]), written]
        rfl
      have idle : State.idleBearers { u with
          tables := tables, monitor := { u.monitor with reference := digest tables } } =
            allBearers.filter fun b : Bearer => decide ((s.bearer b).state = .idle) := by
        have bearers : u.bearers = s.bearers := atRequest_bearers
        simp only [State.idleBearers, State.bearer, bearers]
        rfl
      rw [runIdle, idle] at answer
      exact ⟨_, rfl, unit_replies h answer (eachFreed_bus ..)⟩

end Sys2Proof.Machine
end

section
/-! Chapter 3: the route to a target, the settle and the blanking. -/

namespace Sys2Proof.Machine

section
variable {f : Feed} {c m : FeedMode} {st : CallState}

/-! ## The route (R43) -/

theorem nextStep_eq (away : c ≠ m) : nextStep c m = routeStep c m := by
  revert away
  cases c <;> cases m <;> decide

theorem nextStep_standby : nextStep .standby m = m := by
  cases m <;> rfl

theorem nextStep_through (away : c ≠ m) (through : nextStep c m ≠ m) : nextStep c m = .standby ∧ (c = .ring ∨ m = .ring) := by
  rw [nextStep_eq away, routeStep] at through ⊢
  split at through
  · next route =>
    rw [if_pos route]
    exact ⟨rfl, route.imp And.left And.left⟩
  · exact absurd rfl through

theorem nextStep_direct (away : c ≠ m) (direct : nextStep c m = m) (ring : c = .ring ∨ m = .ring) : c = .standby ∨ m = .standby := by
  rw [nextStep_eq away, routeStep] at direct
  split at direct
  · exact .inr direct.symm
  · next route =>
    simp only [not_or, not_and, Decidable.not_not] at route
    exact ring.elim (fun h => .inr (route.1 h)) fun h => .inl (route.2 h)

/-! ## Taking a target -/

theorem take_settling (h : f.settling = true) : f.take m = { f with target := m } := by
  unfold Feed.take
  dsimp only
  rw [h]
  rfl

theorem take_steady (steady : f.settling = false) (there : f.current = m) : f.take m = { f with target := m } := by
  unfold Feed.take
  dsimp only
  rw [steady, if_pos (by simp [there])]

theorem take_moves (steady : f.settling = false) (away : f.current ≠ m) :
    f.take m = ({ f with target := m } : Feed).drive (nextStep f.current m) := by
  unfold Feed.take
  dsimp only
  rw [steady, if_neg (by simp [away.symm])]

/-! ## The end of a settle -/

theorem settleEnd_reached (h : f.current = f.target) :
    f.settleEnd = { f with settling := false, settle := 0, blanking := .left 10 } := if_pos h

theorem settleEnd_steps (h : f.current ≠ f.target) : f.settleEnd =
    { f with current := routeStep f.current f.target, settling := true, settle := 20, blanking := .inTransition } := by
  rw [← nextStep_eq h]
  exact if_neg h

/-- A transition that goes through Standby reaches its target at the second settle. -/
theorem settleEnd_fromStandby (current : f.current = .standby) (away : m ≠ .standby) (target : f.target = m) :
    f.settleEnd.settling = true ∧ f.settleEnd.settle = 20 ∧ f.settleEnd.current = m ∧
      f.settleEnd.settleEnd.settling = false ∧ f.settleEnd.settleEnd.current = m := by
  have step : f.settleEnd = { f with current := m, settling := true, settle := 20, blanking := .inTransition } := by
    rw [settleEnd_steps (by rw [current, target]; exact away.symm), current, target, ← nextStep_eq away.symm, nextStep_standby]
  have second : f.settleEnd.settleEnd =
      { f.settleEnd with settling := false, settle := 0, blanking := .left 10 } :=
    settleEnd_reached (by rw [step]; exact target.symm)
  rw [second, step]
  exact ⟨rfl, rfl, rfl, rfl, rfl⟩

theorem ringTarget_taken (control : f.control = .callSide) (ringing : st = .ringing) : f.ringTarget st = f.take .ring :=
  if_pos ⟨control, ringing⟩

theorem ringTarget_ignored (h : f.control = .testUnit ∨ st ≠ .ringing) : f.ringTarget st = f := by
  refine if_neg fun ⟨control, ringing⟩ => ?_
  rcases h with test | other
  · exact absurd (control.symm.trans test) (by decide)
  · exact other ringing

end

/-- Settles O21: by the route of R43. -/
theorem targetIsReachedByItsRoute : Obligations.TargetIsReachedByItsRoute := by
  refine ⟨fun f m => ⟨take_settling, take_steady, fun steady away => ?_, fun control => ?_, fun control => ?_,
    fun st => ⟨ringTarget_taken, ringTarget_ignored⟩⟩, fun s => ⟨?_, fun l => ?_⟩⟩
  · intro g
    have moved : g = ({ f with target := m } : Feed).drive (nextStep f.current m) := take_moves steady away
    rw [moved]
    refine ⟨rfl, rfl, rfl, rfl, fun direct => ⟨nextStep_direct away direct, ?_⟩, fun through => ?_⟩
    · rw [settleEnd_reached direct]
      exact ⟨rfl, direct⟩
    · obtain ⟨standby, ring⟩ := nextStep_through away through
      have there : m ≠ .standby := fun same => through (standby.trans same.symm)
      exact ⟨standby, ring, settleEnd_fromStandby standby there rfl⟩
  · rw [Feed.callTarget, control]
  · rw [Feed.callTarget, control]
  · simp [State.ringEnable, allLines, -Fin.getElem_fin]
  · rw [State.feedPins]
    cases s.feed[l].current <;> rfl

section
variable {s : State} {l : Line}

theorem settleEnd_callSide (settling : s.feed[l].settling = true) (control : s.feed[l].control = .callSide) :
    settleEnd l s = s.setFeed l s.feed[l].settleEnd := by
  have kept : s.feed[l].settleEnd.control = .callSide := by
    unfold Feed.settleEnd
    split <;> exact control
  unfold settleEnd
  dsimp only
  rw [if_pos settling, State.setFeed_get, if_neg]
  rw [kept]
  exact fun h => absurd h.1 (by decide)

end

/-- Settles O20: a settle ends by the two cases of R44. -/
theorem settleEndsOrSteps : Obligations.SettleEndsOrSteps := by
  intro s l
  refine ⟨fun settling control => ?_, fun n left => ?_⟩
  · have eq := settleEnd_callSide settling control
    have record : (event (settleEnd l) s).feed[l] = s.feed[l].settleEnd := by
      rw [event_feed, eq, State.setFeed_get]
    refine ⟨event (settleEnd l) s, rfl, SameBut.event ?_ (by decide), OtherLines.event ?_, fun reached => ?_,
      fun away => ?_⟩
    · rw [eq]
      exact SameBut.mono (by decide) setFeed_sameBut
    · rw [eq]
      exact setFeed_otherLines
    · rw [record, settleEnd_reached reached]
    · rw [record, settleEnd_steps away]
  · have eq : blankingEnd l s = s.setFeed l { s.feed[l] with blanking := .none } := by
      rw [blankingEnd, left]
    refine ⟨blankingEnd l s, rfl, ?_, ?_, ?_⟩
    · rw [eq]
      exact setFeed_sameBut
    · rw [eq]
      exact setFeed_otherLines
    · rw [eq, State.setFeed_get]

end Sys2Proof.Machine
end

section
/-! Chapter 5: Grant, Far Answer and the speech slots; the calls the exchange ends. -/

namespace Sys2Proof.Machine

section
variable {s t u v : State} {l m : Line} {b c : Bearer} {q : Request} {r : Reply}

@[simp] theorem atRequest_profileOf : s.atRequest.profileOf l = s.profileOf l := by
  simp only [State.profileOf, atRequest_entries, atRequest_tables]

@[simp] theorem atRequest_classOf : s.atRequest.classOf l = s.classOf l := by
  rw [State.classOf, atRequest_entries]
  rfl

@[simp] theorem atRequest_urgentFor : s.atRequest.urgentFor l = s.urgentFor l := by
  rw [State.urgentFor, atRequest_classOf]
  rfl

/-! ## A request that has been answered -/

/-- A request for the unit comes to a next state in which its reply waits. -/
theorem unit_runs {i : Instr} {allowed : Bool} (runs : exec i s = .next (event (takeFrame .unit allowed q) s))
    (h : s.receives = true) (answer : q s.atRequest = (v, r)) (bus : v.bus = s.atRequest.bus) :
    ∃ t, exec i s = .next t ∧ SameBut [.bus, .quietRun] v t ∧ Replied r s t :=
  ⟨_, runs, unit_replies h answer bus⟩

theorem unit_otherLines (frame : SameBut [.bus, .quietRun] v t) (others : OtherLines l s.atRequest v) : OtherLines l s t :=
  (atRequest_otherLines.trans others).trans (.ofSameBut frame (by decide))

theorem unit_otherBearers (frame : SameBut [.bus, .quietRun] v t) (others : OtherBearers b s.atRequest v) :
    OtherBearers b s t := (atRequest_otherBearers.trans others).trans (.ofSameBut frame (by decide))

theorem unit_sameLink (frame : SameBut [.bus, .quietRun] v t) (link : v.bearers.linkUp = s.atRequest.bearers.linkUp)
    (inService : v.bearers.inService = s.atRequest.bearers.inService) : SameLink s t := by
  have bearers : t.bearers = v.bearers := frame .bearers (by decide)
  rw [SameLink, bearers, link, inService, atRequest_bearers]
  exact ⟨rfl, rfl⟩

/-! ## Grant (R84) -/

/-- The Digit report of a line. -/
def digitReport (l : Line) (b : Bearer) (n : Nat) : Report :=
  { kind := .digit, line := some l, bearer := some b, value := some n }

/-- The reports queue one after the other. -/
theorem digitReports_eq (ns : List Nat) (s : State) :
    each ns (fun n s => s.lineReport .digit l (some b) (some n)) s =
      s.setReports ((ns.map (digitReport l b)).foldl (fun q r => q.append (s.urgentFor l) r) s.reports) := by
  induction ns generalizing s with
  | nil => rfl
  | cons n ns ih => exact ih (s.report (s.urgentFor l) (digitReport l b n))

theorem flushDigits_eq : flushDigits l b s = s.setReports
    (((s.call[l].early ++ if s.call[l].lost = true then [10] else []).map (digitReport l b)).foldl
      (fun q r => q.append (s.urgentFor l) r) s.reports) := by
  unfold flushDigits
  dsimp only
  rw [digitReports_eq]
  cases s.call[l].lost with
  | false =>
    rw [if_neg Bool.false_ne_true, if_neg Bool.false_ne_true, List.append_nil]
  | true =>
    rw [if_pos rfl, if_pos rfl, List.map_append, List.foldl_append]
    rfl

/-- The state of a Seizing line whose seize is granted. -/
def State.granted (s : State) (l : Line) (b : Bearer) : State := { s with
  call := s.call.set l { state := .connected, bearer := some b, path := .bearer b }
  bearers := { s.bearers with
    recs := s.bearers.recs.set b { s.bearer b with state := .engaged }
    connection := s.bearers.connection ++ [b] }
  arbiter := { s.arbiter with arrivals := s.arbiter.arrivals.filter fun a => a.line ≠ l }
  reports := ((s.call[l].early ++ if s.call[l].lost = true then [10] else []).map (digitReport l b)).foldl
    (fun q r => q.append (s.urgentFor l) r) s.reports }

theorem give_engaged (named : (s.bearer b).line = some l) :
    (s.bearer b).give .engaged l = { s.bearer b with state := .engaged } := by
  simp [BearerRecord.give, BearerRecord.withLine, named]

theorem grant_eq (seizing : s.call[l].state = .seizing) (named : (s.bearer b).line = some l) :
    enter l (connectedRecord b) (flushDigits l b (engage b l s)) = s.granted l b := by
  have timed : (s.call[l].state.timed && CallState.connected.timed) = true := by rw [seizing]; rfl
  rw [flushDigits_eq, engage_frame, give_engaged named, enter_frame_unrung (by
    change s.call[l].state ≠ .ringing
    rw [seizing]
    decide)]
  change { s with
    brk := if (s.call[l].state.timed && CallState.connected.timed) = true then s.brk else s.brk.set l {}
    call := _, bearers := _, arbiter := _, reports := _ } = _
  rw [if_pos timed]
  rfl

theorem granted_sameBut : SameBut [.call, .bearers, .arbiter, .reports] s (s.granted l b) := by
  simp [sameBut_iff, State.granted]

theorem granted_otherLines : OtherLines l s (s.granted l b) := fun m ne =>
  ⟨rfl, rfl, rfl, rfl, by rw [State.granted, set_get, if_neg ne]⟩

theorem reqGrant_paired (paired : s.paired l b .seizing .held = true) :
    reqGrant (BitVec.ofNat 8 l.val) (BitVec.ofNat 8 b.val) s =
      (enter l (connectedRecord b) (flushDigits l b (engage b l s)), .accepted) := by
  rw [reqGrant, onLine_ofNat, onBearer_ofNat]
  exact if_pos paired

/-! ## The speech slots (R100) -/

theorem upstreamSlot_line (engaged : (s.bearer b).state = .engaged) (path : s.call[l].path = .bearer b)
    (only : ∀ m : Line, m ≠ l → s.call[m].path ≠ .bearer b) : s.upstreamSlot b = .line l := by
  have found : allLines.find? (fun l => decide (s.call[l].path = .bearer b)) = some l := by
    cases h : allLines.find? (fun l => decide (s.call[l].path = .bearer b)) with
    | none => exact absurd (decide_eq_true path) (List.find?_eq_none.mp h l (List.mem_finRange l))
    | some m =>
      have holds : s.call[m].path = .bearer b := by
        simpa [-Fin.getElem_fin] using List.find?_some h
      by_cases same : m = l
      · rw [same]
      · exact absurd holds (only m same)
  rw [State.upstreamSlot, if_pos engaged, found]

theorem receiveSlot_bearer (path : s.call[l].path = .bearer b) : s.receiveSlot l = .trunk b := by
  rw [State.receiveSlot, path]

/-! ## Far Answer (R88) -/

theorem reqFarAnswer_connected (connected : s.call[l].state = .connected) :
    reqFarAnswer (BitVec.ofNat 8 l.val) s =
      (s.setFeed l (if (s.profileOf l).flags.getLsbD 1 = true then s.feed[l].callTarget .reverse else s.feed[l]),
        .accepted) := by
  rw [reqFarAnswer, onLine_ofNat]
  rw [if_pos connected]
  by_cases reverses : (s.profileOf l).flags.getLsbD 1 = true
  · rw [if_pos reverses]
    exact congrArg (fun x => (x, Reply.accepted)) (if_pos reverses)
  · have same : s.setFeed l s.feed[l] = s := by
      rw [State.setFeed, show s.feed.set l s.feed[l] = s.feed from Vector.set_getElem_self ..]
    rw [if_neg reverses, same]
    exact congrArg (fun x => (x, Reply.accepted)) (if_neg reverses)

end

/-- Settles O28: by what a Grant leaves, by R88, and by the definition of the slots. -/
theorem grantAndFarAnswer : Obligations.GrantAndFarAnswer := by
  refine ⟨fun s l b h seizing bearer held named => ?_, fun s l h => ?_, fun s l b => ?_⟩
  · intro u digit
    have seizingThen : u.call[l].state = .seizing := by rw [atRequest_call]; exact seizing
    have namedThen : (u.bearer b).line = some l := by rw [atRequest_bearer]; exact named
    have answer := reqGrant_paired (atRequest_paired seizing bearer held)
    rw [grant_eq seizingThen namedThen] at answer
    obtain ⟨t, next, frame, replied⟩ :=
      unit_runs (i := .grant .unit (BitVec.ofNat 8 l.val) (BitVec.ofNat 8 b.val)) rfl h answer rfl
    have call : t.call = (u.granted l b).call := frame .call (by decide)
    have bearers : t.bearers = (u.granted l b).bearers := frame .bearers (by decide)
    have arbiter : t.arbiter = (u.granted l b).arbiter := frame .arbiter (by decide)
    have reports : t.reports = (u.granted l b).reports := frame .reports (by decide)
    have record : t.call[l] =
        { state := .connected, bearer := some b, path := .bearer b } := by
      rw [call, State.granted, set_get, if_pos rfl]
    have engaged : t.bearer b =
        { s.bearer b with state := .engaged } := by
      rw [State.bearer, bearers, State.granted, set_get, if_pos rfl, atRequest_bearer]
    have before : u.bearers = s.bearers := atRequest_bearers
    refine ⟨t, next, SameBut.then (SameBut.mono (by decide) granted_sameBut) frame (by decide),
      unit_otherLines frame granted_otherLines,
      unit_otherBearers frame fun c ne => (set_get ..).trans (if_neg ne),
      unit_sameLink frame rfl rfl, replied, record,
      engaged, ?_, ?_, ?_, ?_, fun only => ?_⟩
    · rw [bearers]
      exact congrArg (fun x : BearerTable => x.connection ++ [b]) before
    · rw [arbiter, State.granted, atRequest_arbiter]
    · rw [reports, State.granted, atRequest_call, atRequest_urgentFor]
      rfl
    · exact receiveSlot_bearer (by rw [record])
    · refine upstreamSlot_line (by rw [engaged]) (by rw [record]) fun m ne => ?_
      rw [call, State.granted, set_get, if_neg ne, atRequest_call]
      exact only m ne
  · intro u
    have callThen : u.call = s.call := atRequest_call
    refine ⟨fun connected => ?_, fun other => ⟨_, rfl, unit_answers h ?_⟩⟩
    · have answer := reqFarAnswer_connected (s := u) (l := l) (by rw [callThen]; exact connected)
      obtain ⟨t, next, frame, replied⟩ := unit_runs (i := .farAnswer .unit (BitVec.ofNat 8 l.val)) rfl h answer rfl
      refine ⟨t, next, SameBut.then (SameBut.then (.refl _ _) setFeed_sameBut (by decide)) frame (by decide),
        unit_otherLines frame setFeed_otherLines, replied, ?_⟩
      have feed : t.feed = (u.setFeed l _).feed := frame .feed (by decide)
      rw [feed, State.setFeed_get, atRequest_profileOf, atRequest_feed]
    · rw [reqFarAnswer, onLine_ofNat]
      rw [if_neg (by rw [callThen]; exact other)]
  · refine ⟨fun none => ?_, receiveSlot_bearer, fun k tone => ?_, fun other => if_neg other, upstreamSlot_line⟩
    · rw [State.receiveSlot, none]
    · rw [State.receiveSlot, tone]

end Sys2Proof.Machine
end

section
/-! Chapter 7: a line that leaves Ringing; chapter 5: the calls the exchange ends. -/

namespace Sys2Proof.Machine

section
variable {s t : State} {l m : Line} {b c : Bearer}

/-! ## The ring collections without a line (R128) -/

theorem permitted_eq (s : State) (m : Line) : s.permitted m = decide (s.permits m) := by
  unfold State.permitted State.permits
  cases s.supply.level <;> cases s.classOf m <;> rfl

theorem phaseOf_isSome {r : Ringer} : (r.phaseOf l).isSome = true ↔ ∃ p : Fin 4, l ∈ r.phases[p] := by
  simp [Ringer.phaseOf, List.find?_isSome]

/-- The phases and the queue that the removal of a line leaves. -/
def State.filledWithout (s : State) (l : Line) : PhaseLists × List Line :=
  if ∃ p : Fin 4, l ∈ s.ringer.phases[p] then
    fillWalk (fun x => decide (s.permits x)) s.ringRoom (s.ringer.without l).queue (s.ringer.without l).phases
  else ((s.ringer.without l).phases, (s.ringer.without l).queue)

theorem ringerWithout_eq (s : State) (l : Line) : s.ringerWithout l =
    { wheel := if ∃ m : Line, m ≠ l ∧ s.call[m].state = .ringing then s.ringer.wheel else .stopped
      phases := (s.filledWithout l).1, queue := (s.filledWithout l).2, counts := s.ringer.counts.set l 0 } := rfl

theorem ringRemoved_ringer : (ringRemoved l s).ringer = { s.ringer with
    phases := (s.filledWithout l).1, queue := (s.filledWithout l).2, counts := s.ringer.counts.set l 0 } := by
  have permits : s.permitted = fun x => decide (s.permits x) := funext fun m => permitted_eq s m
  unfold ringRemoved State.filledWithout
  by_cases found : ∃ p : Fin 4, l ∈ s.ringer.phases[p]
  · rw [if_pos (phaseOf_isSome.mpr found), if_pos found, fill_frame, ← permits, ← ringCapacity_eq_ringRoom]
    rfl
  · rw [if_neg fun some => found (phaseOf_isSome.mp some), if_neg found]
    rfl

/-- What a line that is no longer Ringing leaves of the Ring Scheduler. -/
theorem ringRemove_ringer (left : s.call[l].state ≠ .ringing) : (ringRemove l s).ringer = s.ringerWithout l := by
  have call : (ringRemoved l s).call = s.call := ringRemoved_frame.1
  have others : (ringRemoved l s).anyRinging = true ↔ ∃ m : Line, m ≠ l ∧ s.call[m].state = .ringing := by
    rw [anyRinging_iff, call]
    exact ⟨fun ⟨m, ringing⟩ => ⟨m, fun same => left (same ▸ ringing), ringing⟩, fun ⟨m, _, ringing⟩ => ⟨m, ringing⟩⟩
  rw [ringRemove_eq, stopWheel, ringerWithout_eq]
  by_cases any : ∃ m : Line, m ≠ l ∧ s.call[m].state = .ringing
  · rw [if_pos (others.mpr any), if_pos any, ringRemoved_ringer]
  · rw [if_neg fun h => any (others.mp h), if_neg any]
    change { (ringRemoved l s).ringer with wheel := .stopped } = _
    rw [ringRemoved_ringer]

theorem ringerWithout_congr (entries : t.entries = s.entries) (supply : t.supply = s.supply) (ringer : t.ringer = s.ringer)
    (call : ∀ m : Line, m ≠ l → t.call[m] = s.call[m]) : t.ringerWithout l = s.ringerWithout l := by
  have others : (∃ m : Line, m ≠ l ∧ t.call[m].state = .ringing) ↔ ∃ m : Line, m ≠ l ∧ s.call[m].state = .ringing :=
    exists_congr fun m => and_congr_right fun ne => by rw [call m ne]
  have filled : t.filledWithout l = s.filledWithout l := by
    simp only [State.filledWithout, State.permits, State.ringRoom, State.classOf, entries, supply, ringer]
    rfl
  rw [ringerWithout_eq, ringerWithout_eq, filled, ringer]
  simp only [others]

theorem filledWithout_places : (phaseLines (s.filledWithout l).1).count m + (s.filledWithout l).2.count m =
    if m = l then 0 else s.ringer.places m := by
  rw [← ringRemoved_places, ringRemoved_ringer]
  rfl

/-- A line that has left Ringing has no ring place. -/
theorem ringPlace_without (h : t.ringer = s.ringerWithout l) : t.ringPlace l = none := by
  have places := filledWithout_places (s := s) (l := l) (m := l)
  rw [if_pos rfl, Nat.add_eq_zero_iff, List.count_eq_zero, List.count_eq_zero] at places
  obtain ⟨phases, queue⟩ := places
  have noPhase : t.ringer.phaseOf l = none := by
    rw [← Option.not_isSome_iff_eq_none, phaseOf_isSome, h]
    exact fun ⟨p, mem⟩ => phases (mem_phaseLines.mpr ⟨p, mem⟩)
  rw [State.ringPlace, noPhase, h]
  exact if_neg queue

theorem counts_without (h : t.ringer = s.ringerWithout l) : t.ringer.counts[l] = 0 := by
  rw [h]
  exact (set_get ..).trans (if_pos rfl)

/-! ## A change of call state, whatever the state before -/

theorem enter_ringer {n : CallRecord} (quiet : n.state ≠ .ringing) : (enter l n s).ringer =
    if s.call[l].state = .ringing then s.ringerWithout l else s.ringer := by
  obtain ⟨call, ringer, supply, entries, -⟩ := enterCall_frame (l := l) (s := s) n
  rw [enter_eq]
  by_cases ringing : s.call[l].state = .ringing
  · rw [if_pos ⟨ringing, quiet⟩, if_pos ringing, ringRemove_ringer]
    · exact ringerWithout_congr entries supply ringer fun m ne => by rw [call, set_get, if_neg ne]
    · rw [call, set_get, if_pos rfl, CallRecord.entering_state]
      exact quiet
  · rw [if_neg fun h => ringing h.1, if_neg ringing, ringer]

theorem enter_frame_quiet {n : CallRecord} (quiet : n.state ≠ .ringing) : enter l n s = { s with
    call := s.call.set l (n.entering s.call[l])
    brk := if s.call[l].state.timed && n.state.timed then s.brk else s.brk.set l {}
    arbiter := { s.arbiter with
      arrivals := if n.state.joined then s.arbiter.arrivals
        else s.arbiter.arrivals.filter fun a => a.line ≠ l }
    ringer := if s.call[l].state = .ringing then s.ringerWithout l else s.ringer } := by
  rw [enter_frame, enter_ringer quiet]
  rfl

theorem goIdle_frame : goIdle l s = { s with
    call := s.call.set l { state := .idle }
    brk := s.brk.set l {}
    feed := s.feed.set l (s.feed[l].callTarget .standby)
    arbiter := { s.arbiter with arrivals := s.arbiter.arrivals.filter fun a => a.line ≠ l }
    ringer := if s.call[l].state = .ringing then s.ringerWithout l else s.ringer } := by
  have untimed : (s.call[l].state.timed && CallState.idle.timed) = false := Bool.and_false _
  rw [goIdle, enter_frame_quiet (by decide), callTarget_frame]
  simp only [untimed]
  rfl

/-! ## A call that the exchange has ended -/

/-- The state in which the exchange has ended the call of line `l` on bearer `b`, the line's record and feed being
`c` and `f` then. -/
def State.callEnded (s : State) (l : Line) (b : Bearer) (c : CallRecord) (f : Feed) : State := { s with
  call := s.call.set l c
  brk := s.brk.set l {}
  feed := s.feed.set l f
  bearers := { s.bearers with
    recs := s.bearers.recs.set b (s.freedRecord b l)
    connection := s.bearers.connection.filter fun x => x ≠ b }
  arbiter := { s.arbiter with arrivals := s.arbiter.arrivals.filter fun a => a.line ≠ l }
  ringer := if s.call[l].state = .ringing then s.ringerWithout l else s.ringer }

theorem freeBearer_of (named : (s.bearer b).line = some l) : freeBearer b s = { s with
    bearers := { s.bearers with
      recs := s.bearers.recs.set b (s.freedRecord b l)
      connection := s.bearers.connection.filter fun x => x ≠ b } } := by
  rw [freeBearer_frame, freed_of named]

theorem goIdle_freeBearer (named : (s.bearer b).line = some l) : goIdle l (freeBearer b s) =
    s.callEnded l b { state := .idle } (s.feed[l].callTarget .standby) := by
  have without : (freeBearer b s).ringerWithout l = s.ringerWithout l :=
    ringerWithout_congr rfl rfl rfl fun _ _ => rfl
  rw [goIdle_frame, without, freeBearer_of named]
  rfl

theorem enterLockout_freeBearer {x : LockoutCause} (named : (s.bearer b).line = some l)
    (unrung : s.call[l].state ≠ .ringing) (offHook : s.sup[l].hook = .offHook) :
    enterLockout l x (freeBearer b s) = s.callEnded l b (s.lockedOut x) (s.feed[l].callTarget .active) := by
  have call : (freeBearer b s).lockoutCall l x = s.lockedOut x := by
    have hook : (freeBearer b s).sup[l].hook = .offHook := offHook
    rw [State.lockoutCall, hook]
    rfl
  have feed : (freeBearer b s).lockoutFeed l = s.feed[l].callTarget .active := by
    have hook : (freeBearer b s).sup[l].hook = .offHook := offHook
    rw [State.lockoutFeed, hook]
    rfl
  rw [enterLockout_frame_unrung (by exact unrung), call, feed, freeBearer_of named, State.callEnded, if_neg unrung]

/-- With no other line in the wait list the freed bearer stays as it is. -/
theorem handFreed_callEnded {x : CallRecord} {f : Feed} (none : ∀ a ∈ s.arbiter.arrivals, a.line = l ∨ a.standing = .seizing) :
    handFreed b (s.callEnded l b x f) = s.callEnded l b x f := by
  refine handFreed_noWaiters fun a mem => ?_
  obtain ⟨mem, ne⟩ := List.mem_filter.mp mem
  exact (none a mem).resolve_left (by simpa using ne)

theorem callEnded_sameBut {x : CallRecord} {f : Feed} :
    SameBut [.brk, .feed, .call, .bearers, .arbiter, .ringer] s (s.callEnded l b x f) := by
  simp [sameBut_iff, State.callEnded]

theorem callEnded_otherLines {x : CallRecord} {f : Feed} : OtherLines l s (s.callEnded l b x f) := fun m ne =>
  ⟨rfl, rfl, by rw [State.callEnded, set_get, if_neg ne], by rw [State.callEnded, set_get, if_neg ne],
    by rw [State.callEnded, set_get, if_neg ne]⟩

/-- What a request that ends a call leaves (R61). -/
def CallEnded (l : Line) (b : Bearer) (s t : State) : Prop :=
  SameBut [.brk, .feed, .call, .bearers, .arbiter, .ringer, .bus, .quietRun] s.atRequest t ∧ OtherLines l s t ∧
    OtherBearers b s t ∧ SameLink s t ∧ Replied .accepted s t ∧ t.bearer b = s.freedRecord b l ∧
    t.bearers.connection = s.bearers.connection.filter (fun x => x ≠ b) ∧
    t.arbiter = { s.arbiter with arrivals := s.arbiter.arrivals.filter fun a => a.line ≠ l }

theorem unit_callEnded {q : Request} {i : Instr} {x : CallRecord} {f : Feed}
    (runs : exec i s = .next (event (takeFrame .unit false q) s)) (h : s.receives = true)
    (answer : q s.atRequest = (s.atRequest.callEnded l b x f, .accepted)) :
    ∃ t, exec i s = .next t ∧ CallEnded l b s t ∧
      t.ringer = (if s.call[l].state = .ringing then s.ringerWithout l else s.ringer) ∧ t.call[l] = x := by
  obtain ⟨t, next, frame, replied⟩ := unit_runs runs h answer rfl
  have call : t.call = (s.atRequest.callEnded l b x f).call := frame .call (by decide)
  have bearers : t.bearers = (s.atRequest.callEnded l b x f).bearers := frame .bearers (by decide)
  have arbiter : t.arbiter = (s.atRequest.callEnded l b x f).arbiter := frame .arbiter (by decide)
  have ringer : t.ringer = (s.atRequest.callEnded l b x f).ringer := frame .ringer (by decide)
  have before : s.atRequest.bearers.connection = s.bearers.connection := congrArg _ atRequest_bearers
  have record : s.atRequest.freedRecord b l = s.freedRecord b l := by
    simp only [State.freedRecord, atRequest_bearer]
  have without : s.atRequest.ringerWithout l = s.ringerWithout l :=
    ringerWithout_congr atRequest_entries atRequest_supply atRequest_ringer fun m _ => by rw [atRequest_call]
  refine ⟨t, next, ⟨SameBut.then (SameBut.mono (by decide) callEnded_sameBut) frame (by decide),
    unit_otherLines frame callEnded_otherLines, unit_otherBearers frame fun c ne => (set_get ..).trans (if_neg ne),
    unit_sameLink frame rfl rfl, replied, ?_, ?_, ?_⟩, ?_, ?_⟩
  · rw [State.bearer, bearers, State.callEnded, set_get, if_pos rfl, record]
  · rw [bearers, State.callEnded, before]
  · rw [arbiter, State.callEnded, atRequest_arbiter]
  · rw [ringer, State.callEnded, atRequest_call, atRequest_ringer, without]
  · rw [call, State.callEnded, set_get, if_pos rfl]

end

/-- Settles O29: each request leaves the state in which the call has ended. -/
theorem exchangeEndsCalls : Obligations.ExchangeEndsCalls := by
  intro s l b h bearer named alone u line bearerByte ended
  have namedThen : (u.bearer b).line = some l := by rw [atRequest_bearer]; exact named
  have aloneThen : ∀ a ∈ u.arbiter.arrivals, a.line = l ∨ a.standing = .seizing := by
    rw [atRequest_arbiter]
    exact alone
  have callThen : u.call[l] = s.call[l] := by rw [atRequest_call]
  have hookThen : u.sup[l].hook = s.sup[l].hook := by rw [atRequest_sup]
  have lockedOut {x : LockoutCause} : u.lockedOut x = s.lockedOut x := by
    unfold State.lockedOut
    rw [atRequest_tables]
  refine ⟨fun seizing held offHook => ?_, fun connected engaged => ?_, fun ringing reserved => ?_⟩
  · have paired := atRequest_paired seizing bearer held
    have unrung : s.call[l].state ≠ .ringing := by rw [seizing]; decide
    have refused : refuseSeize l b u = u.callEnded l b (s.lockedOut .congestion) (u.feed[l].callTarget .active) := by
      rw [refuseSeize, enterLockout_freeBearer namedThen (by rw [callThen]; exact unrung) (hookThen.trans offHook),
        handFreed_callEnded aloneThen, lockedOut]
    have refuse := reqRefuse_paired paired
    have release := reqRelease_seizing paired
    rw [refused] at refuse release
    obtain ⟨t, next, left, ringer, call⟩ := unit_callEnded (i := .refuse .unit line bearerByte) rfl h refuse
    obtain ⟨t', next', left', ringer', call'⟩ := unit_callEnded (i := .release .unit line bearerByte) rfl h release
    rw [if_neg unrung] at ringer ringer'
    exact ⟨⟨t, next, left, ringer, call⟩, ⟨t', next', left', ringer', call'⟩⟩
  · have unrung : s.call[l].state ≠ .ringing := by rw [connected]; decide
    obtain ⟨x, f, released, record⟩ : ∃ x f, releaseConnected l b u = u.callEnded l b x f ∧
        x = match s.sup[l].hook with
          | .offHook => s.lockedOut .released
          | .onHook => { state := .idle } := by
      unfold releaseConnected
      dsimp only
      have hook : (freeBearer b u).sup[l].hook = s.sup[l].hook := hookThen
      rw [hook]
      cases onOff : s.sup[l].hook with
      | offHook =>
        refine ⟨s.lockedOut .released, u.feed[l].callTarget .active, ?_, rfl⟩
        dsimp only
        rw [enterLockout_freeBearer namedThen (by rw [callThen]; exact unrung) (hookThen.trans onOff),
          handFreed_callEnded aloneThen, lockedOut]
      | onHook =>
        refine ⟨{ state := .idle }, u.feed[l].callTarget .standby, ?_, rfl⟩
        dsimp only
        rw [goIdle_freeBearer namedThen, handFreed_callEnded aloneThen]
    have release := reqRelease_connected (atRequest_paired connected bearer engaged)
    rw [released] at release
    obtain ⟨t, next, left, ringer, call⟩ := unit_callEnded (i := .release .unit line bearerByte) rfl h release
    rw [if_neg unrung] at ringer
    exact ⟨t, next, left, ringer, call.trans record⟩
  · have released : releaseRinging l b u = u.callEnded l b { state := .idle } (u.feed[l].callTarget .standby) := by
      rw [releaseRinging, goIdle_freeBearer namedThen, handFreed_callEnded aloneThen]
    have release := reqRelease_ringing (atRequest_paired ringing bearer reserved)
    rw [released] at release
    obtain ⟨t, next, left, ringer, call⟩ := unit_callEnded (i := .release .unit line bearerByte) rfl h release
    rw [if_pos ringing] at ringer
    exact ⟨t, next, left, call, ringPlace_without ringer, counts_without ringer⟩

end Sys2Proof.Machine
end

section
/-! What the call side does depends on no count of the supervision and not on the Unit Monitor. -/

namespace Sys2Proof.Machine

section
variable {s t : State} {l p v : Line} {b c : Bearer} {x : Vector Supervision 32} {m : Monitor} {n : CallRecord}
  {k : FeedMode}

/-- The state with another supervision and another Unit Monitor. -/
def State.beside (s : State) (x : Vector Supervision 32) (m : Monitor) : State := { s with sup := x, monitor := m }

/-- The supervision `x` has the hook states of the state, and the monitor `m` its Isolated mark. -/
def State.alike (s : State) (x : Vector Supervision 32) (m : Monitor) : Prop :=
  (∀ l : Line, x[l].hook = s.sup[l].hook) ∧ m.isolated = s.monitor.isolated

theorem State.alike.ofSameBut {parts : List Part} (h : s.alike x m) (same : SameBut parts s t)
    (read : ∀ p ∈ [Part.sup, .watch], p ∉ parts) : t.alike x m := by
  have sup : t.sup = s.sup := same .sup (read _ (by decide))
  have watch : t.monitor.watch = s.monitor.watch := same .watch (read _ (by decide))
  have isolated : t.monitor.isolated = s.monitor.isolated :=
    (congrArg Monitor.isolated watch : t.monitor.watch.isolated = s.monitor.watch.isolated)
  obtain ⟨hooks, mark⟩ := h
  rw [State.alike, sup, isolated]
  exact ⟨hooks, mark⟩

theorem callTarget_beside : callTarget l k (s.beside x m) = (callTarget l k s).beside x m := rfl

theorem stopWheel_beside : stopWheel (s.beside x m) = (stopWheel s).beside x m := by
  unfold stopWheel
  change (if s.anyRinging = true then _ else _) = _
  split <;> rfl

theorem ringRemove_beside : ringRemove l (s.beside x m) = (ringRemove l s).beside x m := by
  rw [ringRemove_eq, ringRemove_eq, ← stopWheel_beside]
  congr 1
  unfold ringRemoved
  change (if (s.ringer.phaseOf l).isSome = true then _ else _) = _
  split <;> rfl

theorem enterCall_beside : enterCall l n (s.beside x m) = (enterCall l n s).beside x m := by
  have call : (s.beside x m).call[l] = s.call[l] := rfl
  unfold enterCall
  dsimp only
  rw [call]
  cases n.state.joined <;> cases s.call[l].state.timed && n.state.timed <;> rfl

theorem enter_beside : enter l n (s.beside x m) = (enter l n s).beside x m := by
  rw [enter_eq, enter_eq, enterCall_beside, ringRemove_beside]
  change (if s.call[l].state = .ringing ∧ n.state ≠ .ringing then _ else _) = _
  split <;> rfl

theorem goIdle_beside : goIdle l (s.beside x m) = (goIdle l s).beside x m := by
  rw [goIdle, enter_beside]
  rfl

theorem enterLockout_beside {cause : LockoutCause} (alike : s.alike x m) :
    enterLockout l cause (s.beside x m) = (enterLockout l cause s).beside x m := by
  have locked : enter l (lockoutRecord cause (s.beside x m)) (s.beside x m) =
      (enter l (lockoutRecord cause s) s).beside x m := enter_beside
  have sup : (callTarget l .active (enter l (lockoutRecord cause s) s)).sup = s.sup :=
    SameBut.then (SameBut.mono (by decide : _ ⊆ callParts) enter_sameBut) callTarget_sameBut (by decide) .sup (by decide)
  unfold enterLockout
  dsimp only
  rw [locked, callTarget_beside]
  have hook : ((callTarget l .active (enter l (lockoutRecord cause s) s)).beside x m).sup[l].hook =
      (callTarget l .active (enter l (lockoutRecord cause s) s)).sup[l].hook := by
    rw [sup]
    exact alike.1 l
  rw [hook]
  cases (callTarget l .active (enter l (lockoutRecord cause s) s)).sup[l].hook with
  | onHook => exact goIdle_beside
  | offHook => rfl

theorem grantBearer_beside : grantBearer l b (s.beside x m) = (grantBearer l b s).beside x m := by
  have given : setStanding l .seizing (giveBearer b .held l (s.beside x m)) =
      (setStanding l .seizing (giveBearer b .held l s)).beside x m := rfl
  have record {w : State} : seizingRecord b (w.beside x m) = seizingRecord b w := rfl
  have reported {w : State} : seizeReport l b (w.beside x m) = (seizeReport l b w).beside x m := rfl
  unfold grantBearer
  dsimp only
  rw [given, record, enter_beside, reported]

theorem startHandover_beside (alike : s.alike x m) :
    startHandover p b (s.beside x m) = (startHandover p b s).beside x m := by
  have named : ((s.beside x m).bearer b).line = (s.bearer b).line := rfl
  unfold startHandover
  rw [named]
  cases (s.bearer b).line with
  | none => rfl
  | some old =>
    have reported {r : Report} : (s.beside x m).report true r = (s.report true r).beside x m := rfl
    have given {w : State} : disconnect b (giveBearer b .handover p (w.beside x m)) =
        (disconnect b (giveBearer b .handover p w)).beside x m := rfl
    have standing {w : State} : setStanding p .seizing (w.beside x m) = (setStanding p .seizing w).beside x m := rfl
    have handover {w : State} {h : Option Handover} : (w.beside x m).setHandover h = (w.setHandover h).beside x m := rfl
    dsimp only
    rw [reported, enterLockout_beside (s := s.report true _) alike, given, standing, enter_beside, handover]

theorem priorityStep_beside (alike : s.alike x m) : priorityStep p (s.beside x m) = (priorityStep p s).beside x m := by
  have handover : (s.beside x m).arbiter.handover = s.arbiter.handover := rfl
  have victim : (s.beside x m).victim = s.victim := rfl
  unfold priorityStep
  rw [handover, victim]
  cases s.arbiter.handover with
  | some h => rfl
  | none =>
    cases s.victim with
    | none => rfl
    | some v => exact startHandover_beside alike

theorem lowestEligible_beside {k : Machine.Class} (alike : s.alike x m) :
    (s.beside x m).lowestEligible k = s.lowestEligible k := by
  have eligible (b : Bearer) : (s.beside x m).eligible k b = s.eligible k b := by
    unfold State.eligible
    change (_ && !m.isolated) = _
    rw [alike.2]
    rfl
  rw [State.lowestEligible, State.lowestEligible]
  simp only [eligible]

theorem reconsiderWaiters_beside {waiters : List Line} (alike : s.alike x m) :
    reconsiderWaiters waiters (s.beside x m) = (reconsiderWaiters waiters s).beside x m := by
  induction waiters generalizing s with
  | nil => rfl
  | cons p rest ih =>
    rw [reconsiderWaiters, reconsiderWaiters, lowestEligible_beside alike]
    cases s.lowestEligible .priority with
    | none => exact priorityStep_beside alike
    | some b =>
      dsimp only
      rw [grantBearer_beside]
      exact ih (alike.ofSameBut grantBearer_sameBut (by decide))

/-- The Priority reconsideration (R119) reads no count and no monitor. -/
theorem reconsider_beside (alike : s.alike x m) : reconsider (s.beside x m) = (reconsider s).beside x m :=
  reconsiderWaiters_beside alike

theorem join_beside (alike : s.alike x m) : join l (s.beside x m) = (join l s).beside x m := by
  have joined : (s.beside x m).setArrivals ((s.beside x m).arbiter.arrivals ++
      [{ line := l, cls := (s.beside x m).classOf l, standing := .waiting }]) =
        (s.setArrivals (s.arbiter.arrivals ++ [{ line := l, cls := s.classOf l, standing := .waiting }])).beside x m := rfl
  have cls : (s.beside x m).classOf l = s.classOf l := rfl
  have lowest {q : List Arrival} {k : Machine.Class} : ((s.setArrivals q).beside x m).lowestEligible k =
      (s.setArrivals q).lowestEligible k := lowestEligible_beside (s := s.setArrivals q) alike
  unfold join
  dsimp only
  rw [joined, lowest, cls]
  cases State.lowestEligible (s.setArrivals _) (s.classOf l) with
  | some b => exact grantBearer_beside
  | none =>
    dsimp only
    split
    · exact priorityStep_beside (s := s.setArrivals _) alike
    · rfl

/-- Off-hook handling (R81) reads no count, and of the monitor the Isolated mark alone. -/
theorem offHookHandling_beside (alike : s.alike x m) :
    offHookHandling l (s.beside x m) = (offHookHandling l s).beside x m := by
  unfold offHookHandling
  change (if m.isolated = true then _ else _) = _
  rw [alike.2]
  split
  · exact enterLockout_beside alike
  · have entered : enter l (waitingRecord (s.beside x m)) (s.beside x m) =
        (enter l (waitingRecord s) s).beside x m := enter_beside
    rw [entered, callTarget_beside]
    exact join_beside (alike.ofSameBut (SameBut.then (SameBut.mono (by decide : _ ⊆ callParts) enter_sameBut) callTarget_sameBut (by decide)) (by decide))

end

end Sys2Proof.Machine
end

section
/-! Chapter 5: faults and their retries; the end of ringing. -/

namespace Sys2Proof.Machine

section
variable {s t r : State} {l m : Line} {b c : Bearer} {k : FaultKind}

/-! ## A fault decision (R18, R48) -/

theorem take_protect {f : Feed} : f.protect.take .openLoop = f.protect := by
  by_cases there : f.current = .openLoop
  · have eq : f.protect = { f with target := .openLoop } := if_pos there
    rw [eq]
    unfold Feed.take
    dsimp only
    rw [if_pos (by simp [there])]
  · have eq : f.protect = ({ f with target := .openLoop } : Feed).drive .openLoop := if_neg there
    rw [eq]
    exact take_settling rfl

theorem protect_control {f : Feed} : f.protect.control = f.control := by
  unfold Feed.protect
  dsimp only
  split <;> rfl

/-- The state in which a fault decision reaches the Call Handler: the counts are 0, the protective Open is driven
and Quiet operation has ended. -/
def State.faultTaken (s : State) (l : Line) : State := { s with
  sup := s.sup.set l { s.sup[l] with hookCount := 0, overCount := 0, foreignCount := 0 }
  feed := s.feed.set l s.feed[l].protect
  monitor := { s.monitor with quiet := false } }

theorem faultDecision_eq (supervised : s.call[l].state.supervised = true) (control : s.feed[l].control = .callSide) :
    faultDecision l k s = callFault l k (s.faultTaken l) := by
  have taken : protect l (endQuiet (resetCounts l s)) = s.faultTaken l := by
    unfold protect
    change (match s.feed[l].control with
      | .callSide => _
      | .testUnit => _) = _
    rw [control]
    rfl
  rw [faultDecision, if_pos supervised, taken]

theorem faultTaken_target (control : s.feed[l].control = .callSide) :
    (s.faultTaken l).feed[l].callTarget .openLoop = (s.faultTaken l).feed[l] := by
  have feed : (s.faultTaken l).feed[l] = s.feed[l].protect := (set_get ..).trans (if_pos rfl)
  rw [feed, Feed.callTarget, protect_control, control]
  exact take_protect

theorem callFault_enters (h : s.call[l].state = .idle ∨ s.call[l].state = .waiting ∨ s.call[l].state = .seizing ∨
    s.call[l].state = .connected ∨ s.call[l].state = .ringing ∨ s.call[l].state = .lockout) :
    callFault l k s = reconsiderIf (s.inHandover l) (faultEntry l k s) := by
  unfold callFault
  dsimp only
  rcases h with h | h | h | h | h | h <;> rw [h]

/-! ## Fault entry (R97) -/

/-- The record of a line that has just become Faulted for a kind that is retried. -/
def faultedCall (k : FaultKind) : CallRecord :=
  { state := .faulted, fault := some k, retry := some .wait, timer := some { kind := .retryWait, left := 10000 } }

theorem faultedRecord_entering {old : CallRecord} (retried : k ≠ .foreignVoltage) :
    (faultedRecord k).entering old = faultedCall k := by
  cases k with
  | foreignVoltage => exact absurd rfl retried
  | overcurrent => rfl
  | foreignBattery => rfl

theorem setFeed_self : s.feed.set l s.feed[l] = s.feed := Vector.set_getElem_self ..

theorem enterFaulted_frame (retried : k ≠ .foreignVoltage) (open_ : r.feed[l].callTarget .openLoop = r.feed[l]) :
    callTarget l .openLoop (enter l (faultedRecord k) r) = { r with
      call := r.call.set l (faultedCall k)
      brk := r.brk.set l {}
      arbiter := { r.arbiter with arrivals := r.arbiter.arrivals.filter fun a => a.line ≠ l }
      ringer := if r.call[l].state = .ringing then r.ringerWithout l else r.ringer } := by
  have untimed : (r.call[l].state.timed && (faultedRecord k).state.timed) = false := by
    rw [faultedRecord_state]
    exact Bool.and_false _
  have apart : (faultedRecord k).state.joined = false := by
    rw [faultedRecord_state]
    rfl
  have feed : (enter l (faultedRecord k) r).feed = r.feed := enter_sameBut .feed (by decide)
  rw [callTarget_frame, feed, open_, setFeed_self]
  rw [enter_frame_quiet (by rw [faultedRecord_state]; decide), faultedRecord_entering retried, untimed, apart]
  rfl

/-- The state of a line that has entered Faulted, with what has become of the bearers, the handover and the
reports. -/
def State.faulted (s : State) (l : Line) (k : FaultKind) (bs : BearerTable) (h : Option Handover) (q : Reports) :
    State := { s with
  sup := s.sup.set l { s.sup[l] with hookCount := 0, overCount := 0, foreignCount := 0 }
  feed := s.feed.set l s.feed[l].protect
  call := s.call.set l (faultedCall k)
  brk := s.brk.set l {}
  bearers := bs
  arbiter := { s.arbiter with arrivals := s.arbiter.arrivals.filter fun a => a.line ≠ l, handover := h }
  ringer := if s.call[l].state = .ringing then s.ringerWithout l else s.ringer
  reports := q
  monitor := { s.monitor with quiet := false } }

/-- The Fault report of line `l`. -/
def State.faultReport (s : State) (l : Line) (k : FaultKind) : Report :=
  { kind := .fault, line := some l, bearer := s.call[l].bearer, value := some k.code }

/-- The state in which a line enters Faulted. -/
def State.faultFreed (s : State) (l : Line) (bs : BearerTable) (h : Option Handover) (q : Reports) : State :=
  { s.faultTaken l with bearers := bs, arbiter := { s.arbiter with handover := h }, reports := q }

theorem faultFreed_enters {bs : BearerTable} {h : Option Handover} {q : Reports} (retried : k ≠ .foreignVoltage)
    (control : s.feed[l].control = .callSide) :
    callTarget l .openLoop (enter l (faultedRecord k) (s.faultFreed l bs h q)) = s.faulted l k bs h q := by
  have ringer : (s.faultFreed l bs h q).ringerWithout l = s.ringerWithout l :=
    ringerWithout_congr rfl rfl rfl fun _ _ => rfl
  have open_ : (s.faultFreed l bs h q).feed[l].callTarget .openLoop = (s.faultFreed l bs h q).feed[l] :=
    faultTaken_target control
  rw [enterFaulted_frame retried open_, ringer]
  rfl

theorem faultEntry_free (retried : k ≠ .foreignVoltage) (control : s.feed[l].control = .callSide)
    (free : s.call[l].bearer = none) : faultEntry l k (s.faultTaken l) =
      s.faulted l k s.bearers s.arbiter.handover (s.reports.append true (s.faultReport l k)) := by
  have used : releaseUse l .fault ((s.faultTaken l).report true (s.faultReport l k)) =
      s.faultFreed l s.bearers s.arbiter.handover (s.reports.append true (s.faultReport l k)) := by
    rw [releaseUse, show ((s.faultTaken l).report true (s.faultReport l k)).call[l].bearer = none from free]
    rfl
  have entry : faultEntry l k (s.faultTaken l) = callTarget l .openLoop (enter l (faultedRecord k)
      (releaseUse l .fault ((s.faultTaken l).report true (s.faultReport l k)))) := rfl
  rw [entry, used, faultFreed_enters retried control]

theorem faultEntry_bearer (retried : k ≠ .foreignVoltage) (control : s.feed[l].control = .callSide)
    (names : s.call[l].bearer = some b) (line : (s.bearer b).line = some l) : faultEntry l k (s.faultTaken l) =
      s.faulted l k { s.bearers with
          recs := s.bearers.recs.set b (s.clearingRecord b l)
          connection := s.bearers.connection.filter fun x => x ≠ b }
        (if s.arbiter.handover.map Handover.bearer = some b then none else s.arbiter.handover)
        ((s.reports.append true (s.faultReport l k)).append (s.urgentFor l)
          { kind := .release, line := some l, bearer := some b, value := some 1 }) := by
  have used : releaseUse l .fault ((s.faultTaken l).report true (s.faultReport l k)) =
      s.faultFreed l { s.bearers with
          recs := s.bearers.recs.set b (s.clearingRecord b l)
          connection := s.bearers.connection.filter fun x => x ≠ b }
        (if s.arbiter.handover.map Handover.bearer = some b then none else s.arbiter.handover)
        ((s.reports.append true (s.faultReport l k)).append (s.urgentFor l)
          { kind := .release, line := some l, bearer := some b, value := some 1 }) := by
    rw [releaseUse, show ((s.faultTaken l).report true (s.faultReport l k)).call[l].bearer = some b from names]
    dsimp only
    rw [clearBearer_frame_of (s := (s.faultTaken l).report true (s.faultReport l k)) line]
    rfl
  have entry : faultEntry l k (s.faultTaken l) = callTarget l .openLoop (enter l (faultedRecord k)
      (releaseUse l .fault ((s.faultTaken l).report true (s.faultReport l k)))) := rfl
  rw [entry, used, faultFreed_enters retried control]

/-! ## What fault entry leaves -/

theorem beside_sameBut {x : Vector Supervision 32} {y : Monitor} (sup : x = s.sup)
    (watch : y.watch = s.monitor.watch) : SameBut [.quietRun] s (s.beside x y) := by
  simp [sameBut_iff, State.beside, sup, watch]

theorem faulted_sameBut {bs : BearerTable} {h : Option Handover} {q : Reports} :
    SameBut [.sup, .brk, .feed, .call, .bearers, .arbiter, .ringer, .reports, .quietRun] s (s.faulted l k bs h q) := by
  simp [sameBut_iff, State.faulted, Monitor.watch]

theorem faulted_otherLines {bs : BearerTable} {h : Option Handover} {q : Reports} :
    OtherLines l s (s.faulted l k bs h q) := fun _ ne =>
  ⟨rfl, (set_get ..).trans (if_neg ne), (set_get ..).trans (if_neg ne), (set_get ..).trans (if_neg ne),
    (set_get ..).trans (if_neg ne)⟩

theorem faulted_leaves {bs : BearerTable} {h : Option Handover} {q : Reports}
    (frame : SameBut [.quietRun] (s.faulted l k bs h q) t) :
    SameBut [.sup, .brk, .feed, .call, .bearers, .arbiter, .ringer, .reports, .quietRun] s t ∧ OtherLines l s t ∧
      t.sup[l] = { s.sup[l] with hookCount := 0, overCount := 0, foreignCount := 0 } ∧ t.brk[l] = {} ∧
      t.feed[l] = s.feed[l].protect ∧ t.call[l] = faultedCall k ∧
      t.ringer = (if s.call[l].state = .ringing then s.ringerWithout l else s.ringer) ∧
      t.arbiter = { s.arbiter with arrivals := s.arbiter.arrivals.filter fun a => a.line ≠ l, handover := h } ∧
      t.bearers = bs ∧ t.reports = q := by
  have sup : t.sup = (s.faulted l k bs h q).sup := frame .sup (by decide)
  have brk : t.brk = (s.faulted l k bs h q).brk := frame .brk (by decide)
  have feed : t.feed = (s.faulted l k bs h q).feed := frame .feed (by decide)
  have call : t.call = (s.faulted l k bs h q).call := frame .call (by decide)
  refine ⟨SameBut.trans faulted_sameBut (SameBut.mono (by decide) frame),
    faulted_otherLines.trans (.ofSameBut frame (by decide)), ?_, ?_, ?_, ?_, frame .ringer (by decide),
    frame .arbiter (by decide), frame .bearers (by decide), frame .reports (by decide)⟩
  · rw [sup]
    exact (set_get ..).trans (if_pos rfl)
  · rw [brk]
    exact (set_get ..).trans (if_pos rfl)
  · rw [feed]
    exact (set_get ..).trans (if_pos rfl)
  · rw [call]
    exact (set_get ..).trans (if_pos rfl)

theorem faultDecision_entered (control : s.feed[l].control = .callSide)
    (state : s.call[l].state = .idle ∨ s.call[l].state = .waiting ∨ s.call[l].state = .seizing ∨
      s.call[l].state = .connected ∨ s.call[l].state = .ringing ∨ s.call[l].state = .lockout) :
    faultDecision l k s = reconsiderIf (s.inHandover l) (faultEntry l k (s.faultTaken l)) := by
  have supervised : s.call[l].state.supervised = true := by
    rcases state with h | h | h | h | h | h <;> rw [h] <;> rfl
  rw [faultDecision_eq supervised control, callFault_enters (s := s.faultTaken l) state]
  rfl

end

/-- Settles O33: by the state that fault entry leaves. -/
theorem faultEntryHolds : Obligations.FaultEntry := by
  intro s l control counts feed faulted entered abandoned
  have feedIs : s.feed[l].protect = feed := rfl
  have enters {k : FaultKind} (retried : k ≠ .foreignVoltage)
      (state : s.call[l].state = .idle ∨ s.call[l].state = .waiting ∨ s.call[l].state = .seizing ∨
        s.call[l].state = .connected ∨ s.call[l].state = .ringing ∨ s.call[l].state = .lockout)
      (other : s.arbiter.handover.map Handover.line ≠ some l)
      (named : ∀ b, s.call[l].bearer = some b → (s.bearer b).line = some l ∧
        s.arbiter.handover.map Handover.bearer ≠ some b) : entered k (event (faultDecision l k) s) := by
    have once : faultDecision l k s = faultEntry l k (s.faultTaken l) := by
      rw [faultDecision_entered control state, State.inHandover, decide_eq_false other]
      rfl
    dsimp only [entered]
    cases names : s.call[l].bearer with
    | none =>
      have eq := once.trans (faultEntry_free retried control names)
      obtain ⟨frame, others, sup, brk, feed, call, ringer, arbiter, bearers, reports⟩ :=
        faulted_leaves (sameBut_event_of eq)
      rw [State.faultReport, names] at reports
      refine ⟨frame, others, ?_, event_quiet (by rw [eq]; rfl), sup, brk, feed, call, ringer, arbiter, bearers, reports⟩
      rw [SameLink, bearers]
      exact ⟨rfl, rfl⟩
    | some b =>
      obtain ⟨line, free⟩ := named b names
      have eq := once.trans (faultEntry_bearer retried control names line)
      rw [if_neg free] at eq
      obtain ⟨frame, others, sup, brk, feed, call, ringer, arbiter, bearers, reports⟩ :=
        faulted_leaves (sameBut_event_of eq)
      rw [State.faultReport, names] at reports
      refine ⟨frame, others, ?_, event_quiet (by rw [eq]; rfl), sup, brk, feed, call, ringer, arbiter, fun c ne => ?_, ?_,
        by rw [bearers], reports⟩
      · rw [SameLink, bearers]
        exact ⟨rfl, rfl⟩
      · rw [State.bearer, bearers]
        exact bearer_set_ne ne
      · rw [State.bearer, bearers]
        exact (set_get ..).trans (if_pos rfl)
  have abandons {k : FaultKind} {b : Bearer} {left : Nat} (retried : k ≠ .foreignVoltage) (seizing : s.call[l].state = .seizing)
      (names : s.call[l].bearer = some b) (line : (s.bearer b).line = some l)
      (handover : s.arbiter.handover = some { bearer := b, line := l, left := left }) :
      SameBut [.quietRun] (reconsider (abandoned b k)) (event (faultDecision l k) s) ∧
        (event (faultDecision l k) s).monitor.quiet = false := by
    have eq : faultDecision l k s = reconsider ((abandoned b k).beside (abandoned b k).sup (s.faultTaken l).monitor) := by
      have entered := faultEntry_bearer retried control names line
      rw [if_pos (by rw [handover]; rfl), State.faultReport, names] at entered
      have flight : s.inHandover l = true := by
        rw [State.inHandover, handover]
        exact decide_eq_true rfl
      rw [faultDecision_entered control (.inr (.inr (.inl seizing))), entered, flight, State.faulted,
        if_neg (by rw [seizing]; decide)]
      rfl
    rw [reconsider_beside (s := abandoned b k) (x := (abandoned b k).sup) (m := (s.faultTaken l).monitor)
      ⟨fun _ => rfl, rfl⟩] at eq
    have kept : SameBut callParts (abandoned b k) (reconsider (abandoned b k)) := reconsider_sameBut
    have same : SameBut [.quietRun] (reconsider (abandoned b k))
        ((reconsider (abandoned b k)).beside (abandoned b k).sup (s.faultTaken l).monitor) :=
      beside_sameBut (kept .sup (by decide)).symm (kept .watch (by decide)).symm
    refine ⟨SameBut.trans same (sameBut_event_of eq), event_quiet ?_⟩
    rw [eq]
    rfl
  refine ⟨fun state other named => ⟨⟨_, rfl, enters (by decide) state other named⟩,
    ⟨_, rfl, enters (by decide) state other named⟩⟩, fun b left seizing names line _ handover =>
    ⟨⟨_, rfl, abandons (by decide) seizing names line handover⟩, ⟨_, rfl, abandons (by decide) seizing names line handover⟩⟩⟩

end Sys2Proof.Machine
end

section
/-! Chapter 5: the retries of a fault, and the end of ringing. -/

namespace Sys2Proof.Machine

section
variable {s t u : State} {l m : Line} {b c : Bearer} {k : FaultKind}

theorem SameBut.symm {parts : List Part} (h : SameBut parts s t) : SameBut parts t s := by
  intro p out
  have same := h p out
  cases p with
  | quietRun => exact ⟨same.1.symm, same.2.symm⟩
  | _ => exact Eq.symm same

/-! ## Retries (R98) -/

theorem runs_of {r : CallRecord} {left : Nat} {kind : TimerKind} (timer : r.timer = some { kind := kind, left := left }) :
    r.runs kind = true := by
  rw [CallRecord.runs, timer]
  exact decide_eq_true rfl

theorem retryWaitExpiry_eq {left : Nat} (faulted : s.call[l].state = .faulted)
    (timer : s.call[l].timer = some { kind := .retryWait, left := left }) : retryWaitExpiry l s = { s with
      feed := s.feed.set l (s.feed[l].callTarget .standby)
      call := s.call.set l
        { s.call[l] with retry := some .look, timer := some { kind := .retryLook, left := 1000 } } } :=
  if_pos ⟨faulted, runs_of timer⟩

theorem beside_sameBut_sup {x : Vector Supervision 32} {y : Monitor} (watch : y.watch = s.monitor.watch) :
    SameBut [.sup, .quietRun] s (s.beside x y) := by
  simp [sameBut_iff, State.beside, watch]

/-- The state in which the look has cleared the fault. -/
def State.faultCleared (s : State) (l : Line) : State := { s with
  call := s.call.set l { state := .idle }
  brk := s.brk.set l {}
  feed := s.feed.set l (s.feed[l].callTarget .standby)
  arbiter := { s.arbiter with arrivals := s.arbiter.arrivals.filter fun a => a.line ≠ l }
  reports := s.reports.append true { kind := .faultCleared, line := some l } }

theorem retryLookExpiry_eq {left : Nat} (faulted : s.call[l].state = .faulted)
    (timer : s.call[l].timer = some { kind := .retryLook, left := left }) : retryLookExpiry l s =
      match s.sup[l].hook with
      | .offHook => offHookHandling l (s.faultCleared l)
      | .onHook => s.faultCleared l := by
  have idle : goIdle l (s.report true { kind := .faultCleared, line := some l }) = s.faultCleared l := by
    rw [goIdle_frame_unrung (by exact fun ringing => nomatch faulted.symm.trans ringing)]
    rfl
  unfold retryLookExpiry
  dsimp only
  rw [if_pos ⟨faulted, runs_of timer⟩, idle] <;> rfl

theorem faultCleared_sameBut : SameBut [.brk, .feed, .call, .arbiter, .reports] s (s.faultCleared l) := by
  simp [sameBut_iff, State.faultCleared]

theorem faultCleared_otherLines : OtherLines l s (s.faultCleared l) := fun _ ne =>
  ⟨rfl, rfl, (set_get ..).trans (if_neg ne), (set_get ..).trans (if_neg ne), (set_get ..).trans (if_neg ne)⟩

theorem callTarget_same {x : FeedMode} (same : s.feed[l].callTarget x = s.feed[l]) : callTarget l x s = s := by
  rw [callTarget_frame, same, setFeed_self]

/-- A fault decision during a look returns the line to its retry wait. -/
theorem faultDecision_look (faulted : s.call[l].state = .faulted) (look : s.call[l].retry = some .look)
    (control : s.feed[l].control = .callSide) : faultDecision l k s = { s.faultTaken l with
      call := s.call.set l { s.call[l] with
        fault := some k, retry := some .wait, timer := some { kind := .retryWait, left := 10000 } } } := by
  have supervised : s.call[l].state.supervised = true := by rw [faulted]; rfl
  have state : (s.faultTaken l).call[l].state = .faulted := faulted
  have open_ {x : CallRecord} : ((s.faultTaken l).setCall l x).feed[l].callTarget .openLoop =
      ((s.faultTaken l).setCall l x).feed[l] := faultTaken_target control
  rw [faultDecision_eq supervised control, callFault]
  dsimp only
  rw [state]
  dsimp only
  rw [if_pos (by exact look), callTarget_same open_, ← state]
  rfl

end

theorem protect_open {f : Feed} : f.protect.target = .openLoop ∧ f.protect.current = .openLoop := by
  by_cases there : f.current = .openLoop
  · have eq : f.protect = { f with target := .openLoop } := if_pos there
    rw [eq]
    exact ⟨rfl, there⟩
  · have eq : f.protect = ({ f with target := .openLoop } : Feed).drive .openLoop := if_neg there
    rw [eq]
    exact ⟨rfl, rfl⟩

/-- Settles O34: by the state that each expiry and decision leaves. -/
theorem faultIsRetried : Obligations.FaultIsRetried := by
  intro s l faulted
  refine ⟨fun left timer => ?_, fun left timer onHook => ?_, fun left timer offHook => ?_, fun look control => ?_⟩
  · have eq := retryWaitExpiry_eq faulted timer
    refine ⟨event (retryWaitExpiry l) s, rfl, SameBut.event ?_ (by decide), OtherLines.event ?_, ?_, ?_⟩
    · rw [eq]
      simp [sameBut_iff]
    · rw [eq]
      exact fun m ne => ⟨rfl, rfl, rfl, (set_get ..).trans (if_neg ne), (set_get ..).trans (if_neg ne)⟩
    · rw [event_feed, eq]
      exact (set_get ..).trans (if_pos rfl)
    · rw [event_call, eq]
      exact (set_get ..).trans (if_pos rfl)
  · have eq : retryLookExpiry l s = s.faultCleared l := by rw [retryLookExpiry_eq faulted timer, onHook]
    refine ⟨event (retryLookExpiry l) s, rfl, SameBut.event ?_ (by decide), OtherLines.event ?_, ?_, ?_, ?_⟩
    · rw [eq]
      exact SameBut.mono (by decide) faultCleared_sameBut
    · rw [eq]
      exact faultCleared_otherLines
    · rw [event_feed, eq]
      exact (set_get ..).trans (if_pos rfl)
    · rw [event_call, eq]
      exact (set_get ..).trans (if_pos rfl)
    · rw [event_reports, eq]
      rfl
  · intro cleared
    have eq : retryLookExpiry l s = offHookHandling l cleared := by rw [retryLookExpiry_eq faulted timer, offHook] <;> rfl
    let hung : State := { cleared with sup := s.sup.set l { s.sup[l] with hook := .onHook } }
    have idle : hung.call[l].state = .idle := congrArg CallRecord.state ((set_get ..).trans (if_pos rfl))
    have on : hung.sup[l].hook = .onHook := congrArg Supervision.hook ((set_get ..).trans (if_pos rfl))
    have alike : cleared.alike (hookTaken l .offHook hung).sup (hookTaken l .offHook hung).monitor := by
      refine ⟨fun m => ?_, rfl⟩
      change (((s.sup.set l _).set l _)[m]).hook = s.sup[m].hook
      rw [set_get, set_get]
      split
      · next same => rw [same, offHook]
      · next ne => exact congrArg Supervision.hook ((set_get ..).trans (if_neg ne))
    have kept : SameBut callParts cleared (offHookHandling l cleared) := offHookHandling_sameBut
    have decided : hookDecision l hung = (offHookHandling l cleared).beside (hookTaken l .offHook hung).sup
        (hookTaken l .offHook hung).monitor := by
      rw [hookDecision_idle idle on]
      exact offHookHandling_beside alike
    refine ⟨event (retryLookExpiry l) s, event (hookDecision l) hung, rfl, rfl, ?_, ?_⟩
    · have same : SameBut [.sup, .quietRun] (offHookHandling l cleared) ((offHookHandling l cleared).beside
          (hookTaken l .offHook hung).sup (hookTaken l .offHook hung).monitor) :=
        beside_sameBut_sup (kept .watch (by decide)).symm
      have decided : SameBut [.sup, .quietRun] (offHookHandling l cleared) (event (hookDecision l) hung) :=
        SameBut.then same (sameBut_event_of decided) (by decide)
      exact SameBut.then (SameBut.symm decided) (sameBut_event_of eq) (by decide)
    · rw [event_sup, eq]
      exact kept .sup (by decide)
  · intro returned
    have returns {k : FaultKind} : returned k (event (faultDecision l k) s) := by
      have eq := faultDecision_look (k := k) faulted look control
      have feed : (event (faultDecision l k) s).feed[l] = s.feed[l].protect := by
        rw [event_feed, eq]
        exact (set_get ..).trans (if_pos rfl)
      refine ⟨SameBut.event ?_ (by decide), OtherLines.event ?_, event_quiet (by rw [eq]; rfl), ?_, ?_, ?_, ?_⟩
      · rw [eq]
        simp [sameBut_iff, State.faultTaken, Monitor.watch]
      · rw [eq]
        exact fun m ne => ⟨rfl, (set_get ..).trans (if_neg ne), rfl, (set_get ..).trans (if_neg ne),
          (set_get ..).trans (if_neg ne)⟩
      · rw [event_sup, eq]
        exact (set_get ..).trans (if_pos rfl)
      · rw [feed]
        exact protect_open.1
      · rw [feed]
        exact protect_open.2
      · rw [event_call, eq]
        exact (set_get ..).trans (if_pos rfl)
    exact ⟨⟨_, rfl, returns⟩, ⟨_, rfl, returns⟩⟩

end Sys2Proof.Machine
end

section
/-! Chapter 5: the end of ringing. -/

namespace Sys2Proof.Machine

section
variable {s t u : State} {l m : Line} {b c : Bearer} {f : State → State}

/-! ## Events that leave the quiet condition failing -/

theorem quietCondition_busy (busy : (s.bearer b).state.busy = true) : s.quietCondition = false := by
  have all : (allBearers.all fun b => !(s.bearer b).state.busy) = false :=
    List.all_eq_false.mpr ⟨b, List.mem_finRange b, by simp [busy]⟩
  rw [State.quietCondition, all]
  simp

theorem event_unquiet (h : (f s).quietCondition = false) : (event f s).monitor.quiet = false := by
  unfold event runQuiet
  dsimp only
  rw [if_neg (by rw [h]; exact Bool.false_ne_true)]
  rfl

/-! ## An answered call (R93) -/

/-- The state in which a Ringing line has been answered. -/
def State.answered (s : State) (l : Line) (b : Bearer) : State := { s with
  call := s.call.set l { state := .connected, bearer := some b, path := .bearer b }
  brk := s.brk.set l {}
  feed := s.feed.set l (s.feed[l].callTarget .active)
  bearers := { s.bearers with
    recs := s.bearers.recs.set b { s.bearer b with state := .engaged }
    connection := s.bearers.connection ++ [b] }
  arbiter := { s.arbiter with arrivals := s.arbiter.arrivals.filter fun a => a.line ≠ l }
  ringer := s.ringerWithout l
  reports := s.reports.append (s.urgentFor l) { kind := .answer, line := some l, bearer := some b } }

theorem answerCall_eq (ringing : s.call[l].state = .ringing) (names : s.call[l].bearer = some b)
    (line : (s.bearer b).line = some l) : answerCall l s = s.answered l b := by
  have untimed : (s.call[l].state.timed && (connectedRecord b).state.timed) = false := by rw [ringing]; rfl
  have without : (engage b l s).ringerWithout l = s.ringerWithout l := ringerWithout_congr rfl rfl rfl fun _ _ => rfl
  have call : (engage b l s).call[l] = s.call[l] := rfl
  unfold answerCall
  rw [names]
  dsimp only
  rw [callTarget_frame, enter_frame_quiet (by simp [connectedRecord]), without, call, untimed, if_pos ringing, engage_frame,
    give_engaged line]
  rfl

theorem answered_sameBut : SameBut [.brk, .feed, .call, .bearers, .arbiter, .ringer, .reports] s (s.answered l b) := by
  simp [sameBut_iff, State.answered]

theorem answered_otherLines : OtherLines l s (s.answered l b) := fun _ ne =>
  ⟨rfl, rfl, (set_get ..).trans (if_neg ne), (set_get ..).trans (if_neg ne), (set_get ..).trans (if_neg ne)⟩

/-- What an answer leaves. -/
def Answered (l : Line) (b : Bearer) (s t : State) : Prop :=
  SameBut [.sup, .brk, .feed, .call, .bearers, .arbiter, .ringer, .reports, .quietRun] s t ∧
    OtherLines l s t ∧ OtherBearers b s t ∧ SameLink s t ∧ t.monitor.quiet = false ∧
    t.call[l] = { state := .connected, bearer := some b, path := .bearer b } ∧
    t.feed[l] = s.feed[l].callTarget .active ∧ t.bearer b = { s.bearer b with state := .engaged } ∧
    t.bearers.connection = s.bearers.connection ++ [b] ∧ t.ringPlace l = none ∧ t.ringer = s.ringerWithout l ∧
    t.reports = s.reports.append (s.urgentFor l) { kind := .answer, line := some l, bearer := some b }

/-- An event that answers the line, the hook state having been set and Quiet operation perhaps ended. -/
theorem event_answered {x : Supervision} {y : Monitor} (watch : y.watch = s.monitor.watch)
    (eq : f s = (s.beside (s.sup.set l x) y).answered l b) :
    Answered l b s (event f s) ∧ (event f s).sup[l] = x := by
  have without : (s.beside (s.sup.set l x) y).ringerWithout l = s.ringerWithout l :=
    ringerWithout_congr rfl rfl rfl fun _ _ => rfl
  have ringer : (event f s).ringer = s.ringerWithout l := by rw [event_ringer, eq, ← without]; rfl
  have engaged : (event f s).bearer b = { s.bearer b with state := .engaged } := by
    rw [event_bearer, eq]
    exact (set_get ..).trans (if_pos rfl)
  have busy : ((f s).bearer b).state.busy = true := by
    rw [eq, show ((s.beside (s.sup.set l x) y).answered l b).bearer b = { s.bearer b with state := .engaged } from
      (set_get ..).trans (if_pos rfl)]
    rfl
  have besides : SameBut [.sup, .quietRun] s (s.beside (s.sup.set l x) y) := beside_sameBut_sup watch
  refine ⟨⟨SameBut.event ?_ (by decide), OtherLines.event ?_, OtherBearers.event ?_, SameLink.event ?_,
    event_unquiet (quietCondition_busy busy), ?_, ?_, engaged, ?_, ringPlace_without ringer, ringer, ?_⟩, ?_⟩
  · rw [eq]
    exact SameBut.then (SameBut.mono (by decide) besides) answered_sameBut (by decide)
  · rw [eq]
    have others : OtherLines l s (s.beside (s.sup.set l x) y) :=
      fun _ ne => ⟨rfl, (set_get ..).trans (if_neg ne), rfl, rfl, rfl⟩
    exact others.trans answered_otherLines
  · rw [eq]
    exact fun c ne => bearer_set_ne ne
  · rw [eq]
    exact ⟨rfl, rfl⟩
  · rw [event_call, eq]
    exact (set_get ..).trans (if_pos rfl)
  · rw [event_feed, eq]
    exact (set_get ..).trans (if_pos rfl)
  · rw [event_bearers, eq]
    rfl
  · rw [event_reports, eq]
    rfl
  · rw [event_sup, eq]
    exact (set_get ..).trans (if_pos rfl)

/-! ## The ring limit (R94) -/

theorem ringLimitReached_eq (ringing : s.call[l].state = .ringing) (names : s.call[l].bearer = some b)
    (line : (s.bearer b).line = some l) (free : s.arbiter.handover.map Handover.bearer ≠ some b) :
    ringLimitReached l s = { s with
      call := s.call.set l { state := .idle }
      brk := s.brk.set l {}
      feed := s.feed.set l (s.feed[l].callTarget .standby)
      bearers := { s.bearers with
        recs := s.bearers.recs.set b (s.clearingRecord b l)
        connection := s.bearers.connection.filter fun x => x ≠ b }
      arbiter := { s.arbiter with arrivals := s.arbiter.arrivals.filter fun a => a.line ≠ l }
      ringer := s.ringerWithout l
      reports := s.reports.append (s.urgentFor l) { kind := .ringTimeout, line := some l, bearer := some b } } := by
  let r : State := { s with
    bearers := { s.bearers with
      recs := s.bearers.recs.set b (s.clearingRecord b l)
      connection := s.bearers.connection.filter fun x => x ≠ b }
    reports := s.reports.append (s.urgentFor l) { kind := .ringTimeout, line := some l, bearer := some b } }
  have cleared : clearBearer b (s.lineReport .ringTimeout l (some b) none) = r := by
    have freeThen : (s.lineReport .ringTimeout l (some b) none).arbiter.handover.map Handover.bearer ≠ some b := free
    rw [clearBearer_frame_of (s := s.lineReport .ringTimeout l (some b) none) line, if_neg freeThen]
    rfl
  have without : r.ringerWithout l = s.ringerWithout l := ringerWithout_congr rfl rfl rfl fun _ _ => rfl
  unfold ringLimitReached
  rw [if_pos ringing, names]
  dsimp only
  rw [cleared, goIdle_frame, without, if_pos (by exact ringing)]

/-! ## A ring-trip decision elsewhere (R20) -/

theorem callHook_ringing (ringing : s.call[l].state = .ringing) : callHook l .offHook s = answerCall l s := by
  unfold callHook
  rw [ringing]

theorem deliverHook_quiet : (deliverHook l s).monitor.quiet = false := by
  unfold deliverHook
  dsimp only
  split
  · exact (breakDecision_sameBut .quietRun (by decide)).1
  · exact (callHook_sameBut .quietRun (by decide)).1

end

/-- Settles O35: by the states that an answer and the ring limit leave. -/
theorem ringingEnds : Obligations.RingingEnds := by
  refine ⟨fun s l b ringing names line => ?_, fun s l => ⟨fun unrung enabled untested => ?_, fun state => ?_⟩⟩
  · intro answered
    refine ⟨?_, fun on => ?_, fun free => ?_⟩
    · have eq : ringTripDecision l s = (s.beside (s.sup.set l
          { s.sup[l] with hook := .offHook, hookCount := 0, ringTripCount := 0, ringTripTaken := true })
            s.monitor).answered l b := by
        have taken {x : Supervision} : (s.setSup l x).call[l].state = .ringing := ringing
        unfold ringTripDecision
        dsimp only
        rw [if_pos (by rw [ringing]; rfl), if_pos taken]
        exact answerCall_eq (s := s.setSup l _) ringing names line
      exact ⟨_, rfl, event_answered rfl eq⟩
    · have eq : hookDecision l s = (s.beside (s.sup.set l { s.sup[l] with hook := .offHook, hookCount := 0 })
          { s.monitor with quiet := false }).answered l b := by
        have state : (hookTaken l .offHook s).call[l].state = .ringing := ringing
        rw [hookDecision_eq (by rw [ringing]; rfl) (h := .offHook) (by rw [on]; decide),
          if_neg (by rw [ringing]; decide), callHook_ringing state]
        exact answerCall_eq (s := hookTaken l .offHook s) ringing names line
      exact ⟨_, rfl, event_answered (y := { s.monitor with quiet := false }) rfl eq⟩
    · have eq := ringLimitReached_eq ringing names line free
      have ringer : (event (ringLimitReached l) s).ringer = s.ringerWithout l := by rw [event_ringer, eq]
      refine ⟨event (ringLimitReached l) s, rfl, SameBut.event ?_ (by decide), OtherLines.event ?_, OtherBearers.event ?_,
        SameLink.event ?_, ?_, ?_, ?_, ringPlace_without ringer, ringer, ?_⟩
      · rw [eq]
        simp [sameBut_iff]
      · rw [eq]
        exact fun _ ne => ⟨rfl, rfl, (set_get ..).trans (if_neg ne), (set_get ..).trans (if_neg ne),
          (set_get ..).trans (if_neg ne)⟩
      · rw [eq]
        exact fun c ne => bearer_set_ne ne
      · rw [eq]
        exact ⟨rfl, rfl⟩
      · rw [event_call, eq]
        exact (set_get ..).trans (if_pos rfl)
      · rw [event_feed, eq]
        exact (set_get ..).trans (if_pos rfl)
      · rw [event_bearer, eq]
        exact (set_get ..).trans (if_pos rfl)
      · rw [event_reports, eq]
  · intro trip
    let tripped : State := { s with sup := s.sup.set l trip }
    have supervised : s.call[l].state.supervised = true := by
      revert enabled untested
      cases s.call[l].state <;> decide
    have tripSup : tripped.sup[l] = trip := (set_get ..).trans (if_pos rfl)
    let v : State := s.setSup l { trip with hook := .offHook, hookCount := 0 }
    have trips : ringTripDecision l s = deliverHook l v := by
      have taken : v.call[l].state ≠ .ringing := unrung
      unfold ringTripDecision
      dsimp only
      rw [if_pos supervised]
      exact if_neg taken
    have hooks : hookDecision l tripped = deliverHook l v := by
      have same : tripped.setSup l { trip with hook := .offHook, hookCount := 0 } = v :=
        congrArg (fun x => { s with sup := x }) (Vector.set_set ..)
      unfold hookDecision
      dsimp only
      rw [if_pos (by exact supervised), tripSup]
      exact congrArg (deliverHook l) same
    refine ⟨_, event (hookDecision l) tripped, rfl, rfl,
      SameBut.trans (SameBut.symm (sameBut_event_of hooks)) (sameBut_event_of trips), event_quiet ?_, ?_⟩
    · rw [trips]
      exact deliverHook_quiet
    · rw [event_sup, trips, deliverHook_sup]
      exact (set_get ..).trans (if_pos rfl)
  · have eq : ringTripDecision l s = s := by
      refine if_neg ?_
      rcases state with h | h <;> rw [h] <;> decide
    exact ⟨_, rfl, sameBut_event_of eq⟩

end Sys2Proof.Machine
end

section
/-! Chapter 5: the course of a lockout, and the answer timer. -/

namespace Sys2Proof.Machine

section
variable {s t : State} {l m : Line} {b c : Bearer} {f : State → State}

/-! ## The phases of a lockout (R95, R96) -/

theorem waitLimitExpiry_eq {left : Nat} (waiting : s.call[l].state = .waiting)
    (timer : s.call[l].timer = some { kind := .wait, left := left }) (offHook : s.sup[l].hook = .offHook) :
    waitLimitExpiry l s = { s with
      call := s.call.set l (s.lockedOut .congestion)
      brk := s.brk.set l {}
      feed := s.feed.set l (s.feed[l].callTarget .active)
      arbiter := { s.arbiter with arrivals := s.arbiter.arrivals.filter fun a => a.line ≠ l } } := by
  have call : s.lockoutCall l .congestion = s.lockedOut .congestion := by rw [State.lockoutCall, offHook]
  have feed : s.lockoutFeed l = s.feed[l].callTarget .active := by rw [State.lockoutFeed, offHook]
  rw [waitLimitExpiry, if_pos ⟨waiting, runs_of timer⟩, enterLockout_frame_unrung (by rw [waiting]; decide), call, feed]

theorem tonePhaseEnd_eq (lockout : s.call[l].state = .lockout) (tone : s.call[l].phase = some .tone) :
    tonePhaseEnd l s = { s with
      feed := s.feed.set l (s.feed[l].callTarget .active)
      call := s.call.set l { s.call[l] with
        path := .tone .howler, phase := some .howler, preemptionTone := none
        timer := some { kind := .howlerPhase, left := 1000 * s.tables.timers.howler.toNat } } } := by
  rw [Nat.mul_comm]
  exact if_pos ⟨lockout, tone⟩

theorem preemptionToneEnd_eq (lockout : s.call[l].state = .lockout) (tone : s.call[l].phase = some .tone)
    (sounds : s.call[l].preemptionTone ≠ none) : preemptionToneEnd l s =
      s.setCall l { s.call[l] with path := .tone .congestion, preemptionTone := none } :=
  if_pos ⟨lockout, tone, Option.isSome_iff_ne_none.mpr sounds⟩

theorem howlerPhaseEnd_eq (lockout : s.call[l].state = .lockout) (howler : s.call[l].phase = some .howler) :
    howlerPhaseEnd l s = { s with
      feed := s.feed.set l (s.feed[l].callTarget .standby)
      call := s.call.set l { s.call[l] with path := .none, phase := some .parked, timer := none } } :=
  if_pos ⟨lockout, howler⟩

theorem callHook_lockout (lockout : s.call[l].state = .lockout) : callHook l .onHook s = goIdle l s := by
  unfold callHook
  rw [lockout]

/-- An OnHook decision takes a line in Lockout to Idle. -/
theorem hookDecision_lockout (lockout : s.call[l].state = .lockout) (off : s.sup[l].hook = .offHook) :
    hookDecision l s = { hookTaken l .onHook s with
      call := s.call.set l { state := .idle }
      brk := s.brk.set l {}
      feed := s.feed.set l (s.feed[l].callTarget .standby)
      arbiter := { s.arbiter with arrivals := s.arbiter.arrivals.filter fun a => a.line ≠ l } } := by
  have state : (hookTaken l .onHook s).call[l].state = .lockout := lockout
  rw [hookDecision_eq (by rw [lockout]; rfl) (h := .onHook) (by rw [off]; decide), if_neg (by rw [lockout]; decide),
    callHook_lockout state, goIdle_frame_unrung (by rw [state]; decide)]
  rfl

/-! ## The millisecond in which one line's timers run out -/

/-- The timers of one line act, and those of the others neither before nor after. -/
theorem each_single {α : Type} {f : α → State → State} {xs : List α} {x : α} (mem : x ∈ xs) (once : xs.Nodup)
    (before : ∀ y, y ≠ x → f y s = s) (after : ∀ y, y ≠ x → f y (f x s) = f x s) : each xs f s = f x s := by
  induction xs with
  | nil => exact absurd mem List.not_mem_nil
  | cons y ys ih =>
    obtain ⟨new, once⟩ := List.nodup_cons.mp once
    change each ys f (f y s) = f x s
    by_cases same : y = x
    · subst same
      exact each_idle fun z memZ => after z fun e => new (e ▸ memZ)
    · rw [before y same]
      exact ih ((List.mem_cons.mp mem).resolve_left fun e => same e.symm) once

/-- The event ends Quiet operation where it leaves the quiet condition failing. -/
theorem event_busy (h : (f s).quietCondition = false) :
    event f s = (f s).setMonitor { (f s).monitor with quiet := false, quietTimer := none } := by
  unfold event runQuiet
  dsimp only
  rw [if_neg (by rw [h]; exact Bool.false_ne_true)]

/-- The state in which the answer timer has taken a line to Lockout and its bearer to Clearing. -/
def State.unanswered (s : State) (l : Line) (b : Bearer) : State := { s with
  call := s.call.set l (s.lockedOut .congestion)
  brk := s.brk.set l {}
  feed := s.feed.set l (s.feed[l].callTarget .active)
  bearers := { s.bearers with
    recs := s.bearers.recs.set b (s.clearingRecord b l)
    connection := s.bearers.connection.filter fun x => x ≠ b }
  arbiter := { s.arbiter with arrivals := s.arbiter.arrivals.filter fun a => a.line ≠ l }
  reports := s.reports.append (s.urgentFor l)
    { kind := .release, line := some l, bearer := some b, value := some 0 } }

theorem clearBearer_free (line : (s.bearer b).line = some l) (free : s.arbiter.handover.map Handover.bearer ≠ some b) :
    clearBearer b s = { s with
      bearers := { s.bearers with
        recs := s.bearers.recs.set b (s.clearingRecord b l)
        connection := s.bearers.connection.filter fun x => x ≠ b } } := by
  rw [clearBearer_frame_of line, if_neg free]

theorem answerExpiry_eq {left : Nat} (seizing : s.call[l].state = .seizing)
    (timer : s.call[l].timer = some { kind := .answer, left := left }) (names : s.call[l].bearer = some b)
    (line : (s.bearer b).line = some l) (offHook : s.sup[l].hook = .offHook)
    (free : s.arbiter.handover.map Handover.bearer ≠ some b) : answerExpiry l s = s.unanswered l b := by
  have released : releaseUse l .answerTimeout s = { s with
      bearers := { s.bearers with
        recs := s.bearers.recs.set b (s.clearingRecord b l)
        connection := s.bearers.connection.filter fun x => x ≠ b }
      reports := s.reports.append (s.urgentFor l)
        { kind := .release, line := some l, bearer := some b, value := some 0 } } := by
    rw [releaseUse, names]
    dsimp only
    rw [clearBearer_free line free]
    rfl
  have call : (releaseUse l .answerTimeout s).lockoutCall l .congestion = s.lockedOut .congestion := by
    have hook : (releaseUse l .answerTimeout s).sup[l].hook = .offHook := by rw [released]; exact offHook
    rw [State.lockoutCall, hook, released]
    rfl
  have feed : (releaseUse l .answerTimeout s).lockoutFeed l = s.feed[l].callTarget .active := by
    have hook : (releaseUse l .answerTimeout s).sup[l].hook = .offHook := by rw [released]; exact offHook
    rw [State.lockoutFeed, hook, released]
  rw [answerExpiry, if_pos ⟨seizing, runs_of timer⟩, enterLockout_frame_unrung (by
    rw [released]
    exact fun ringing => nomatch seizing.symm.trans ringing), call, feed, released]
  rfl

theorem State.lineTimersWait.congr (h : s.lineTimersWait l) (call : t.call[l] = s.call[l]) (feed : t.feed[l] = s.feed[l]) :
    t.lineTimersWait l := by
  rw [State.lineTimersWait, call, feed]
  exact h

/-- The state after the event of the answer timer. -/
def State.answerTimedOut (s : State) (l : Line) (b : Bearer) : State :=
  (s.unanswered l b).setMonitor { s.monitor with quiet := false, quietTimer := none }

theorem unanswered_bearer : (s.unanswered l b).bearer b = s.clearingRecord b l := (set_get ..).trans (if_pos rfl)

theorem lineTimers_answer (seizing : s.call[l].state = .seizing)
    (timer : s.call[l].timer = some { kind := .answer, left := 0 }) (names : s.call[l].bearer = some b)
    (line : (s.bearer b).line = some l) (offHook : s.sup[l].hook = .offHook)
    (free : s.arbiter.handover.map Handover.bearer ≠ some b) (settle : s.feed[l].settling = true → s.feed[l].settle ≠ 0)
    (blanking : s.feed[l].blanking ≠ .left 0) (congestion : 1 ≤ s.tables.timers.congestion.toNat) :
    lineTimers l s = s.answerTimedOut l b := by
  have settles : (s.feed[l].settling && decide (s.feed[l].settle = 0)) = false := by
    simpa [-Fin.getElem_fin] using settle
  have expired : event (answerExpiry l) s = s.answerTimedOut l b := by
    have eq := answerExpiry_eq seizing timer names line offHook free
    have busy : (s.unanswered l b).quietCondition = false := quietCondition_busy (b := b) (by rw [unanswered_bearer]; rfl)
    rw [event_busy (by rw [eq]; exact busy), eq]
    rfl
  have due : whenDue (lineDue l .answer) (answerExpiry l) s = s.answerTimedOut l b := by
    rw [whenDue, lineDue, decide_eq_true timer, ← expired]
    rfl
  have record : (s.answerTimedOut l b).call[l] = s.lockedOut .congestion := (set_get ..).trans (if_pos rfl)
  have runs : ∀ t, (s.answerTimedOut l b).call[l].timer = some t → t.left ≠ 0 := by
    rw [record]
    intro t on
    cases on
    change 1000 * _ ≠ 0
    omega
  have tone : (s.answerTimedOut l b).call[l].preemptionTone ≠ some 0 := by
    rw [record]
    nofun
  unfold lineTimers
  dsimp only
  rw [whenDue_idle (s := s) (f := blankingEnd l) (decide_eq_false blanking),
    whenDue_idle (s := s) (f := settleEnd l) settles, due]
  simp only [whenDue_idle, lineDue_idle runs, tone, decide_false]

theorem answerTimedOut_lineTimersWait (ne : m ≠ l) (wait : s.lineTimersWait m) : (s.answerTimedOut l b).lineTimersWait m :=
  wait.congr ((set_get ..).trans (if_neg ne)) ((set_get ..).trans (if_neg ne))

theorem answerTimedOut_guard (guard : 1 ≤ s.tables.timers.guard.toNat) (others : ∀ c, c ≠ b → (s.bearer c).guard ≠ some 0) :
    ((s.answerTimedOut l b).bearer c).guard ≠ some 0 := by
  by_cases same : c = b
  · subst same
    have record : (s.answerTimedOut l c).bearer c = s.clearingRecord c l := unanswered_bearer
    rw [record]
    intro out
    have := Option.some.inj out
    omega
  · have record : (s.answerTimedOut l b).bearer c = s.bearer c := bearer_set_ne same
    rw [record]
    exact others c same

theorem answerTimedOut_unitTimersWait (wait : s.unitTimersWait) : (s.answerTimedOut l b).unitTimersWait := by
  obtain ⟨handover, wheel, test, countdown, audit, -⟩ := wait
  exact ⟨handover, wheel, test, countdown, audit, nofun⟩

/-- The millisecond in which the answer timer of one line runs out, and no other timer. -/
theorem tick_answerTimedOut {left : Nat} (running : s.inRestart = false) (seizing : s.call[l].state = .seizing)
    (timer : s.call[l].timer = some { kind := .answer, left := left }) (last : left ≤ 1)
    (names : s.call[l].bearer = some b) (line : (s.bearer b).line = some l) (offHook : s.sup[l].hook = .offHook)
    (free : s.arbiter.handover.map Handover.bearer ≠ some b)
    (settle : s.feed[l].settling = true → 2 ≤ s.feed[l].settle) (blanking : s.feed[l].blanking = .none)
    (others : ∀ m : Line, m ≠ l → s.lineTimersRun m) (unit : s.unitTimersRun) (bus : s.busTimersRun)
    (congestion : 1 ≤ s.tables.timers.congestion.toNat) (guard : 1 ≤ s.tables.timers.guard.toNat) :
    tick s = (age s).answerTimedOut l b := by
  have aged : (age s).call[l] = { s.call[l] with
      timer := s.call[l].timer.map fun t => { t with left := t.left - 1 }
      preemptionTone := ageTimer s.call[l].preemptionTone } := by
    rw [age_call, CallRecord.age, if_neg (by rw [seizing]; decide)]
  have wait {m : Line} (ne : m ≠ l) : (age s).lineTimersWait m := age_lineTimersWait (others m ne)
  have acts : lineTimers l (age s) = (age s).answerTimedOut l b := by
    refine lineTimers_answer ?_ ?_ ?_ ?_ offHook ?_ ?_ ?_ congestion
    · rw [aged]
      exact seizing
    · rw [aged, timer]
      have out : left - 1 = 0 := by omega
      exact congrArg (fun n => some (LineTimer.mk .answer n)) out
    · rw [aged]
      exact names
    · rw [age_bearer]
      exact line
    · change (s.arbiter.handover.map _).map _ ≠ _
      rw [Option.map_map]
      exact free
    · rw [age_feed]
      intro settling
      have := settle settling
      change s.feed[l].settle - 1 ≠ 0
      omega
    · rw [age_feed, Feed.age, blanking]
      nofun
  have lines : eachLine lineTimers (age s) = (age s).answerTimedOut l b := by
    rw [← acts]
    refine each_single (List.mem_finRange l) (List.nodup_finRange 32) (fun m ne => lineTimers_idle (wait ne)) fun m ne => ?_
    rw [acts]
    exact lineTimers_idle (answerTimedOut_lineTimersWait ne (wait ne))
  have bearers : each allBearers bearerTimers ((age s).answerTimedOut l b) = (age s).answerTimedOut l b :=
    each_idle fun c _ => whenDue_idle (decide_eq_false (answerTimedOut_guard guard fun c _ => age_guard (unit.1 c)))
  have busWait : ((age s).answerTimedOut l b).busTimersWait := age_busTimersWait bus
  rw [tick, running, lines, bearers, unitTimers_idle (answerTimedOut_unitTimersWait (age_unitTimersWait unit)),
    busTimers_idle busWait, lineTimer_idle busWait]
  rfl

end

theorem take_target {f : Feed} {x : FeedMode} : (f.take x).target = x := by
  unfold Feed.take
  dsimp only
  split <;> rfl

theorem callTarget_target {f : Feed} {x : FeedMode} :
    (f.callTarget x).target = if f.control = .callSide then x else f.target := by
  unfold Feed.callTarget
  cases f.control with
  | callSide => exact take_target
  | testUnit => rfl

/-- Settles O32: by the state that each expiry leaves, and for the answer timer by the millisecond in which it alone
runs out. -/
theorem lockoutRunsItsCourse : Obligations.LockoutRunsItsCourse := by
  refine ⟨fun s l => ⟨fun left waiting timer offHook => ?_, fun lockout tone => ⟨?_, fun sounds => ?_⟩,
    fun lockout howler => ?_, fun lockout offHook => ?_⟩, ?_, fun clock => ?_⟩
  · have eq := waitLimitExpiry_eq waiting timer offHook
    refine ⟨event (waitLimitExpiry l) s, rfl, SameBut.event ?_ (by decide), OtherLines.event ?_, ?_, ?_, ?_, ?_⟩
    · rw [eq]
      simp [sameBut_iff]
    · rw [eq]
      exact fun _ ne => ⟨rfl, rfl, (set_get ..).trans (if_neg ne), (set_get ..).trans (if_neg ne),
        (set_get ..).trans (if_neg ne)⟩
    · rw [event_call, eq]
      exact (set_get ..).trans (if_pos rfl)
    · rw [event_brk, eq]
      exact (set_get ..).trans (if_pos rfl)
    · rw [event_feed, eq]
      exact (set_get ..).trans (if_pos rfl)
    · rw [event_arbiter, eq]
  · have eq := tonePhaseEnd_eq lockout tone
    refine ⟨event (tonePhaseEnd l) s, rfl, SameBut.event ?_ (by decide), OtherLines.event ?_, ?_, ?_⟩
    · rw [eq]
      simp [sameBut_iff]
    · rw [eq]
      exact fun _ ne => ⟨rfl, rfl, rfl, (set_get ..).trans (if_neg ne), (set_get ..).trans (if_neg ne)⟩
    · rw [event_feed, eq]
      exact (set_get ..).trans (if_pos rfl)
    · rw [event_call, eq]
      exact (set_get ..).trans (if_pos rfl)
  · have eq := preemptionToneEnd_eq lockout tone sounds
    refine ⟨preemptionToneEnd l s, rfl, ?_, ?_, ?_⟩
    · rw [eq]
      exact setCall_sameBut
    · rw [eq]
      exact setCall_otherLines
    · rw [eq]
      exact (set_get ..).trans (if_pos rfl)
  · have eq := howlerPhaseEnd_eq lockout howler
    refine ⟨event (howlerPhaseEnd l) s, rfl, SameBut.event ?_ (by decide), OtherLines.event ?_, ?_, ?_⟩
    · rw [eq]
      simp [sameBut_iff]
    · rw [eq]
      exact fun _ ne => ⟨rfl, rfl, rfl, (set_get ..).trans (if_neg ne), (set_get ..).trans (if_neg ne)⟩
    · rw [event_feed, eq]
      exact (set_get ..).trans (if_pos rfl)
    · rw [event_call, eq]
      exact (set_get ..).trans (if_pos rfl)
  · have eq := hookDecision_lockout lockout offHook
    refine ⟨event (hookDecision l) s, rfl, SameBut.event ?_ (by decide), OtherLines.event ?_,
      event_quiet (by rw [eq]; rfl), ?_, ?_, ?_, ?_, ?_⟩
    · rw [eq]
      simp [sameBut_iff, hookTaken, endQuiet, State.setMonitor, State.setSup, Monitor.watch]
    · rw [eq]
      exact fun _ ne => ⟨rfl, (set_get ..).trans (if_neg ne), (set_get ..).trans (if_neg ne),
        (set_get ..).trans (if_neg ne), (set_get ..).trans (if_neg ne)⟩
    · rw [event_sup, eq]
      exact hookTaken_sup
    · rw [event_call, eq]
      exact (set_get ..).trans (if_pos rfl)
    · rw [event_brk, eq]
      exact (set_get ..).trans (if_pos rfl)
    · rw [event_feed, eq]
      exact (set_get ..).trans (if_pos rfl)
    · rw [event_arbiter, eq]
  · intro s l b left empty running seizing timer last names line offHook free _ settle blanking others unit bus congestion
      guard
    have eq := tick_answerTimedOut running seizing timer last names line offHook free settle blanking others unit bus
      congestion guard
    refine ⟨(age s).answerTimedOut l b, by rw [step_empty empty, eq], (set_get ..).trans (if_pos rfl), ?_, ?_,
      (set_get ..).trans (if_pos rfl), rfl, rfl, fun m ne => ?_, fun c ne => ?_⟩
    · have record : ((age s).answerTimedOut l b).bearer b = (age s).clearingRecord b l := unanswered_bearer
      rw [record, State.clearingRecord, age_bearer]
      rfl
    · have feed : ((age s).answerTimedOut l b).feed[l] = (age s).feed[l].callTarget .active :=
        (set_get ..).trans (if_pos rfl)
      rw [feed, callTarget_target, age_feed]
      rfl
    · have record : ((age s).answerTimedOut l b).call[m] = s.call[m].age := (set_get ..).trans ((if_neg ne).trans age_call)
      rw [record]
      unfold CallRecord.age
      split <;> exact ⟨rfl, rfl⟩
    · have record : ((age s).answerTimedOut l b).bearer c = (age s).bearer c := bearer_set_ne ne
      rw [record, age_bearer]
      exact ⟨rfl, rfl⟩
  · simp [Tone.isOn]

end Sys2Proof.Machine
end

section
/-! Chapter 7: the cadence wheel passes a phase boundary. -/

namespace Sys2Proof.Machine

section
variable {f : Feed} {x : FeedMode} {st : CallState}

/-! ## A target that is taken twice -/

theorem take_settled {f : Feed} (h : f.settling = true ∨ f.current = x) (target : f.target = x) : f.take x = f := by
  have same : ({ f with target := x } : Feed) = f := by rw [← target]
  unfold Feed.take
  dsimp only
  exact (if_pos (by rcases h with h | h <;> simp [h])).trans same

theorem take_take : (f.take x).take x = f.take x := by
  refine take_settled ?_ take_target
  cases settling : f.settling with
  | true => exact .inl (by rw [take_settling settling]; exact settling)
  | false =>
    by_cases there : f.current = x
    · exact .inr (by rw [take_steady settling there]; exact there)
    · exact .inl (by rw [take_moves settling there]; rfl)

theorem take_control : (f.take x).control = f.control := by
  unfold Feed.take
  dsimp only
  split <;> rfl

theorem callTarget_callTarget : (f.callTarget x).callTarget x = f.callTarget x := by
  cases control : f.control with
  | callSide =>
    have first : f.callTarget x = f.take x := by rw [Feed.callTarget, control]
    rw [first, Feed.callTarget, take_control, control]
    exact take_take
  | testUnit =>
    have first : f.callTarget x = { f with held := some x } := by rw [Feed.callTarget, control]
    rw [first, Feed.callTarget, control]

theorem ringTarget_ringTarget : (f.ringTarget st).ringTarget st = f.ringTarget st := by
  by_cases taken : f.control = .callSide ∧ st = .ringing
  · have first : f.ringTarget st = f.take .ring := if_pos taken
    rw [first, Feed.ringTarget, take_control, if_pos taken]
    exact take_take
  · have first : f.ringTarget st = f := if_neg taken
    rw [first, first]

end

section
variable {s t : State} {l m : Line} {b : Bearer} {xs : List Line} {x : FeedMode}

/-! ## Targets of several lines -/

/-- Feeds changed line by line, by a change that made twice is made once. -/
theorem each_feed {g : Line → Feed → Feed} (twice : ∀ l f, g l (g l f) = g l f) :
    SameBut [.feed] s (each xs (fun l s => s.setFeed l (g l s.feed[l])) s) ∧
      ∀ m : Line, (each xs (fun l s => s.setFeed l (g l s.feed[l])) s).feed[m] =
        if m ∈ xs then g m s.feed[m] else s.feed[m] := by
  induction xs generalizing s with
  | nil => exact ⟨.refl _ s, fun m => (if_neg List.not_mem_nil).symm⟩
  | cons l xs ih =>
    obtain ⟨frame, feeds⟩ := ih (s := s.setFeed l (g l s.feed[l]))
    refine ⟨SameBut.trans setFeed_sameBut frame, fun m => (feeds m).trans ?_⟩
    have first : (s.setFeed l (g l s.feed[l])).feed[m] = if m = l then g l s.feed[l] else s.feed[m] := set_get ..
    rw [first]
    by_cases same : m = l
    · subst same
      rw [if_pos rfl, if_pos List.mem_cons_self, twice, ite_self]
    · rw [if_neg same]
      simp only [List.mem_cons, same, false_or]

theorem each_callTarget : SameBut [.feed] s (each xs (fun l => callTarget l x) s) ∧
    ∀ m : Line, (each xs (fun l => callTarget l x) s).feed[m] =
      if m ∈ xs then s.feed[m].callTarget x else s.feed[m] :=
  each_feed (g := fun _ f => f.callTarget x) fun _ _ => callTarget_callTarget

theorem each_ringTarget : SameBut [.feed] s (each xs ringTarget s) ∧
    ∀ m : Line, (each xs ringTarget s).feed[m] =
      if m ∈ xs then s.feed[m].ringTarget s.call[m].state else s.feed[m] := by
  have same {ys : List Line} {v : State} (call : v.call = s.call) : each ys ringTarget v =
      each ys (fun l v => v.setFeed l (v.feed[l].ringTarget s.call[l].state)) v := by
    induction ys generalizing v with
    | nil => rfl
    | cons l ys ih =>
      have first : ringTarget l v = v.setFeed l (v.feed[l].ringTarget s.call[l].state) := by rw [ringTarget, call]
      change each ys ringTarget (ringTarget l v) = _
      rw [first]
      exact ih call
  rw [same rfl]
  exact each_feed (g := fun l f => f.ringTarget s.call[l].state) fun _ _ => ringTarget_ringTarget

/-! ## The lines that reach the ring limit (R133) -/

theorem ringLimitReached_ringing (ringing : s.call[l].state = .ringing) :
    (ringLimitReached l s).call = s.call.set l { state := .idle } ∧
      (ringLimitReached l s).feed = s.feed.set l (s.feed[l].callTarget .standby) ∧
      (ringLimitReached l s).ringer = s.ringerWithout l := by
  unfold ringLimitReached
  rw [if_pos ringing]
  cases s.call[l].bearer with
  | none =>
    dsimp only
    rw [goIdle_frame, if_pos ringing]
    exact ⟨rfl, rfl, rfl⟩
  | some b =>
    have without : (clearBearer b (s.lineReport .ringTimeout l (some b) none)).ringerWithout l = s.ringerWithout l := by
      rw [clearBearer_frame]
      exact ringerWithout_congr rfl rfl rfl fun _ _ => rfl
    have state : (clearBearer b (s.lineReport .ringTimeout l (some b) none)).call[l].state = .ringing := by
      rw [clearBearer_frame]
      exact ringing
    dsimp only
    rw [goIdle_frame, without, if_pos state, clearBearer_frame]
    exact ⟨rfl, rfl, rfl⟩

theorem ringerWithout_places : (s.ringerWithout l).places m = if m = l then 0 else s.ringer.places m :=
  filledWithout_places

/-- The lines in `xs`, all Ringing, leave Ringing in turn. -/
theorem each_ringLimitReached (once : xs.Nodup) (ringing : ∀ l ∈ xs, s.call[l].state = .ringing) (m : Line) :
    (each xs ringLimitReached s).call[m] = (if m ∈ xs then { state := .idle } else s.call[m]) ∧
      (each xs ringLimitReached s).feed[m] = (if m ∈ xs then s.feed[m].callTarget .standby else s.feed[m]) ∧
      (each xs ringLimitReached s).ringer.counts[m] = (if m ∈ xs then 0 else s.ringer.counts[m]) ∧
      (each xs ringLimitReached s).ringer.places m = if m ∈ xs then 0 else s.ringer.places m := by
  induction xs generalizing s with
  | nil =>
    simp only [List.not_mem_nil, if_false]
    exact ⟨rfl, rfl, rfl, rfl⟩
  | cons l xs ih =>
    obtain ⟨new, once⟩ := List.nodup_cons.mp once
    obtain ⟨call, feed, ringer⟩ := ringLimitReached_ringing (ringing l List.mem_cons_self)
    have others (m : Line) (ne : m ≠ l) : (ringLimitReached l s).call[m] = s.call[m] := by
      rw [call, set_get, if_neg ne]
    obtain ⟨calls, feeds, counts, places⟩ := ih (s := ringLimitReached l s) once fun k mem => by
      rw [others k fun same => new (by rw [← same]; exact mem)]
      exact ringing k (List.mem_cons_of_mem _ mem)
    have count : (s.ringerWithout l).counts[m] = if m = l then 0 else s.ringer.counts[m] := set_get ..
    rw [call, set_get] at calls
    rw [feed, set_get] at feeds
    rw [ringer, count] at counts
    rw [ringer, ringerWithout_places] at places
    have first : each (l :: xs) ringLimitReached s = each xs ringLimitReached (ringLimitReached l s) := rfl
    rw [first, calls, feeds, counts, places]
    by_cases same : m = l
    · subst same
      simp only [new, if_false, if_true, List.mem_cons_self, and_self]
    · simp only [List.mem_cons, same, false_or, if_false, and_self]

theorem each_ringLimitReached_wheel (once : xs.Nodup) (ringing : ∀ l ∈ xs, s.call[l].state = .ringing) :
    ((∃ m ∉ xs, s.call[m].state = .ringing) → (each xs ringLimitReached s).ringer.wheel = s.ringer.wheel) ∧
      (xs ≠ [] → (∀ m : Line, s.call[m].state = .ringing → m ∈ xs) →
        (each xs ringLimitReached s).ringer.wheel = .stopped) := by
  induction xs generalizing s with
  | nil => exact ⟨fun _ => rfl, fun none => absurd rfl none⟩
  | cons l xs ih =>
    obtain ⟨new, once⟩ := List.nodup_cons.mp once
    obtain ⟨call, -, ringer⟩ := ringLimitReached_ringing (ringing l List.mem_cons_self)
    have others (m : Line) (ne : m ≠ l) : (ringLimitReached l s).call[m] = s.call[m] := by
      rw [call, set_get, if_neg ne]
    obtain ⟨stays, stops⟩ := ih (s := ringLimitReached l s) once fun k mem => by
      rw [others k fun same => new (by rw [← same]; exact mem)]
      exact ringing k (List.mem_cons_of_mem _ mem)
    refine ⟨fun ⟨m, out, rings⟩ => ?_, fun _ all => ?_⟩
    · have ne : m ≠ l := fun same => out (same ▸ List.mem_cons_self)
      refine (stays ⟨m, fun mem => out (List.mem_cons_of_mem _ mem), by rw [others m ne]; exact rings⟩).trans ?_
      rw [ringer]
      exact if_pos ⟨m, ne, rings⟩
    · by_cases last : xs = []
      · subst last
        change (ringLimitReached l s).ringer.wheel = _
        rw [ringer]
        exact if_neg fun ⟨m, ne, rings⟩ => ne (List.mem_singleton.mp (all m rings))
      · refine stops last fun m rings => ?_
        have ne : m ≠ l := by
          intro same
          rw [same, call, set_get, if_pos rfl] at rings
          exact absurd rings (by decide)
        rw [others m ne] at rings
        exact (List.mem_cons.mp (all m rings)).resolve_left ne

end

section
variable {s t : State} {l m : Line} {p : Fin 4} {n : Nat}

/-! ## The boundary (R124) -/

theorem startPhase_frame (q : Fin 4) : SameBut [.feed] s (startPhase q s) ∧
    ∀ m : Line, (startPhase q s).feed[m] =
      if m ∈ s.ringer.phases[q] then s.feed[m].ringTarget s.call[m].state else s.feed[m] := each_ringTarget

/-- The state before the next phase starts: the lines of the phase that ends are given Standby, and the wheel
moves. -/
def State.phaseEnded (s : State) (p : Fin 4) : State :=
  let s := each s.ringer.phases[p] (fun l => callTarget l .standby) s
  s.setRinger { s.ringer with wheel := .running (p + 1) 0 }

theorem phaseBoundary_eq (wheel : s.ringer.wheel = .running p n) : phaseBoundary s =
    startPhase (p + 1) (if p + 1 = 0 then ringCountStep (s.phaseEnded p) else s.phaseEnded p) := by
  unfold phaseBoundary
  rw [wheel]
  rfl

theorem phaseEnded_frame : SameBut [.feed, .ringer] s (s.phaseEnded p) ∧
    (s.phaseEnded p).ringer = { s.ringer with wheel := .running (p + 1) 0 } ∧
    ∀ m : Line, (s.phaseEnded p).feed[m] =
      if m ∈ s.ringer.phases[p] then s.feed[m].callTarget .standby else s.feed[m] := by
  obtain ⟨frame, feeds⟩ := each_callTarget (s := s) (xs := s.ringer.phases[p]) (x := .standby)
  have ringer : (each s.ringer.phases[p] (fun l => callTarget l .standby) s).ringer = s.ringer :=
    frame .ringer (by decide)
  refine ⟨SameBut.then (SameBut.mono (by decide) frame) setRinger_sameBut (by decide), ?_, feeds⟩
  exact congrArg (fun r : Ringer => { r with wheel := .running (p + 1) 0 }) ringer

theorem ringPlace_none (places : t.ringer.places l = 0) : t.ringPlace l = none ∧ ∀ q : Fin 4, l ∉ t.ringer.phases[q] := by
  rw [Ringer.places, Nat.add_eq_zero_iff, List.count_eq_zero, List.count_eq_zero] at places
  obtain ⟨phases, queue⟩ := places
  have out (q : Fin 4) : l ∉ t.ringer.phases[q] := fun mem => phases (mem_phaseLines.mpr ⟨q, mem⟩)
  have noPhase : t.ringer.phaseOf l = none := by
    rw [← Option.not_isSome_iff_eq_none, phaseOf_isSome]
    exact fun ⟨q, mem⟩ => out q mem
  rw [State.ringPlace, noPhase]
  exact ⟨if_neg queue, out⟩

theorem mem_limitLines : l ∈ limitLines s ↔
    s.call[l].state = .ringing ∧ s.tables.timers.ringLimit.toNat ≤ s.ringer.counts[l] := by
  simp [limitLines, allLines, -Fin.getElem_fin]

theorem limitLines_nodup : (limitLines s).Nodup := (List.nodup_finRange 32).filter _

/-- The lines that reach the ring limit as phase 0 starts. -/
def State.reachesLimit (s : State) (l : Line) : Prop :=
  s.call[l].state = .ringing ∧ s.tables.timers.ringLimit.toNat ≤ s.ringer.counts[l] + 1

theorem mem_limitLines_advanced : l ∈ limitLines (advanceCounts s) ↔ s.reachesLimit l := by
  have count : (advanceCounts s).ringer.counts[l] =
      if s.call[l].state = .ringing then s.ringer.counts[l] + 1 else s.ringer.counts[l] := tabulate_get ..
  rw [mem_limitLines, count]
  refine and_congr_right fun ringing => ?_
  have ringing : s.call[l].state = .ringing := ringing
  rw [if_pos ringing]
  rfl

/-- The start of phase 0 with its ring counts (R133). -/
theorem ringCountStep_frame (m : Line) :
    (s.reachesLimit m → (ringCountStep s).call[m] = { state := .idle } ∧ (ringCountStep s).ringer.counts[m] = 0 ∧
      (ringCountStep s).ringer.places m = 0 ∧ (ringCountStep s).feed[m] = s.feed[m].callTarget .standby) ∧
    (¬s.reachesLimit m → (ringCountStep s).call[m] = s.call[m] ∧
      (ringCountStep s).ringer.counts[m] =
        (if s.call[m].state = .ringing then s.ringer.counts[m] + 1 else s.ringer.counts[m]) ∧
      (ringCountStep s).feed[m] = s.feed[m]) := by
  have count (l : Line) : (advanceCounts s).ringer.counts[l] =
      if s.call[l].state = .ringing then s.ringer.counts[l] + 1 else s.ringer.counts[l] := tabulate_get ..
  obtain ⟨call, feed, counts, places⟩ := each_ringLimitReached (s := advanceCounts s) limitLines_nodup
    (fun l mem => (mem_limitLines.mp mem).1) m
  rw [count] at counts
  have step : ringCountStep s = each (limitLines (advanceCounts s)) ringLimitReached (advanceCounts s) := rfl
  rw [step, call, feed, counts, places]
  refine ⟨fun reaches => ?_, fun under => ?_⟩
  · have mem := mem_limitLines_advanced.mpr reaches
    exact ⟨if_pos mem, if_pos mem, if_pos mem, if_pos mem⟩
  · have out : m ∉ limitLines (advanceCounts s) := fun mem => under (mem_limitLines_advanced.mp mem)
    exact ⟨if_neg out, if_neg out, if_neg out⟩

theorem ringCountStep_wheel : (((∀ m : Line, s.call[m].state ≠ .ringing) ∨
      ∃ m : Line, s.call[m].state = .ringing ∧ ¬s.reachesLimit m) → (ringCountStep s).ringer.wheel = s.ringer.wheel) ∧
    ((∃ m : Line, s.call[m].state = .ringing) → (∀ m : Line, s.call[m].state = .ringing → s.reachesLimit m) →
      (ringCountStep s).ringer.wheel = .stopped) := by
  obtain ⟨stays, stops⟩ := each_ringLimitReached_wheel (s := advanceCounts s) limitLines_nodup
    fun l mem => (mem_limitLines.mp mem).1
  refine ⟨fun h => ?_, fun ⟨m, ringing⟩ all => ?_⟩
  · rcases h with none | ⟨m, ringing, under⟩
    · have empty : limitLines (advanceCounts s) = [] :=
        List.eq_nil_iff_forall_not_mem.mpr fun m mem => none m (mem_limitLines_advanced.mp mem).1
      rw [ringCountStep, empty]
      rfl
    · exact stays ⟨m, fun mem => under (mem_limitLines_advanced.mp mem), ringing⟩
  · exact stops (fun empty => List.not_mem_nil (empty ▸ mem_limitLines_advanced.mpr (all m ringing))) fun k rings => mem_limitLines_advanced.mpr (all k rings)

end

/-- Settles O36: by what a boundary does to each line. -/
theorem wheelTurns : Obligations.WheelTurns := by
  intro s p time wheel
  have boundary := phaseBoundary_eq wheel
  obtain ⟨ended, ringer, feeds⟩ := phaseEnded_frame (s := s) (p := p)
  refine ⟨fun notLast _ _ => ?_, fun last => ?_⟩
  · have moves : p + 1 ≠ 0 := by
      have every : ∀ q : Fin 4, q ≠ 3 → q + 1 ≠ 0 := by decide
      exact every p notLast
    rw [if_neg moves] at boundary
    obtain ⟨started, begins⟩ := startPhase_frame (s := s.phaseEnded p) (p + 1)
    have feed (l : Line) : (event phaseBoundary s).feed[l] = if l ∈ s.ringer.phases[p + 1]
        then (s.phaseEnded p).feed[l].ringTarget s.call[l].state else (s.phaseEnded p).feed[l] := by
      have call : (s.phaseEnded p).call = s.call := ended .call (by decide)
      rw [event_feed, boundary, begins, ringer, call]
    refine ⟨event phaseBoundary s, rfl, SameBut.event ?_ (by decide), ?_, fun l => ⟨fun here next => ?_,
      fun here next => ?_, fun here next => ?_⟩⟩
    · rw [boundary]
      exact SameBut.then (SameBut.mono (by decide) ended) started (by decide)
    · rw [event_ringer, boundary]
      exact (started .ringer (by decide)).trans ringer
    · rw [feed, if_neg next, feeds, if_neg here]
    · rw [feed, if_neg next, feeds, if_pos here]
    · rw [feed, if_pos next, feeds, if_neg here]
  · intro limit
    subst last
    rw [if_pos (by decide)] at boundary
    let v := ringCountStep (s.phaseEnded 3)
    obtain ⟨started, begins⟩ := startPhase_frame (s := v) 0
    have entries : (s.phaseEnded 3).entries = s.entries := ended .entries (by decide)
    have call : (s.phaseEnded 3).call = s.call := ended .call (by decide)
    have tables : (s.phaseEnded 3).tables = s.tables := ended .tables (by decide)
    have reaches (l : Line) : (s.phaseEnded 3).reachesLimit l ↔
        s.call[l].state = .ringing ∧ limit ≤ s.ringer.counts[l] + 1 := by
      rw [State.reachesLimit, call, tables, ringer]
    have all : SameBut callParts s (phaseBoundary s) := phaseBoundary_sameBut
    have ringerThen : (event phaseBoundary s).ringer = v.ringer := by
      rw [event_ringer, boundary]
      exact started .ringer (by decide)
    have callThen : (event phaseBoundary s).call = v.call := by
      rw [event_call, boundary]
      exact started .call (by decide)
    have feedThen (l : Line) : (event phaseBoundary s).feed[l] =
        if l ∈ v.ringer.phases[(0 : Fin 4)] then v.feed[l].ringTarget v.call[l].state else v.feed[l] := by
      rw [event_feed, boundary]
      exact begins l
    obtain ⟨stays, stops⟩ := ringCountStep_wheel (s := s.phaseEnded 3)
    refine ⟨event phaseBoundary s, rfl, ?_, ?_, ?_, ?_, fun goesOn => ?_, fun some every => ?_, fun l => ⟨fun ringing most => ?_,
      fun other => ?_⟩⟩
    · rw [event_sup]
      exact all .sup (by decide)
    · rw [event_entries]
      exact all .entries (by decide)
    · rw [event_tables]
      exact all .tables (by decide)
    · rw [event_bus]
      exact all .bus (by decide)
    · have same := stays (goesOn.imp (fun none m => by rw [call]; exact none m) fun ⟨m, ringing, under⟩ =>
        ⟨m, by rw [call]; exact ringing, fun r => absurd ((reaches m).mp r).2 (by omega)⟩)
      rw [ringerThen, same, ringer]
      rfl
    · rw [ringerThen]
      refine stops (some.imp fun m ringing => by rw [call]; exact ringing) fun m ringing => (reaches m).mpr ?_
      rw [call] at ringing
      exact ⟨ringing, every m ringing⟩
    · obtain ⟨idle, count, places, feed⟩ := (ringCountStep_frame (s := s.phaseEnded 3) l).1 ((reaches l).mpr ⟨ringing, most⟩)
      obtain ⟨place, out⟩ := ringPlace_none (t := event phaseBoundary s) (l := l) (by rw [ringerThen]; exact places)
      rw [ringerThen] at out
      refine ⟨by rw [callThen]; exact idle, by rw [ringerThen]; exact count, place, ?_⟩
      rw [feedThen, if_neg (out 0), feed, feeds]
      split
      · exact callTarget_callTarget
      · rfl
    · have under : ¬(s.phaseEnded 3).reachesLimit l := by
        rw [reaches]
        rintro ⟨ringing, most⟩
        rcases other with quiet | less
        · exact quiet ringing
        · omega
      obtain ⟨record, count, feed⟩ := (ringCountStep_frame (s := s.phaseEnded 3) l).2 under
      rw [call] at record count
      rw [ringer] at count
      rw [feedThen, ringerThen, callThen, feed, feeds]
      refine ⟨record, count, fun here next => ?_, fun here next => ?_, fun here next => ?_⟩
      · rw [if_neg next, if_neg here]
      · rw [if_neg next, if_pos here]
      · rw [if_pos next, if_neg here, record]

end Sys2Proof.Machine
end

section
/-! Chapter 9: Quiet operation; chapter 11: the settings. -/

namespace Sys2Proof.Machine

section
variable {s t v : State} {l m : Line} {f : State → State}

/-! ## The quiet timer at the end of an event (R156, R158) -/

theorem quietStart_eq : s.startQuietTimer =
    if s.tables.timers.quietDelay.toNat = 0 then none else some (1000 * s.tables.timers.quietDelay.toNat) := by
  rw [State.startQuietTimer, Timers.quietStart, Nat.mul_comm]

/-- While the quiet condition holds the event keeps the Quiet state. -/
theorem event_calm (h : (f s).quietCondition = true) :
    (event f s).monitor.quiet = (f s).monitor.quiet ∧
      ((f s).monitor.quiet = true → (event f s).monitor.quietTimer = none) ∧
      ((f s).tables.timers.quietDelay.toNat = 0 → (event f s).monitor.quietTimer = none) ∧
      ((f s).tables.timers.quietDelay.toNat ≠ 0 → (f s).monitor.quiet = false →
        s.monitor.quiet = true ∨ s.quietCondition = false →
        (event f s).monitor.quietTimer = some (1000 * (f s).tables.timers.quietDelay.toNat)) ∧
      ((f s).tables.timers.quietDelay.toNat ≠ 0 → (f s).monitor.quiet = false → s.monitor.quiet = false →
        s.quietCondition = true → (event f s).monitor.quietTimer = (f s).monitor.quietTimer) := by
  unfold event runQuiet
  dsimp only
  rw [if_pos h, quietStart_eq]
  cases quiet : (f s).monitor.quiet with
  | true =>
    rw [if_pos rfl]
    exact ⟨rfl, fun _ => rfl, fun _ => rfl, fun _ off => absurd off (by decide), fun _ off => absurd off (by decide)⟩
  | false =>
    rw [if_neg Bool.false_ne_true]
    by_cases starts : (s.monitor.quiet || !s.quietCondition) = true
    · rw [if_pos starts]
      refine ⟨rfl, fun on => absurd on (by decide), fun zero => if_pos zero, fun some _ _ => if_neg some,
        fun _ _ off holds => ?_⟩
      rw [off, holds] at starts
      exact absurd starts (by decide)
    · rw [if_neg starts]
      have continues : ¬(s.monitor.quiet = true ∨ s.quietCondition = false) := by simpa using starts
      refine ⟨?_, fun on => absurd on (by decide), fun zero => ?_, fun _ _ ended => absurd ended continues, fun some _ _ _ => ?_⟩
      · split
        · rfl
        · exact quiet
      · rw [if_pos zero]
        rfl
      · rw [if_neg some]

theorem quietExpiry_eq (runs : s.monitor.quietTimer ≠ none) (off : s.monitor.quiet = false) :
    quietExpiry s = s.setMonitor { s.monitor with quiet := true, quietTimer := none } :=
  if_pos ⟨Option.isSome_iff_ne_none.mpr runs, off⟩

end

/-- Settles O46: by the cases of the quiet timer's run. -/
theorem quietLengthensTheRound : Obligations.QuietLengthensTheRound := by
  refine ⟨fun s => ⟨fun runs off holds => ?_, fun running => ?_⟩, fun f s => ?_⟩
  · have eq := quietExpiry_eq runs off
    have after : (quietExpiry s).quietCondition = true := by
      rw [eq]
      exact holds
    obtain ⟨quiet, timer, -⟩ := event_calm after
    have on : (quietExpiry s).monitor.quiet = true := by rw [eq]; rfl
    exact ⟨event quietExpiry s, rfl, SameBut.event quietExpiry_sameBut (by decide), quiet.trans on, timer on⟩
  · refine ⟨roundStart s, rfl, ?_, ?_⟩
    · rw [roundStart, running]
      exact setScanner_sameBut
    · rw [roundStart, running]
      rfl
  · refine ⟨event_sameBut f s, fun fails => ?_, event_calm⟩
    rw [event_busy fails]
    exact ⟨rfl, rfl⟩

/-- Settles O45: the two requests write what they name. -/
theorem supplySettings : Obligations.SupplySettings := by
  intro s ce cx le lx h u ordered new
  have tables : u.tables = s.tables := atRequest_tables
  have supply : u.supply = s.supply := atRequest_supply
  have valid : Thresholds.valid ⟨ce, cx, le, lx⟩ = true ↔ ordered := by
    simp [Thresholds.valid, ordered, and_assoc]
  refine ⟨?_, ?_⟩
  · obtain ⟨t, next, frame, replied⟩ := unit_runs (i := .clearSupplyDip .unit) (q := reqClearSupplyDip) rfl h rfl rfl
    refine ⟨t, next, SameBut.then (SameBut.then (.refl _ _) setSupply_sameBut (by decide)) frame (by decide), ?_, replied⟩
    have then_ : t.supply = { u.supply with dip := false } := frame .supply (by decide)
    rw [then_, supply]
  · by_cases order : ordered
    · have answer : reqSetSupplyThresholds ⟨ce, cx, le, lx⟩ u = (recomputeReference (u.setTables new), .accepted) := by
        unfold reqSetSupplyThresholds
        rw [if_pos (valid.mpr order), tables]
      obtain ⟨t, next, frame, replied⟩ := unit_runs (i := .setSupplyThresholds .unit ce cx le lx) rfl h answer rfl
      refine ⟨t, next, fun _ => ⟨?_, frame .tables (by decide), frame .watch (by decide), replied⟩, fun k => absurd order k⟩
      exact SameBut.then (SameBut.then (SameBut.then (.refl _ _) setTables_sameBut (by decide)) recomputeReference_sameBut
        (by decide)) frame (by decide)
    · have answer : reqSetSupplyThresholds ⟨ce, cx, le, lx⟩ u = (u, .refused .outOfRange) :=
        if_neg fun k => order (valid.mp k)
      obtain ⟨t, next, frame, replied⟩ := unit_runs (i := .setSupplyThresholds .unit ce cx le lx) rfl h answer rfl
      exact ⟨t, next, fun k => absurd k order, fun _ => ⟨frame, replied⟩⟩

section
variable {s t v : State} {l m : Line}

/-! ## Counts that a write sets to 0 (R22) -/

/-- The supervision changed line by line, by a change that made twice is made once. -/
theorem each_sup {xs : List Line} {g : Line → Supervision → Supervision} (twice : ∀ l x, g l (g l x) = g l x) (m : Line) :
    (each xs (fun l s => s.setSup l (g l s.sup[l])) s).sup[m] = if m ∈ xs then g m s.sup[m] else s.sup[m] := by
  induction xs generalizing s with
  | nil => exact (if_neg List.not_mem_nil).symm
  | cons l xs ih =>
    refine (ih (s := s.setSup l (g l s.sup[l]))).trans ?_
    have first : (s.setSup l (g l s.sup[l])).sup[m] = if m = l then g l s.sup[l] else s.sup[m] := set_get ..
    rw [first]
    by_cases same : m = l
    · subst same
      rw [if_pos rfl, if_pos List.mem_cons_self, twice, ite_self]
    · rw [if_neg same]
      simp only [List.mem_cons, same, false_or]

theorem setSup_self : s.setSup l s.sup[l] = s := by
  rw [State.setSup, show s.sup.set l s.sup[l] = s.sup from Vector.set_getElem_self ..]

/-- The counts of the lines whose line entry asks for it are set to 0. -/
theorem resets_sup (asks : LineEntry → Bool) (m : Line) :
    (eachLine (fun l s => if asks s.entries[l] then resetCounts l s else s) s).sup[m] =
      if asks s.entries[m] = true then { s.sup[m] with hookCount := 0, overCount := 0, foreignCount := 0 } else s.sup[m] := by
  have same {ys : List Line} {v : State} (entries : v.entries = s.entries) :
      each ys (fun l s => if asks s.entries[l] then resetCounts l s else s) v =
        each ys (fun l v => v.setSup l (if asks s.entries[l] = true then v.sup[l].noCounts else v.sup[l])) v := by
    induction ys generalizing v with
    | nil => rfl
    | cons l ys ih =>
      have first : (if asks v.entries[l] then resetCounts l v else v) =
          v.setSup l (if asks s.entries[l] = true then v.sup[l].noCounts else v.sup[l]) := by
        rw [entries]
        split
        · rfl
        · exact setSup_self.symm
      change each ys _ (if asks v.entries[l] then resetCounts l v else v) = _
      rw [first]
      exact ih entries
  have once (l : Line) (x : Supervision) : (if asks s.entries[l] = true then
      (if asks s.entries[l] = true then x.noCounts else x).noCounts else if asks s.entries[l] = true then x.noCounts else x) =
        if asks s.entries[l] = true then x.noCounts else x := by
    split <;> rfl
  have all := (congrArg (fun v => v.sup[m]) (same rfl (ys := allLines))).trans
    (each_sup (g := fun l x => if asks s.entries[l] = true then x.noCounts else x) once m)
  rw [if_pos (show m ∈ allLines from List.mem_finRange m)] at all
  exact all

theorem resetProfileCounts_sup {i : Fin 8} (entries : v.entries = s.entries) (sup : v.sup = s.sup) :
    (resetProfileCounts i v).sup[m] = if s.entries[m].profile = i then
      { s.sup[m] with hookCount := 0, overCount := 0, foreignCount := 0 } else s.sup[m] := by
  have resets := resets_sup (s := v) (fun e => decide (e.profile = i)) m
  simp only [decide_eq_true_eq] at resets
  rw [← entries, ← sup]
  exact resets

theorem profileWritten_tables {i : Fin 8} : (recomputeReference (resetProfileCounts i s)).tables = s.tables := by
  have reset : (resetProfileCounts i s).tables = s.tables := resetProfileCounts_sameBut .tables (by decide)
  exact Eq.trans (recomputeReference_sameBut .tables (by decide)) reset

theorem profileWritten_sup {i : Fin 8} (entries : v.entries = s.entries) (sup : v.sup = s.sup) :
    (recomputeReference (resetProfileCounts i v)).sup[m] = if s.entries[m].profile = i then
      { s.sup[m] with hookCount := 0, overCount := 0, foreignCount := 0 } else s.sup[m] := by
  have kept : (recomputeReference (resetProfileCounts i v)).sup = (resetProfileCounts i v).sup :=
    recomputeReference_sameBut .sup (by decide)
  rw [kept]
  exact resetProfileCounts_sup entries sup

/-! ## Settings -/

theorem recomputeReference_reference : (recomputeReference s).monitor.reference = digest s.tables := rfl

/-- The stored reference is the digest of the tables. -/
theorem unit_wrote (frame : SameBut [.bus, .quietRun] (recomputeReference s) t) :
    t.monitor.reference = digest t.tables := by
  have watch : t.monitor.watch = (recomputeReference s).monitor.watch := frame .watch (by decide)
  have reference : t.monitor.reference = (recomputeReference s).monitor.reference :=
    (congrArg Monitor.reference watch : t.monitor.watch.reference = (recomputeReference s).monitor.watch.reference)
  have tables : t.tables = s.tables := frame .tables (by decide)
  rw [reference, tables, recomputeReference_reference]

/-- What a change of the quiet delay does to the Quiet state and the quiet timer. -/
theorem quietDelayWritten_eq {old : Word16} : (quietDelayWritten old s).monitor.quiet =
      (if s.tables.timers.quietDelay.toNat = 0 then false else s.monitor.quiet) ∧
    (s.tables.timers.quietDelay.toNat ≠ 0 → (quietDelayWritten old s).monitor.quietTimer =
      if s.tables.timers.quietDelay = old then s.monitor.quietTimer
      else s.monitor.quietTimer.map fun _ => 1000 * s.tables.timers.quietDelay.toNat) := by
  unfold quietDelayWritten
  dsimp only
  by_cases zero : s.tables.timers.quietDelay.toNat = 0
  · rw [if_pos zero, if_pos zero]
    exact ⟨rfl, fun some => absurd zero some⟩
  · rw [if_neg zero, if_neg zero]
    refine ⟨?_, fun _ => ?_⟩
    · split <;> rfl
    · by_cases same : s.tables.timers.quietDelay = old
      · rw [if_pos same, if_neg fun h => h.1 same]
      · rw [if_neg same]
        cases timer : s.monitor.quietTimer with
        | none =>
          rw [if_neg fun h => absurd h.2 Bool.false_ne_true]
          exact timer
        | some n =>
          rw [if_pos ⟨same, rfl⟩]
          exact quietStart_eq.trans (if_neg zero)

theorem reqSetProfile_eq {i : Fin 8} {p : Profile} (range : p.inRange = true) : reqSetProfile (BitVec.ofNat 8 i.val) p s =
    (recomputeReference (resetProfileCounts i (s.setTables { s.tables with profiles := s.tables.profiles.set i p })),
      .accepted) := by
  have number : (BitVec.ofNat 8 i.val).toNat = i.val := Nat.mod_eq_of_lt (Nat.lt_trans i.isLt (by decide))
  unfold reqSetProfile
  rw [dif_pos (by rw [number]; exact i.isLt), if_pos range]
  simp only [number, Fin.eta]

theorem clampQuiet_eq (q : Word16) :
    clampQuiet q = if q.toNat = 0 then 0 else BitVec.ofNat 16 (max 10 (min 600 q.toNat)) := by
  have small := q.isLt
  unfold clampQuiet
  split
  · next zero => exact BitVec.eq_of_toNat_eq zero
  · split
    · refine BitVec.eq_of_toNat_eq ?_
      rw [BitVec.toNat_ofNat, show max 10 (min 600 q.toNat) = 10 by omega]
      rfl
    · split
      · refine BitVec.eq_of_toNat_eq ?_
        rw [BitVec.toNat_ofNat, show max 10 (min 600 q.toNat) = 600 by omega]
        rfl
      · refine BitVec.eq_of_toNat_eq ?_
        rw [BitVec.toNat_ofNat, show max 10 (min 600 q.toNat) = q.toNat by omega, Nat.mod_eq_of_lt small]

end

/-- Settles O57: by the state that each write leaves. -/
theorem settingsAreWritten : Obligations.SettingsAreWritten := by
  intro s h u wrote
  have tables : u.tables = s.tables := atRequest_tables
  have entries : u.entries = s.entries := atRequest_entries
  have sup : u.sup = s.sup := atRequest_sup
  refine ⟨fun i p k m1 m15 on32 on960 off16 offOn over960 over1984 flags => ?_, fun a b c e f g j k range => ?_,
    fun a g w c j r q => ?_, fun x y z w hx hy hz hw none => ?_, fun v small => ?_⟩
  · have range : p.inRange = true := by
      simp [Profile.inRange, k, m1, m15, on32, on960, off16, offOn, over960, over1984, flags]
    have written : SameBut [.tables, .sup, .watch] u (recomputeReference (resetProfileCounts i (u.setTables
        { u.tables with profiles := u.tables.profiles.set i p }))) :=
      SameBut.then (SameBut.then (SameBut.then (.refl _ _) setTables_sameBut (by decide)) resetProfileCounts_sameBut
        (by decide)) recomputeReference_sameBut (by decide)
    obtain ⟨t, next, frame, replied⟩ := unit_runs
      (i := .setProfile .unit (BitVec.ofNat 8 i.val) p.k p.m p.tOn p.tOff p.tOver p.flags) rfl h
      (reqSetProfile_eq (p := p) range) (written .bus (by decide))
    refine ⟨t, next, SameBut.then (SameBut.mono (by decide) written) frame (by decide), unit_wrote frame, replied, ?_,
      fun l => ?_⟩
    · exact (frame .tables (by decide)).trans (profileWritten_tables.trans
        (congrArg (fun x : Tables => { x with profiles := x.profiles.set i p }) tables))
    · have after : t.sup = (recomputeReference (resetProfileCounts i (u.setTables
          { u.tables with profiles := u.tables.profiles.set i p }))).sup := frame .sup (by decide)
      rw [after]
      exact profileWritten_sup entries sup
  · have range : (#v[a, b, c, e, f, g, j, k] : Vector Byte 8).toList.all phaseCode = true := by
      refine List.all_eq_true.mpr fun x mem => ?_
      obtain ⟨low, high⟩ := range x mem
      simp [phaseCode, low, high]
    have answer : reqSetArbiterPhases #v[a, b, c, e, f, g, j, k] u = (recomputeReference
        ((u.setTables { u.tables with phaseTable := #v[a, b, c, e, f, g, j, k] }).setArbiter
          { u.arbiter with pointer := 0 }), .accepted) := if_pos range
    obtain ⟨t, next, frame, replied⟩ :=
      unit_runs (i := .setArbiterPhases .unit a b c e f g j k) (q := reqSetArbiterPhases _) rfl h answer rfl
    refine ⟨t, next, ?_, unit_wrote frame, replied, ?_, ?_⟩
    · exact SameBut.then (SameBut.then (SameBut.then (SameBut.then (.refl _ _) setTables_sameBut (by decide))
        setArbiter_sameBut (by decide)) recomputeReference_sameBut (by decide)) frame (by decide)
    · have after : t.tables = _ := frame .tables (by decide)
      exact after.trans (congrArg (fun x : Tables => { x with phaseTable := #v[a, b, c, e, f, g, j, k] }) tables)
    · have after : t.arbiter = _ := frame .arbiter (by decide)
      exact after.trans (congrArg (fun x : Arbiter => { x with pointer := 0 }) atRequest_arbiter)
  · intro clamp delay new
    have clamped : Timers.clamped ⟨a, g, w, c, j, r, q⟩ = new := by
      rw [Timers.clamped, clampQuiet_eq]
      rfl
    have same : reqSetTimers ⟨a, g, w, c, j, r, q⟩ u = (quietDelayWritten s.tables.timers.quietDelay
        (recomputeReference (u.setTables { s.tables with timers := new })),
        if new = ⟨a, g, w, c, j, r, q⟩ then .accepted else .clamped) := by
      unfold reqSetTimers
      dsimp only
      rw [clamped, tables]
    let v := quietDelayWritten s.tables.timers.quietDelay (recomputeReference (u.setTables { s.tables with timers := new }))
    have writes : SameBut [.tables, .watch, .quietRun] u v :=
      SameBut.then (SameBut.then (SameBut.then (.refl _ _) setTables_sameBut (by decide)) recomputeReference_sameBut
        (by decide)) quietDelayWritten_sameBut (by decide)
    obtain ⟨frame, -⟩ := frame_replies (allowed := true) h same (writes .bus (by decide))
    obtain ⟨eventFrame, replied⟩ := unit_replies (allowed := true) h same (writes .bus (by decide))
    have condition : (takeFrame .unit true (reqSetTimers ⟨a, g, w, c, j, r, q⟩) s).quietCondition = s.quietCondition := by
      rw [SameBut.quietCondition frame (by decide), SameBut.quietCondition writes (by decide)]
      exact SameBut.quietCondition (atRequest_sameBut s) (by decide)
    have tablesThen : (takeFrame .unit true (reqSetTimers ⟨a, g, w, c, j, r, q⟩) s).tables =
        { s.tables with timers := new } :=
      (frame .tables (by decide)).trans (quietDelayWritten_sameBut .tables (by decide))
    obtain ⟨quietThen, timerThen⟩ := frame .quietRun (by decide)
    obtain ⟨quietNow, timerNow⟩ : u.monitor.quiet = s.monitor.quiet ∧ u.monitor.quietTimer = s.monitor.quietTimer :=
      atRequest_sameBut s .quietRun (by decide)
    obtain ⟨quiet, timer⟩ := quietDelayWritten_eq (old := s.tables.timers.quietDelay)
      (s := recomputeReference (u.setTables { s.tables with timers := new }))
    have quietAfter := quietThen.trans quiet
    refine ⟨_, rfl, SameBut.then (SameBut.mono (by decide) writes) eventFrame (by decide),
      unit_wrote (SameBut.then (SameBut.mono (by decide) quietDelayWritten_sameBut) eventFrame (by decide)), ?_,
      fun ends => ?_, fun holds some => ?_, replied⟩
    · rw [event_tables, tablesThen]
    · by_cases holds : s.quietCondition = true
      · have zero : delay.toNat = 0 := by
          rw [ends.resolve_left (by rw [holds]; decide)]
          rfl
        obtain ⟨kept, -, none, -⟩ := event_calm (condition.trans holds)
        rw [tablesThen] at none
        exact ⟨kept.trans (quietAfter.trans (if_pos zero)), none zero⟩
      · rw [event_busy (condition.trans (Bool.not_eq_true _ ▸ holds))]
        exact ⟨rfl, rfl⟩
    · have positive : delay.toNat ≠ 0 := fun zero => some (BitVec.eq_of_toNat_eq zero)
      obtain ⟨kept, on, -, -, continues⟩ := event_calm (condition.trans holds)
      rw [tablesThen] at continues
      have quietIs := quietAfter.trans ((if_neg positive).trans quietNow)
      refine ⟨kept.trans quietIs, ?_⟩
      cases was : s.monitor.quiet with
      | true =>
        rw [if_pos rfl]
        exact on (quietIs.trans was)
      | false =>
        rw [if_neg Bool.false_ne_true]
        refine (continues positive (quietIs.trans was) was holds).trans (timerThen.trans ((timer positive).trans ?_))
        rw [← timerNow]
        rfl
  · have answer : reqSetClassMap x y z w u = (recomputeReference (u.setTables { u.tables with
        classMap := { u.tables.classMap with standard := y, economy := z, alarm := w } }),
        if x = 0x0FFF then .accepted else .clamped) := by
      unfold reqSetClassMap
      dsimp only
      rw [if_pos (by simp [validSet, hx, hy, hz, hw])]
      exact congrArg (fun v => (v, _)) (eachFreed_noWaiters (none.atRequest.congr rfl))
    obtain ⟨t, next, frame, replied⟩ := unit_runs (i := .setClassMap .unit x y z w) rfl h answer rfl
    refine ⟨t, next, ?_, unit_wrote frame, replied, ?_⟩
    · exact SameBut.then (SameBut.then (SameBut.then (.refl _ _) setTables_sameBut (by decide)) recomputeReference_sameBut
        (by decide)) frame (by decide)
    · have after : t.tables = _ := frame .tables (by decide)
      exact after.trans (congrArg (fun x : Tables => { x with
        classMap := { x.classMap with standard := y, economy := z, alarm := w } }) tables)
  · have answer : reqSetAttention v u =
        (u.setReports { u.reports with routineAttention := decide (v.toNat = 0) }, .accepted) := by
      unfold reqSetAttention attentionOfByte
      by_cases zero : v.toNat = 0
      · rw [if_pos zero, decide_eq_true zero]
      · rw [if_neg zero, if_pos (by omega), decide_eq_false zero]
    obtain ⟨t, next, frame, replied⟩ := unit_runs (i := .setAttention .unit v) rfl h answer rfl
    exact ⟨t, next, SameBut.then (SameBut.then (.refl _ _) setReports_sameBut (by decide)) frame (by decide),
      frame .reports (by decide), replied⟩

end Sys2Proof.Machine
end

section
/-! Chapter 11: storage disturbances and the audit of the covered tables. -/

namespace Sys2Proof.Machine

section
variable {s t v : State} {bs : List Byte}

/-! ## The wire encodings of the covered tables (R177) -/

theorem wordBytes_wordOf (a b : Byte) : wordBytes (wordOf a b) = [a, b] := by
  have high : (wordOf a b).extractLsb' 8 8 = a := by
    refine BitVec.eq_of_getElem_eq fun i lt => ?_
    rw [BitVec.getElem_extractLsb', wordOf, BitVec.getLsbD_append, if_neg (by omega), Nat.add_sub_cancel_left]
    exact BitVec.getLsbD_eq_getElem lt
  have low : (wordOf a b).extractLsb' 0 8 = b := by
    refine BitVec.eq_of_getElem_eq fun i lt => ?_
    rw [BitVec.getElem_extractLsb', wordOf, BitVec.getLsbD_append, if_pos (by omega), Nat.zero_add]
    exact BitVec.getLsbD_eq_getElem lt
  rw [wordBytes, high, low]

theorem wordBytes_wordAt (i : Nat) : wordBytes (wordAt bs i) = [byteAt bs i, byteAt bs (i + 1)] := wordBytes_wordOf ..

theorem profileAt_bytes (i : Nat) : (profileAt bs i).bytes = (List.range' i 9).map (byteAt bs) := by
  simp only [Profile.bytes, profileAt, wordBytes_wordAt]
  rfl

theorem byteAt_all (n : Nat) (length : bs.length = n) : (List.range' 0 n).map (byteAt bs) = bs := by
  refine List.ext_getElem (by simp [length]) fun i _ h => ?_
  simp [byteAt, h]

theorem tables_bytes_length (t : Tables) : t.bytes.length = 104 := by
  have profiles : (t.profiles.toList.flatMap Profile.bytes).length = 72 := by
    have nine : t.profiles.toList.map (fun p => p.bytes.length) = t.profiles.toList.map fun _ => 9 :=
      List.map_congr_left fun p _ => rfl
    rw [List.length_flatMap, nine]
    simp
  simp only [Tables.bytes, List.length_append, profiles, Vector.length_toList]
  rfl

theorem tablesOfBytes_bytes (length : bs.length = 104) : (tablesOfBytes bs).bytes = bs := by
  have profiles : (tablesOfBytes bs).profiles.toList.flatMap Profile.bytes = (List.range' 0 72).map (byteAt bs) := by
    have each : (tablesOfBytes bs).profiles.toList.map Profile.bytes =
        (List.finRange 8).map fun i : Fin 8 => (List.range' (9 * i.val) 9).map (byteAt bs) := by
      have listed : (tablesOfBytes bs).profiles.toList = (List.finRange 8).map fun i : Fin 8 => profileAt bs (9 * i.val) := rfl
      rw [listed, List.map_map]
      exact List.map_congr_left fun i _ => profileAt_bytes _
    rw [List.flatMap_def, each]
    rfl
  have words : (tablesOfBytes bs).classMap.bytes ++ (tablesOfBytes bs).phaseTable.toList ++
      (tablesOfBytes bs).timers.bytes ++ (tablesOfBytes bs).thresholds.bytes =
        (List.range' 72 32).map (byteAt bs) := by
    simp only [tablesOfBytes, ClassMap.bytes, Timers.bytes, Thresholds.bytes, wordBytes_wordAt]
    rfl
  have split : Tables.bytes (tablesOfBytes bs) = (tablesOfBytes bs).profiles.toList.flatMap Profile.bytes ++
      ((tablesOfBytes bs).classMap.bytes ++ (tablesOfBytes bs).phaseTable.toList ++
      (tablesOfBytes bs).timers.bytes ++ (tablesOfBytes bs).thresholds.bytes) := by
    simp only [Tables.bytes, List.append_assoc]
  rw [split, profiles, words, ← List.map_append]
  exact byteAt_all 104 length

end

section
variable {s : State} {l : Line}

/-! ## The audit -/

theorem reset_tables : State.reset.tables = Tables.initial := rfl

theorem enabledCounts_sup : (resetEnabledCounts s).sup[l] = if s.entries[l].enabled = true then
    { s.sup[l] with hookCount := 0, overCount := 0, foreignCount := 0 } else s.sup[l] :=
  resets_sup (fun e => e.enabled) l

/-- The audit's start of its next 10 s. -/
def State.audited (s : State) : State := s.setMonitor { s.monitor with audit := some 10000 }

theorem auditExpiry_eq (runs : s.monitor.audit ≠ none) : auditExpiry s =
    if digest s.tables = s.monitor.reference then s.audited
    else revertTables (s.audited.report true { kind := .tableUpset }) :=
  if_pos (Option.isSome_iff_ne_none.mpr runs)

/-- The tables written back, before the quiet timer is looked at. -/
def State.reverted (s : State) : State := resetEnabledCounts (recomputeReference (s.setTables Tables.initial))

theorem reverted_frame : SameBut [.tables, .watch, .sup] s s.reverted ∧ s.reverted.tables = Tables.initial ∧
    s.reverted.monitor.watch = { s.monitor.watch with reference := digest Tables.initial } ∧
    s.reverted.sup[l] = if s.entries[l].enabled = true then
      { s.sup[l] with hookCount := 0, overCount := 0, foreignCount := 0 } else s.sup[l] := by
  have written : SameBut [.tables, .watch, .sup] s (recomputeReference (s.setTables Tables.initial)) :=
    SameBut.then (SameBut.then (.refl _ _) setTables_sameBut (by decide)) recomputeReference_sameBut (by decide)
  exact ⟨SameBut.then written resetEnabledCounts_sameBut (by decide), resetEnabledCounts_sameBut .tables (by decide),
    resetEnabledCounts_sameBut .watch (by decide), enabledCounts_sup (s := recomputeReference (s.setTables Tables.initial))⟩

theorem revertTables_eq (none : s.noWaiters) : revertTables s =
    (quietDelayWritten s.tables.timers.quietDelay s.reverted).setArbiter { s.arbiter with pointer := 0 } := by
  have kept : (quietDelayWritten s.tables.timers.quietDelay s.reverted).arbiter = s.reverted.arbiter :=
    quietDelayWritten_sameBut .arbiter (by decide)
  have arbiter : s.reverted.arbiter = s.arbiter := (reverted_frame (l := 0)).1 .arbiter (by decide)
  have same : revertTables s = runIdle ((quietDelayWritten s.tables.timers.quietDelay s.reverted).setArbiter
      { (quietDelayWritten s.tables.timers.quietDelay s.reverted).arbiter with pointer := 0 }) := by
    rw [State.reverted, revertTables]
  rw [same, kept, arbiter]
  exact eachFreed_noWaiters (none.congr rfl)

end

/-- Settles O59: a disturbance and the audit act on the wire encodings. -/
theorem auditRevertsUpsetTables : Obligations.AuditRevertsUpsetTables := by
  intro s
  refine ⟨fun index value covered => ?_, fun runs same => ?_, fun runs upset none => ?_⟩
  · refine ⟨event (disturb index value) s, congrArg Host.Outcome.next (if_pos covered), SameBut.event (SameBut.mono (by decide) setTables_sameBut)
      (by decide), ?_⟩
    rw [event_tables]
    exact tablesOfBytes_bytes (by rw [List.length_set]; exact tables_bytes_length _)
  · have eq : auditExpiry s = s.audited := (auditExpiry_eq runs).trans (if_pos same)
    refine ⟨event auditExpiry s, rfl, SameBut.event ?_ (by decide), ?_⟩
    · rw [eq]
      exact SameBut.mono (by decide) setMonitor_watch_sameBut
    · rw [event_watch, eq]
      rfl
  · let r : State := s.audited.report true { kind := .tableUpset }
    have eq : auditExpiry s =
        (quietDelayWritten r.tables.timers.quietDelay r.reverted).setArbiter { r.arbiter with pointer := 0 } := by
      rw [auditExpiry_eq runs, if_neg upset]
      exact revertTables_eq none
    have reported : SameBut [.watch, .reports] s r :=
      SameBut.then (SameBut.mono (by decide) setMonitor_watch_sameBut) report_sameBut (by decide)
    have reverted (l : Line) := reverted_frame (s := r) (l := l)
    have delay : SameBut [.quietRun] r.reverted (quietDelayWritten r.tables.timers.quietDelay r.reverted) :=
      quietDelayWritten_sameBut
    generalize quietDelayWritten r.tables.timers.quietDelay r.reverted = v at eq delay
    generalize r.reverted = w at reverted delay
    obtain ⟨frame, tables, watch, -⟩ := reverted 0
    have sup : v.sup = w.sup := delay .sup (by decide)
    refine ⟨event auditExpiry s, rfl, SameBut.event ?_ (by decide), ?_, ?_, ?_, ?_, fun l => ?_⟩
    · rw [eq]
      exact SameBut.then (SameBut.then (SameBut.then (SameBut.mono (by decide) reported) frame (by decide)) delay
        (by decide)) setArbiter_sameBut (by decide)
    · rw [event_tables, eq, reset_tables]
      exact Eq.trans (delay .tables (by decide)) tables
    · rw [event_watch, eq, reset_tables]
      exact Eq.trans (delay .watch (by decide)) watch
    · rw [event_arbiter, eq]
      rfl
    · rw [event_reports, eq]
      exact Eq.trans (delay .reports (by decide)) (frame .reports (by decide))
    · rw [event_sup, eq]
      exact (congrArg (fun x : Vector Supervision 32 => x[l]) sup).trans (reverted l).2.2.2

end Sys2Proof.Machine
end

section
/-! Work done line by line; chapter 4: the link goes down. -/

namespace Sys2Proof.Machine

section
variable {s t u v : State} {l m : Line} {b : Bearer} {f : Line → State → State} {xs : List Line} {parts : List Part}

/-! ## Work on one line after the other -/

/-- The line's entry, supervision, break timing, feed and record are the same. -/
def SameLine (m : Line) (s t : State) : Prop :=
  t.entries[m] = s.entries[m] ∧ t.sup[m] = s.sup[m] ∧ t.brk[m] = s.brk[m] ∧ t.feed[m] = s.feed[m] ∧
    t.call[m] = s.call[m]

theorem SameLine.refl (m : Line) (s : State) : SameLine m s s := ⟨rfl, rfl, rfl, rfl, rfl⟩

theorem SameLine.trans (h : SameLine m s t) (k : SameLine m t u) : SameLine m s u := by
  obtain ⟨entry, sup, brk, feed, call⟩ := h
  obtain ⟨entry', sup', brk', feed', call'⟩ := k
  exact ⟨entry'.trans entry, sup'.trans sup, brk'.trans brk, feed'.trans feed, call'.trans call⟩

/-- Work on other lines leaves the line. -/
theorem each_sameLine (others : ∀ l v, OtherLines l v (f l v)) (out : m ∉ xs) : SameLine m s (each xs f s) := by
  induction xs generalizing s with
  | nil => exact .refl m s
  | cons l xs ih =>
    have first : SameLine m s (f l s) := others l s m fun same => out (same ▸ List.mem_cons_self)
    exact first.trans (ih fun mem => out (List.mem_cons_of_mem _ mem))

/-- Work on all lines comes to a line in a state in which the line is as before, and leaves it as its own piece of the
work did. -/
theorem eachLine_at (others : ∀ l v, OtherLines l v (f l v)) (frame : ∀ l v, SameBut parts v (f l v)) (s : State) (m : Line) :
    ∃ before after v, allLines = before ++ m :: after ∧ v = each before f s ∧ eachLine f s = each after f (f m v) ∧
      SameBut parts s v ∧ SameLine m s v ∧ SameLine m (f m v) (eachLine f s) := by
  have once : allLines.Nodup := List.nodup_finRange 32
  obtain ⟨before, after, split⟩ : ∃ before after, allLines = before ++ m :: after := List.append_of_mem (List.mem_finRange m)
  rw [split] at once
  obtain ⟨-, onceAfter, apart⟩ := List.nodup_append.mp once
  have notBefore : m ∉ before := fun mem => apart m mem m List.mem_cons_self rfl
  have notAfter : m ∉ after := (List.nodup_cons.mp onceAfter).1
  have all : eachLine f s = each after f (f m (each before f s)) := by
    rw [eachLine_eq, split]
    exact List.foldl_append
  refine ⟨before, after, _, split, rfl, all, .each f before (.refl parts s) frame, each_sameLine others notBefore, ?_⟩
  rw [all]
  exact each_sameLine others notAfter

theorem ringRemove_otherLines : OtherLines l s (ringRemove m s) := .ofSameBut ringRemove_sameBut (by decide)

theorem enter_otherLines {n : CallRecord} : OtherLines l s (enter l n s) := by
  rw [enter_eq]
  split
  · exact enterCall_otherLines.trans ringRemove_otherLines
  · exact enterCall_otherLines

theorem goIdle_otherLines : OtherLines l s (goIdle l s) := enter_otherLines.trans callTarget_otherLines

theorem enterLockout_otherLines {x : LockoutCause} : OtherLines l s (enterLockout l x s) := by
  have locked : OtherLines l s (callTarget l .active (enter l (lockoutRecord x s) s)) :=
    enter_otherLines.trans callTarget_otherLines
  unfold enterLockout
  dsimp only
  split
  · exact locked.trans goIdle_otherLines
  · exact locked

/-! ## The link goes down (R64) -/

theorem linkLost_otherLines : OtherLines l s (linkLost l s) := by
  unfold linkLost
  split
  · split
    · exact enterLockout_otherLines
    · exact goIdle_otherLines
  · exact enterLockout_otherLines
  · exact goIdle_otherLines
  · exact .refl l s

theorem enter_pointer {n : CallRecord} : (enter l n s).arbiter.pointer = s.arbiter.pointer := by
  rw [enter_frame]

theorem goIdle_arbiter : (goIdle l s).arbiter.pointer = s.arbiter.pointer ∧
    (goIdle l s).arbiter.handover = s.arbiter.handover := by
  rw [goIdle_frame]
  exact ⟨rfl, rfl⟩

theorem enterLockout_arbiter {x : LockoutCause} : (enterLockout l x s).arbiter.pointer = s.arbiter.pointer ∧
    (enterLockout l x s).arbiter.handover = s.arbiter.handover := by
  have locked {n : CallRecord} : (callTarget l .active (enter l n s)).arbiter.pointer = s.arbiter.pointer ∧
      (callTarget l .active (enter l n s)).arbiter.handover = s.arbiter.handover := ⟨enter_pointer, enter_handover _⟩
  unfold enterLockout
  dsimp only
  split
  · obtain ⟨pointer, handover⟩ := goIdle_arbiter (l := l) (s := callTarget l .active (enter l (lockoutRecord x s) s))
    exact ⟨pointer.trans locked.1, handover.trans locked.2⟩
  · exact locked

theorem linkLost_arbiter : (linkLost l s).arbiter.pointer = s.arbiter.pointer ∧
    (linkLost l s).arbiter.handover = s.arbiter.handover := by
  unfold linkLost
  split
  · split
    · exact enterLockout_arbiter
    · exact goIdle_arbiter
  · exact enterLockout_arbiter
  · exact goIdle_arbiter
  · exact ⟨rfl, rfl⟩

/-- A line outside the ring collections stays outside. -/
theorem goIdle_places (none : s.ringer.places m = 0) : (goIdle l s).ringer.places m = 0 := by
  rw [goIdle_frame]
  dsimp only
  split
  · rw [ringerWithout_places, none, ite_self]
  · exact none

theorem enter_places {n : CallRecord} (quiet : n.state ≠ .ringing) (none : s.ringer.places m = 0) :
    (enter l n s).ringer.places m = 0 := by
  rw [enter_ringer quiet]
  split
  · rw [ringerWithout_places, none, ite_self]
  · exact none

theorem enterLockout_places {x : LockoutCause} (none : s.ringer.places m = 0) :
    (enterLockout l x s).ringer.places m = 0 := by
  have locked : (callTarget l .active (enter l (lockoutRecord x s) s)).ringer.places m = 0 :=
    enter_places (s := s) (by simp [lockoutRecord]) none
  unfold enterLockout
  dsimp only
  split
  · exact goIdle_places locked
  · exact locked

theorem linkLost_places (none : s.ringer.places m = 0) : (linkLost l s).ringer.places m = 0 := by
  unfold linkLost
  split
  · split
    · exact enterLockout_places none
    · exact goIdle_places none
  · exact enterLockout_places none
  · exact goIdle_places none
  · exact none

theorem linkLost_connected (connected : s.call[l].state = .connected) : linkLost l s = match s.sup[l].hook with
    | .offHook => enterLockout l .released s
    | .onHook => goIdle l s := by
  unfold linkLost
  rw [connected] <;> rfl

theorem linkLost_seizing (seizing : s.call[l].state = .seizing) : linkLost l s = enterLockout l .congestion s := by
  unfold linkLost
  rw [seizing]

theorem linkLost_ringing (ringing : s.call[l].state = .ringing) : linkLost l s = goIdle l s := by
  unfold linkLost
  rw [ringing]

theorem linkLost_other (connected : s.call[l].state ≠ .connected) (seizing : s.call[l].state ≠ .seizing)
    (ringing : s.call[l].state ≠ .ringing) : linkLost l s = s := by
  unfold linkLost
  split
  · next h => exact absurd h connected
  · next h => exact absurd h seizing
  · next h => exact absurd h ringing
  · rfl

theorem linkLost_everywhere (v : State) : SameBut [.call, .brk, .arbiter, .ringer, .feed] v (eachLine linkLost v) :=
  .eachLine linkLost (.refl _ v) fun _ _ => linkLost_sameBut

theorem linksLost_arbiter (v : State) : (eachLine linkLost v).arbiter.pointer = v.arbiter.pointer ∧
    (eachLine linkLost v).arbiter.handover = v.arbiter.handover := by
  rw [eachLine_eq]
  generalize allLines = xs
  exact each_keeps (fun w : State => w.arbiter.pointer = v.arbiter.pointer ∧ w.arbiter.handover = v.arbiter.handover)
    linkLost xs v (fun _ _ _ kept => ⟨linkLost_arbiter.1.trans kept.1, linkLost_arbiter.2.trans kept.2⟩) ⟨rfl, rfl⟩

theorem enterLockout_call {x : LockoutCause} (unrung : s.call[l].state ≠ .ringing) (offHook : s.sup[l].hook = .offHook) :
    (enterLockout l x s).call[l] = s.lockedOut x := by
  have call : (enterLockout l x s).call = s.call.set l (s.lockoutCall l x) := by rw [enterLockout_frame_unrung unrung]
  rw [call, set_get, if_pos rfl, State.lockoutCall, offHook]

theorem lockedOut_congr {x : LockoutCause} (tables : t.tables = s.tables) : t.lockedOut x = s.lockedOut x := by
  unfold State.lockedOut
  rw [tables]

end

/-- The state in which every bearer is Absent. -/
def State.linkDown (s : State) : State :=
  (s.setBearers { recs := tabulate fun b => (s.bearer b).lost, linkUp := false, inService := none, connection := [] }).setHandover
    none

section
variable {s : State} {b : Bearer}

theorem reqLinkDown_up (up : s.bearers.linkUp = true) : reqLinkDown s = (eachLine linkLost s.linkDown, .accepted) := if_pos up

theorem lost_eq : (s.bearer b).lost = { state := .absent, formerLine := match (s.bearer b).line with
    | some l => some l
    | none => (s.bearer b).formerLine } := by
  unfold BearerRecord.lost BearerRecord.withLine
  dsimp only
  cases (s.bearer b).line with
  | none => rw [if_pos rfl]
  | some l => rw [if_neg (Option.some_ne_none l)]

end

/-- Settles O23: line by line. -/
theorem linkDownEndsItsCalls : Obligations.LinkDownEndsItsCalls := by
  intro s count h u
  have bearersNow : u.bearers = s.bearers := atRequest_bearers
  refine ⟨fun down => ⟨_, rfl, unit_answers h (if_neg ?_)⟩, fun up => ?_⟩
  · rw [bearersNow, down]
    exact Bool.false_ne_true
  · have answer := reqLinkDown_up (s := u) (by rw [bearersNow]; exact up)
    have lost : SameBut [.call, .brk, .arbiter, .ringer, .feed] u.linkDown (eachLine linkLost u.linkDown) :=
      linkLost_everywhere u.linkDown
    have down : SameBut [.bearers, .arbiter] u u.linkDown :=
      SameBut.then (SameBut.mono (by decide) setBearers_sameBut) setArbiter_sameBut (by decide)
    have sameBus : (eachLine linkLost u.linkDown).bus = u.bus :=
      (lost .bus (by decide) : (eachLine linkLost u.linkDown).bus = u.linkDown.bus).trans (down .bus (by decide))
    obtain ⟨t, next, frame, replied⟩ := unit_runs (i := .linkStateDown .unit count) rfl h answer sameBus
    have bearers : t.bearers = u.linkDown.bearers := Eq.trans (frame .bearers (by decide)) (lost .bearers (by decide))
    have arbiter : t.arbiter = (eachLine linkLost u.linkDown).arbiter := frame .arbiter (by decide)
    have kept : (eachLine linkLost u.linkDown).arbiter.pointer = u.linkDown.arbiter.pointer ∧
        (eachLine linkLost u.linkDown).arbiter.handover = u.linkDown.arbiter.handover :=
      linksLost_arbiter u.linkDown
    refine ⟨t, next, replied, ?_, ?_, ?_, ?_, fun b => ?_, ?_, ?_, fun l => ?_⟩
    · exact SameBut.then (SameBut.then (SameBut.mono (by decide) down) lost (by decide)) frame (by decide)
    · rw [bearers]
      rfl
    · rw [bearers]
      rfl
    · rw [bearers]
      rfl
    · have record : t.bearer b = (u.bearer b).lost := by
        rw [State.bearer, bearers]
        exact tabulate_get ..
      rw [record, atRequest_bearer, lost_eq] <;> rfl
    · rw [arbiter, kept.2]
      rfl
    · rw [arbiter, kept.1]
      have before : u.arbiter.pointer = s.arbiter.pointer := congrArg Arbiter.pointer atRequest_arbiter
      exact before
    · obtain ⟨before, after, v, -, -, rest, frameV, sameV, sameT⟩ :=
        eachLine_at (f := linkLost) (fun _ _ => linkLost_otherLines) (fun _ _ => linkLost_sameBut) u.linkDown l
      obtain ⟨-, -, brkT, feedT, callT⟩ := sameT
      obtain ⟨-, supV, brkV, feedV, callV⟩ := sameV
      have call : t.call[l] = (linkLost l v).call[l] := by
        rw [← callT]
        exact congrArg (fun x : Vector CallRecord 32 => x[l]) (frame .call (by decide))
      have feed : t.feed[l] = (linkLost l v).feed[l] := by
        rw [← feedT]
        exact congrArg (fun x : Vector Feed 32 => x[l]) (frame .feed (by decide))
      have brk : t.brk[l] = (linkLost l v).brk[l] := by
        rw [← brkT]
        exact congrArg (fun x : Vector BreakTiming 32 => x[l]) (frame .brk (by decide))
      have callNow : v.call[l] = s.call[l] := callV.trans (congrArg (fun x : Vector CallRecord 32 => x[l]) atRequest_call)
      have supNow : v.sup[l] = s.sup[l] := supV.trans (congrArg (fun x : Vector Supervision 32 => x[l]) atRequest_sup)
      have feedNow : v.feed[l] = s.feed[l] := feedV.trans (congrArg (fun x : Vector Feed 32 => x[l]) atRequest_feed)
      have brkNow : v.brk[l] = s.brk[l] := brkV.trans (congrArg (fun x : Vector BreakTiming 32 => x[l]) atRequest_brk)
      have tables : v.tables = s.tables := Eq.trans (frameV .tables (by decide)) (atRequest_tables : u.tables = s.tables)
      rw [call, feed, brk]
      refine ⟨fun connected offHook => ?_, fun connected onHook => ?_, fun seizing offHook => ?_, fun ringing => ?_,
        fun connected seizing ringing => ?_⟩
      · rw [linkLost_connected (by rw [callNow]; exact connected), supNow, offHook]
        dsimp only
        rw [enterLockout_call (by rw [callNow, connected]; decide) (by rw [supNow]; exact offHook), lockedOut_congr tables]
      · rw [linkLost_connected (by rw [callNow]; exact connected), supNow, onHook]
        exact goIdle_call l v
      · rw [linkLost_seizing (by rw [callNow]; exact seizing),
          enterLockout_call (by rw [callNow, seizing]; decide) (by rw [supNow]; exact offHook), lockedOut_congr tables]
      · have rings : v.call[l].state = .ringing := by rw [callNow]; exact ringing
        rw [linkLost_ringing rings]
        have gone : (goIdle l v).ringer.places l = 0 := by
          rw [goIdle_frame]
          dsimp only
          rw [if_pos rings, ringerWithout_places, if_pos rfl]
        have places : (eachLine linkLost u.linkDown).ringer.places l = 0 := by
          rw [rest]
          exact each_keeps (fun w : State => w.ringer.places l = 0) linkLost after _
            (fun _ _ _ none => linkLost_places none) (by rw [linkLost_ringing rings]; exact gone)
        have ringer : t.ringer = (eachLine linkLost u.linkDown).ringer := frame .ringer (by decide)
        exact ⟨goIdle_call l v, (ringPlace_none (by rw [ringer]; exact places)).1⟩
      · rw [linkLost_other (by rw [callNow]; exact connected) (by rw [callNow]; exact seizing)
          (by rw [callNow]; exact ringing)]
        exact ⟨callNow, feedNow, brkNow⟩

end Sys2Proof.Machine
end

section
/-! Chapter 9, section 9.4: the control monitor and Isolated service. -/

namespace Sys2Proof.Machine

/-- The bearer with which a Seizing line waits for its grant. -/
def State.seizeOf (s : State) (l : Line) : Option Bearer :=
  match s.call[l].state, s.call[l].bearer with
  | .seizing, some b => some b
  | _, _ => none

section
variable {s t u v : State} {l m : Line} {b c : Bearer} {xs : List Line}

theorem seizeOf_of (seizing : s.call[l].state = .seizing) (names : s.call[l].bearer = some b) : s.seizeOf l = some b := by
  rw [State.seizeOf, seizing, names]

theorem seizeOf_not (not : s.call[l].state ≠ .seizing) : s.seizeOf l = none := by
  unfold State.seizeOf
  split
  · next seizing _ => exact absurd seizing not
  · rfl

theorem seizeOf_unnamed (none : s.call[l].bearer = none) : s.seizeOf l = Option.none := by
  unfold State.seizeOf
  split
  · next names => exact nomatch none.symm.trans names
  · rfl

theorem seizeOf_some (h : s.seizeOf l = some b) : s.call[l].state = .seizing ∧ s.call[l].bearer = some b := by
  unfold State.seizeOf at h
  split at h
  · next seizing names => exact ⟨seizing, names.trans h⟩
  · exact nomatch h

theorem seizeOf_congr (call : v.call[l] = s.call[l]) : v.seizeOf l = s.seizeOf l := by
  unfold State.seizeOf
  rw [call]

/-! ## Isolated service begins for one line -/

theorem isolateLine_waiting (waiting : s.call[l].state = .waiting) : isolateLine l s = enterLockout l .isolated s := by
  unfold isolateLine
  rw [waiting]

theorem isolateLine_seizing (seizing : s.call[l].state = .seizing) :
    isolateLine l s = enterLockout l .isolated (releaseUse l .answerTimeout s) := by
  unfold isolateLine
  rw [seizing]

theorem isolateLine_other (waiting : s.call[l].state ≠ .waiting) (seizing : s.call[l].state ≠ .seizing) :
    isolateLine l s = s := by
  unfold isolateLine
  split
  · next h => exact absurd h waiting
  · next h => exact absurd h seizing
  · rfl

theorem releaseUse_some {x : ReleaseCause} (names : s.call[l].bearer = some b) :
    releaseUse l x s = releaseReport l b x (clearBearer b s) := by
  unfold releaseUse
  rw [names]

theorem releaseUse_others {x : ReleaseCause} : OtherLines m s (releaseUse l x s) :=
  .ofSameBut releaseUse_sameBut (by decide)

theorem isolateLine_otherLines : OtherLines l s (isolateLine l s) := by
  unfold isolateLine
  split
  · exact enterLockout_otherLines
  · exact releaseUse_others.trans enterLockout_otherLines
  · exact .refl l s

theorem enterLockout_unrung_sameBut {x : LockoutCause} (unrung : s.call[l].state ≠ .ringing) :
    SameBut [.call, .brk, .arbiter, .feed] s (enterLockout l x s) := by
  rw [enterLockout_frame_unrung unrung]
  simp [sameBut_iff]

/-- The line leaves no trace in the ring collections, where it had none. -/
theorem isolateLine_frame : SameBut [.call, .brk, .arbiter, .feed, .bearers, .reports] s (isolateLine l s) := by
  have released : (releaseUse l .answerTimeout s).call = s.call := releaseUse_sameBut .call (by decide)
  unfold isolateLine
  split
  · next waiting => exact .mono (by decide) (enterLockout_unrung_sameBut (by rw [waiting]; decide))
  · next seizing =>
    exact SameBut.then (.mono (by decide) releaseUse_sameBut)
      (enterLockout_unrung_sameBut (by rw [released, seizing]; decide)) (by decide)
  · exact .refl _ s

theorem isolateLine_uses : (isolateLine l s).bearers = (match s.seizeOf l with
      | some b => (clearBearer b s).bearers
      | none => s.bearers) ∧
    (isolateLine l s).arbiter.handover = (match s.seizeOf l with
      | some b => if s.arbiter.handover.map Handover.bearer = some b then none else s.arbiter.handover
      | none => s.arbiter.handover) ∧
    (isolateLine l s).reports = (match s.seizeOf l with
      | some b => s.reports.append (s.urgentFor l)
          { kind := .release, line := some l, bearer := some b, value := some 0 }
      | none => s.reports) ∧
    (isolateLine l s).arbiter.pointer = s.arbiter.pointer := by
  have locked {x : LockoutCause} {v : State} : (enterLockout l x v).bearers = v.bearers ∧
      (enterLockout l x v).arbiter.handover = v.arbiter.handover ∧ (enterLockout l x v).reports = v.reports ∧
      (enterLockout l x v).arbiter.pointer = v.arbiter.pointer :=
    ⟨enterLockout_sameBut .bearers (by decide), enterLockout_arbiter.2, enterLockout_sameBut .reports (by decide),
      enterLockout_arbiter.1⟩
  by_cases seizing : s.call[l].state = .seizing
  · rw [isolateLine_seizing seizing]
    obtain ⟨bearers, handover, reports, pointer⟩ := locked (x := .isolated) (v := releaseUse l .answerTimeout s)
    rw [bearers, handover, reports, pointer]
    cases names : s.call[l].bearer with
    | some b =>
      have handover : (clearBearer b s).arbiter.handover =
          if s.arbiter.handover.map Handover.bearer = some b then none else s.arbiter.handover := by rw [clearBearer_frame]
      have pointer : (clearBearer b s).arbiter.pointer = s.arbiter.pointer := by rw [clearBearer_frame]
      have reports : (clearBearer b s).reports = s.reports := by rw [clearBearer_frame]
      rw [releaseUse_some names, seizeOf_of seizing names, releaseReport, lineReport_eq, clearBearer_urgentFor]
      exact ⟨rfl, handover, congrArg (fun x : Reports => x.append (s.urgentFor l) _) reports, pointer⟩
    | none =>
      rw [releaseUse_none names, seizeOf_unnamed names]
      exact ⟨rfl, rfl, rfl, rfl⟩
  · rw [seizeOf_not seizing]
    by_cases waiting : s.call[l].state = .waiting
    · rw [isolateLine_waiting waiting]
      exact locked
    · rw [isolateLine_other waiting seizing]
      exact ⟨rfl, rfl, rfl, rfl⟩

theorem enterLockout_line {x : LockoutCause} (unrung : s.call[l].state ≠ .ringing) :
    (enterLockout l x s).call[l] = s.lockoutCall l x ∧ (enterLockout l x s).feed[l] = s.lockoutFeed l := by
  rw [enterLockout_frame_unrung unrung]
  exact ⟨(set_get ..).trans (if_pos rfl), (set_get ..).trans (if_pos rfl)⟩

theorem isolateLine_line (joined : s.call[l].state = .waiting ∨ s.call[l].state = .seizing) :
    (isolateLine l s).call[l] = s.lockoutCall l .isolated ∧ (isolateLine l s).feed[l] = s.lockoutFeed l := by
  rcases joined with waiting | seizing
  · rw [isolateLine_waiting waiting]
    exact enterLockout_line (by rw [waiting]; decide)
  · have call : (releaseUse l .answerTimeout s).call = s.call := releaseUse_sameBut .call (by decide)
    have sup : (releaseUse l .answerTimeout s).sup = s.sup := releaseUse_sameBut .sup (by decide)
    have feed : (releaseUse l .answerTimeout s).feed = s.feed := releaseUse_sameBut .feed (by decide)
    have tables : (releaseUse l .answerTimeout s).tables = s.tables := releaseUse_sameBut .tables (by decide)
    have locked := enterLockout_line (s := releaseUse l .answerTimeout s) (l := l) (x := .isolated)
      (by rw [call, seizing]; decide)
    rw [isolateLine_seizing seizing, locked.1, locked.2]
    unfold State.lockoutCall State.lockoutFeed
    rw [sup, feed, lockedOut_congr tables]
    exact ⟨rfl, rfl⟩

/-! ## Isolated service begins -/

theorem each_isolate_frame : SameBut [.call, .brk, .arbiter, .feed, .bearers, .reports] s (each xs isolateLine s) :=
  .each isolateLine xs (.refl _ s) fun _ _ => isolateLine_frame

/-- What the lines that have been isolated so far have left of the handover and of the Bearer Table. -/
structure IsolatedUses (xs : List Line) (s t : State) : Prop where
  pointer : t.arbiter.pointer = s.arbiter.pointer
  link : SameLink s t
  handover : t.arbiter.handover = none ∨ t.arbiter.handover = s.arbiter.handover ∧
    ∀ l ∈ xs, ∀ b, s.seizeOf l = some b → s.arbiter.handover.map Handover.bearer ≠ some b
  unused : ∀ b, (∀ l ∈ xs, s.seizeOf l ≠ some b) → t.bearer b = s.bearer b
  used : ∀ l ∈ xs, ∀ b, s.seizeOf l = some b →
    t.bearer b = (s.bearer b).toClearing (secondsMs s.tables.timers.guard) ∧ b ∉ t.bearers.connection
  connection : ∀ b, b ∉ s.bearers.connection → b ∉ t.bearers.connection
  reports : t.reports = xs.foldl (fun q l => match s.seizeOf l with
    | some b => q.append (s.urgentFor l) { kind := .release, line := some l, bearer := some b, value := some 0 }
    | none => q) s.reports

theorem toClearing_toClearing (r : BearerRecord) (ms : Nat) : (r.toClearing ms).toClearing ms = r.toClearing ms := rfl

theorem clearBearer_connection : (clearBearer b s).bearers.connection = s.bearers.connection.filter fun x => x ≠ b := by
  rw [clearBearer_frame]

theorem clearBearer_sameLink : SameLink s (clearBearer b s) := by
  rw [clearBearer_frame]
  exact ⟨rfl, rfl⟩

theorem toClearing_noLine {r : BearerRecord} {ms : Nat} (clearing : t.bearer b = r.toClearing ms) :
    (t.bearer b).toClearing ms = r.toClearing ms := by
  rw [clearing]
  exact toClearing_toClearing r ms

theorem IsolatedUses.nil (s : State) : IsolatedUses [] s s :=
  ⟨rfl, ⟨rfl, rfl⟩, .inr ⟨rfl, fun _ mem => absurd mem List.not_mem_nil⟩, fun _ _ => rfl,
    fun _ mem => absurd mem List.not_mem_nil, fun _ out => out, rfl⟩

/-- One more line is isolated. -/
theorem IsolatedUses.snoc (h : IsolatedUses xs s t) (call : t.call[l] = s.call[l]) (entries : t.entries = s.entries)
    (tables : t.tables = s.tables) : IsolatedUses (xs ++ [l]) s (isolateLine l t) := by
  obtain ⟨bearers, handover, reports, pointer⟩ := isolateLine_uses (s := t) (l := l)
  have seize : t.seizeOf l = s.seizeOf l := seizeOf_congr call
  have urgent : t.urgentFor l = s.urgentFor l := by
    unfold State.urgentFor State.classOf
    rw [entries]
  have guard : t.tables.timers.guard = s.tables.timers.guard := by rw [tables]
  rw [seize] at bearers handover reports
  cases seizes : s.seizeOf l with
  | none =>
    rw [seizes] at bearers handover reports
    have same (b : Bearer) : (isolateLine l t).bearer b = t.bearer b :=
      congrArg (fun x : BearerTable => x.recs[b]) bearers
    have cases {m : Line} {b : Bearer} (mem : m ∈ xs ++ [l]) (uses : s.seizeOf m = some b) : m ∈ xs := by
      refine (List.mem_append.mp mem).resolve_right fun last => ?_
      rw [List.mem_singleton.mp last, seizes] at uses
      exact nomatch uses
    refine ⟨pointer.trans h.pointer, ?_, ?_, fun b out => ?_, fun m mem b uses => ?_, fun b out => ?_, ?_⟩
    · rw [SameLink, bearers]
      exact h.link
    · rw [handover]
      exact h.handover.imp id fun ⟨same, free⟩ => ⟨same, fun m mem b uses => free m (cases mem uses) b uses⟩
    · rw [same]
      exact h.unused b fun m mem => out m (List.mem_append_left _ mem)
    · rw [same, bearers]
      exact h.used m (cases mem uses) b uses
    · rw [bearers]
      exact h.connection b out
    · rw [reports, List.foldl_append, h.reports]
      simp only [List.foldl_cons, List.foldl_nil, seizes]
  | some c =>
    rw [seizes] at bearers handover reports
    dsimp only at bearers handover reports
    have bearer (b : Bearer) : (isolateLine l t).bearer b =
        if b = c then (t.bearer c).toClearing (secondsMs s.tables.timers.guard) else t.bearer b := by
      rw [← guard]
      exact (congrArg (fun x : BearerTable => x.recs[b]) bearers).trans clearBearer_bearer
    have connection {b : Bearer} : b ∈ (isolateLine l t).bearers.connection ↔ b ∈ t.bearers.connection ∧ b ≠ c := by
      rw [bearers, clearBearer_connection, List.mem_filter, decide_eq_true_iff]
    refine ⟨pointer.trans h.pointer, ?_, ?_, fun b out => ?_, fun m mem b uses => ?_,
      fun b out mem => h.connection b out (connection.mp mem).1, ?_⟩
    · rw [SameLink, bearers]
      exact ⟨clearBearer_sameLink.1.trans h.link.1, clearBearer_sameLink.2.trans h.link.2⟩
    · rw [handover]
      split
      · exact .inl rfl
      · next free =>
        refine h.handover.imp id fun ⟨same, others⟩ => ⟨same, fun m mem b uses => ?_⟩
        rcases List.mem_append.mp mem with mem | last
        · exact others m mem b uses
        · rw [List.mem_singleton.mp last, seizes] at uses
          rw [← uses, ← same]
          exact free
    · have ne : b ≠ c := fun same => out l (List.mem_append_right _ List.mem_cons_self) (same ▸ seizes)
      rw [bearer, if_neg ne]
      exact h.unused b fun m mem => out m (List.mem_append_left _ mem)
    · by_cases same : b = c
      · subst same
        refine ⟨?_, fun mem => (connection.mp mem).2 rfl⟩
        rw [bearer, if_pos rfl]
        by_cases before : ∃ m ∈ xs, s.seizeOf m = some b
        · obtain ⟨m, mem, uses⟩ := before
          exact toClearing_noLine (h.used m mem b uses).1
        · rw [h.unused b fun m mem uses => before ⟨m, mem, uses⟩]
      · have mem : m ∈ xs := by
          refine (List.mem_append.mp mem).resolve_right fun last => same ?_
          rw [List.mem_singleton.mp last, seizes] at uses
          exact (Option.some.inj uses).symm
        obtain ⟨clearing, out⟩ := h.used m mem b uses
        rw [bearer, if_neg same]
        exact ⟨clearing, fun mem => out (connection.mp mem).1⟩
    · rw [reports, List.foldl_append, ← h.reports, urgent]
      simp only [List.foldl_cons, List.foldl_nil, seizes]

theorem isolatedUses (once : xs.Nodup) : IsolatedUses xs s (each xs isolateLine s) := by
  induction xs using List.reverseRecOn with
  | nil => exact .nil s
  | append_singleton xs l ih =>
    obtain ⟨once, -, apart⟩ := List.nodup_append.mp once
    have out : l ∉ xs := fun mem => apart l mem l List.mem_cons_self rfl
    have call : (each xs isolateLine s).call[l] = s.call[l] :=
      (each_sameLine (fun _ _ => isolateLine_otherLines) out).2.2.2.2
    have split : each (xs ++ [l]) isolateLine s = isolateLine l (each xs isolateLine s) := List.foldl_append
    rw [split]
    exact (ih once).snoc call (each_isolate_frame .entries (by decide)) (each_isolate_frame .tables (by decide))

/-- Isolated service begins for every line. -/
theorem countdownExpiry_eq (counts : s.monitor.countdown ≠ none) : countdownExpiry s =
    (eachLine isolateLine (s.setMonitor { s.monitor with countdown := none, isolated := true })).setArrivals [] :=
  if_pos (Option.isSome_iff_ne_none.mpr counts)

end

/-- Settles O47: the lines are isolated in turn, and no line's isolation touches another line. -/
theorem monitorIsolates : Obligations.MonitorIsolates := by
  intro s
  refine ⟨?_, ?_⟩
  · intro interval h u
    by_cases range : interval.toNat < 2 ∨ 60 < interval.toNat
    · obtain ⟨t, next, frame, replied⟩ := unit_runs (i := .armMonitor .unit interval) (v := u) rfl h (if_pos range) rfl
      exact ⟨t, next, fun low high => absurd range (by omega), fun _ => ⟨frame, replied⟩⟩
    · obtain ⟨t, next, frame, replied⟩ := unit_runs (i := .armMonitor .unit interval)
        (v := u.setMonitor { u.monitor with
          armed := true, interval := some interval.toNat, countdown := some (interval.toNat * 1000) })
        rfl h (if_neg range) rfl
      have armed : SameBut [.watch] u (u.setMonitor { u.monitor with
          armed := true, interval := some interval.toNat, countdown := some (interval.toNat * 1000) }) := by
        simp [sameBut_iff, State.setMonitor]
      have watch : t.monitor.watch = _ := frame .watch (by decide)
      refine ⟨t, next, fun _ _ => ⟨SameBut.then (.mono (by decide) armed) frame (by decide), ?_, replied⟩,
        fun out => absurd out range⟩
      rw [watch, Nat.mul_comm]
      rfl
  · intro counts handover seizes
    have expired := countdownExpiry_eq counts
    generalize start : s.setMonitor { s.monitor with countdown := none, isolated := true } = u at expired
    have begun : SameBut [.watch, .quietRun] s u := by
      rw [← start]
      simp [sameBut_iff, State.setMonitor]
    have watch : u.monitor.watch = { s.monitor.watch with countdown := none, isolated := true } := by
      rw [← start]
      rfl
    have uses : IsolatedUses allLines u (eachLine isolateLine u) := isolatedUses (List.nodup_finRange 32)
    have frame : SameBut [.call, .brk, .arbiter, .feed, .bearers, .reports] u (eachLine isolateLine u) :=
      each_isolate_frame
    have perLine (l : Line) : ∃ v, SameBut [.call, .brk, .arbiter, .feed, .bearers, .reports] u v ∧ SameLine l u v ∧
        SameLine l (isolateLine l v) (eachLine isolateLine u) := by
      obtain ⟨-, -, v, -, -, -, same⟩ :=
        eachLine_at (fun _ _ => isolateLine_otherLines) (fun _ _ => isolateLine_frame) u l
      exact ⟨v, same⟩
    generalize eachLine isolateLine u = w at expired uses frame perLine
    have after : SameBut [.quietRun] (w.setArrivals []) (event countdownExpiry s) := sameBut_event_of expired
    have arrived : SameBut [.arbiter] w (w.setArrivals []) := setArbiter_sameBut
    have arbiter : (event countdownExpiry s).arbiter = (w.setArrivals []).arbiter := after .arbiter (by decide)
    have tables : u.tables = s.tables := begun .tables (by decide)
    have bearers : u.bearers = s.bearers := begun .bearers (by decide)
    have callU : u.call = s.call := begun .call (by decide)
    have urgent (l : Line) : u.urgentFor l = s.urgentFor l := by
      have entries : u.entries = s.entries := begun .entries (by decide)
      unfold State.urgentFor State.classOf
      rw [entries]
    have seizeU (l : Line) : u.seizeOf l = s.seizeOf l := seizeOf_congr (by rw [callU])
    have freed : w.arbiter.handover = none := by
      refine uses.handover.elim id fun ⟨same, free⟩ => ?_
      have arbiterU : u.arbiter = s.arbiter := begun .arbiter (by decide)
      rw [arbiterU] at same free
      cases flight : s.arbiter.handover with
      | none => exact same.trans flight
      | some h =>
        obtain ⟨seizing, names⟩ := handover h flight
        have seized : u.seizeOf h.line = some h.bearer := (seizeU _).trans (seizeOf_of seizing names)
        exact absurd (congrArg (Option.map Handover.bearer) flight) (free h.line (mem_allLines _) h.bearer seized)
    refine ⟨_, rfl, ?_, ?_, ?_, fun l => ?_, ?_, fun l b used line => ?_, fun b unused => ?_, ?_⟩
    · exact SameBut.then (SameBut.then (SameBut.then (.mono (by decide) begun) frame (by decide)) arrived (by decide))
        after (by decide)
    · have kept : (event countdownExpiry s).monitor.watch = u.monitor.watch :=
        Eq.trans (after .watch (by decide)) (Eq.trans (arrived .watch (by decide)) (frame .watch (by decide)))
      exact kept.trans watch
    · have pointer : w.arbiter.pointer = s.arbiter.pointer :=
        uses.pointer.trans (congrArg Arbiter.pointer (begun .arbiter (by decide)))
      rw [arbiter]
      exact (congrArg (fun x => Arbiter.mk w.arbiter.pointer [] x) freed).trans
        (congrArg (fun x => Arbiter.mk x [] none) pointer)
    · obtain ⟨v, frameV, ⟨-, supV, brkV, feedV, callV⟩, -, -, brkT, feedT, callT⟩ := perLine l
      have callNow : v.call[l] = s.call[l] := by rw [callV, callU]
      have supNow : v.sup[l] = s.sup[l] :=
        supV.trans (congrArg (fun x : Vector Supervision 32 => x[l]) (begun .sup (by decide)))
      have feedNow : v.feed[l] = s.feed[l] :=
        feedV.trans (congrArg (fun x : Vector Feed 32 => x[l]) (begun .feed (by decide)))
      have brkNow : v.brk[l] = s.brk[l] :=
        brkV.trans (congrArg (fun x : Vector BreakTiming 32 => x[l]) (begun .brk (by decide)))
      have tablesNow : v.tables = s.tables := Eq.trans (frameV .tables (by decide)) tables
      have call : (event countdownExpiry s).call[l] = (isolateLine l v).call[l] :=
        (congrArg (fun x : Vector CallRecord 32 => x[l]) (after .call (by decide))).trans callT
      have feed : (event countdownExpiry s).feed[l] = (isolateLine l v).feed[l] :=
        (congrArg (fun x : Vector Feed 32 => x[l]) (after .feed (by decide))).trans feedT
      have brk : (event countdownExpiry s).brk[l] = (isolateLine l v).brk[l] :=
        (congrArg (fun x : Vector BreakTiming 32 => x[l]) (after .brk (by decide))).trans brkT
      rw [call, feed, brk]
      refine ⟨fun joined offHook => ?_, fun joined onHook => ?_, fun waiting seizing => ?_⟩
      · rw [← callNow] at joined
        obtain ⟨call, feed⟩ := isolateLine_line joined
        rw [call, feed, State.lockoutCall, State.lockoutFeed, supNow, offHook, lockedOut_congr tablesNow, feedNow]
        exact ⟨rfl, rfl⟩
      · rw [← callNow] at joined
        rw [(isolateLine_line joined).1, State.lockoutCall, supNow, onHook]
      · rw [← callNow] at waiting seizing
        rw [isolateLine_other waiting seizing]
        exact ⟨callNow, feedNow, brkNow⟩
    · rw [SameLink, ← bearers, event_bearers, expired]
      exact uses.link
    · obtain ⟨clearing, out⟩ := uses.used l (mem_allLines l) b ((seizeU l).trans (seizeOf_of used.1 used.2))
      have bearer : u.bearer b = s.bearer b := by rw [State.bearer, bearers, State.bearer]
      have now : (event countdownExpiry s).bearers = w.bearers := by rw [event_bearers, expired]; rfl
      rw [bearer, tables, toClearing_eq line] at clearing
      rw [State.bearer, now]
      exact ⟨clearing, out⟩
    · have bearer : u.bearer b = s.bearer b := by rw [State.bearer, bearers, State.bearer]
      have now : (event countdownExpiry s).bearers = w.bearers := by rw [event_bearers, expired]; rfl
      rw [State.bearer, now, ← bearer]
      exact uses.unused b fun l _ seized => unused l (seizeOf_some ((seizeU l).symm.trans seized))
    · have reports : u.reports = s.reports := begun .reports (by decide)
      rw [event_reports, expired]
      refine (uses.reports.trans ?_ : w.reports = _)
      rw [reports]
      refine congrFun (congrFun (congrArg _ (funext fun q => funext fun l => ?_)) _) _
      rw [seizeU, urgent, State.seizeOf]
      cases s.call[l].state <;> cases s.call[l].bearer <;> rfl

end Sys2Proof.Machine
end

section
/-! Chapters 10 and 11: requests and their payloads. -/

namespace Sys2Proof.Machine

section
variable {s : State} {d : Addressee} {code : Byte} {rest : List Byte} {allowed : Bool} {n : Nat}

theorem wordOf_halves (w : Word16) : wordOf (w.extractLsb' 8 8) (w.extractLsb' 0 8) = w := by
  have joined : wordOf (w.extractLsb' 8 8) (w.extractLsb' 0 8) = w.extractLsb' 0 16 :=
    BitVec.extractLsb'_append_extractLsb'_eq_extractLsb' (by rfl)
  rw [joined, BitVec.extractLsb'_eq_self]

/-- A payload of a known code and of its length, other than Restart, is what its code asks. -/
theorem takePayload_known {q : Request} (known : requestLength code.toNat = some n) (len : rest.length + 1 = n)
    (other : code ≠ 0x2F) (may : mayBroadcast code.toNat = allowed) (request : requestOf s code.toNat (code :: rest) = q) :
    takePayload d (code :: rest) s = takeFrame d allowed q s := by
  have notFull : isRestartFull (code :: rest) = false :=
    decide_eq_false fun same => other (List.cons.inj same).1
  have first : byteAt (code :: rest) 0 = code := rfl
  have asks : payloadRequest s (code :: rest) = q := by
    rw [payloadRequest, first, known, ← request]
    exact if_pos len
  rw [takePayload, notFull, first, may, asks]
  rfl

/-- The command of a request that is an event is the arrival of its payload. -/
theorem event_takePayload {q : Request} (known : requestLength code.toNat = some n) (len : rest.length + 1 = n)
    (other : code ≠ 0x2F) (may : mayBroadcast code.toNat = allowed)
    (request : ∀ v : State, requestOf v code.toNat (code :: rest) = q) :
    event (takeFrame d allowed q) s = event (takePayload d (code :: rest)) s :=
  congrArg (fun f => event f s) (funext fun v => (takePayload_known known len other may (request v)).symm)

theorem takePayload_restartFull : takePayload d [0x2F, 0] s = takeRestartFull s := rfl

end

/-- Settles O50: each request is its payload's by the catalogue of codes. -/
theorem requestsAreTheirPayloads : Obligations.RequestsAreTheirPayloads := by
  intro d s hi lo asks
  have word (w : Word16) : wordOf (hi w) (lo w) = w := wordOf_halves w
  have asks_of {c : Instr} {code : Byte} {rest : List Byte} {allowed : Bool} {q : Request}
      (runs : exec c s = .next (event (takeFrame d allowed q) s))
      (known : requestLength code.toNat = some (rest.length + 1)) (other : code ≠ 0x2F)
      (may : mayBroadcast code.toNat = allowed)
      (request : ∀ v : State, requestOf v code.toNat (code :: rest) = q) : asks c (code :: rest) :=
    runs.trans (congrArg _ (event_takePayload known rfl other may request))
  have queried {c : Instr} {code : Byte} {rest : List Byte} {q : Request}
      (runs : exec c s = .next (takeFrame d false q s))
      (known : requestLength code.toNat = some (rest.length + 1)) (other : code ≠ 0x2F)
      (may : mayBroadcast code.toNat = false)
      (request : requestOf s code.toNat (code :: rest) = q) : exec c s = .next (takePayload d (code :: rest) s) :=
    runs.trans (congrArg _ (takePayload_known known rfl other may request).symm)
  refine ⟨⟨?_, fun l => ?_, fun b => ?_, fun n => ?_, ?_, ?_⟩, fun p k m a b c fl => ?_, fun l e p c r => ?_,
    fun a b c e => ?_, fun a b c e f g h i => ?_, fun a b c e f g q => ?_, fun a b c e => ?_, fun v => ?_, ?_, fun n => ?_,
    ?_, fun a r => ⟨fun receives => ?_, fun ignored => ?_⟩, fun n => ⟨?_, ?_⟩, fun w => ?_, fun b => ⟨?_, ?_, ?_⟩,
    fun l b => ⟨?_, ?_, ?_⟩, fun l b r => ?_, fun l => ?_, fun l m o => ?_, ?_⟩
  · exact queried rfl rfl (by decide) rfl rfl
  · exact queried rfl rfl (by decide) rfl rfl
  · exact queried rfl rfl (by decide) rfl rfl
  · exact queried rfl rfl (by decide) rfl rfl
  · exact queried rfl rfl (by decide) rfl rfl
  · exact queried rfl rfl (by decide) rfl rfl
  · refine asks_of rfl rfl (by decide) rfl fun _ => ?_
    change reqSetProfile p ⟨k, m, wordOf (hi a) (lo a), wordOf (hi b) (lo b), wordOf (hi c) (lo c), fl⟩ = _
    rw [word, word, word]
  · exact asks_of rfl rfl (by decide) rfl fun _ => rfl
  · refine asks_of rfl rfl (by decide) rfl fun _ => ?_
    change reqSetClassMap (wordOf (hi a) (lo a)) (wordOf (hi b) (lo b)) (wordOf (hi c) (lo c)) (wordOf (hi e) (lo e)) = _
    rw [word, word, word, word]
  · exact asks_of rfl rfl (by decide) rfl fun _ => rfl
  · refine asks_of rfl rfl (by decide) rfl fun _ => ?_
    change reqSetTimers ⟨a, b, c, e, f, g, wordOf (hi q) (lo q)⟩ = _
    rw [word]
  · refine asks_of rfl rfl (by decide) rfl fun _ => ?_
    change reqSetSupplyThresholds
      ⟨wordOf (hi a) (lo a), wordOf (hi b) (lo b), wordOf (hi c) (lo c), wordOf (hi e) (lo e)⟩ = _
    rw [word, word, word, word]
  · exact asks_of rfl rfl (by decide) rfl fun _ => rfl
  · exact asks_of rfl rfl (by decide) rfl fun _ => rfl
  · exact asks_of rfl rfl (by decide) rfl fun _ => rfl
  · rfl
  · rw [takePayload_restartFull]
    exact congrArg _ (if_pos receives)
  · exact congrArg _ (if_neg (by rw [ignored]; nofun))
  · exact asks_of rfl rfl (by decide) rfl fun _ => rfl
  · exact asks_of rfl rfl (by decide) rfl fun _ => rfl
  · refine asks_of rfl rfl (by decide) rfl fun _ => ?_
    exact congrArg reqBearerCheck (word w)
  · exact asks_of rfl rfl (by decide) rfl fun _ => rfl
  · exact asks_of rfl rfl (by decide) rfl fun _ => rfl
  · exact asks_of rfl rfl (by decide) rfl fun _ => rfl
  · exact asks_of rfl rfl (by decide) rfl fun _ => rfl
  · exact asks_of rfl rfl (by decide) rfl fun _ => rfl
  · exact asks_of rfl rfl (by decide) rfl fun _ => rfl
  · exact asks_of rfl rfl (by decide) rfl fun _ => rfl
  · exact asks_of rfl rfl (by decide) rfl fun _ => rfl
  · exact asks_of rfl rfl (by decide) rfl fun _ => rfl
  · exact asks_of rfl rfl (by decide) rfl fun _ => rfl

end Sys2Proof.Machine
end

section
/-! Chapter 10, section 10.3: what every valid frame does, and broadcasts. -/

namespace Sys2Proof.Machine

section
variable {s t v : State} {q : Request} {c : Addressee → Instr} {allowed : Bool} {x : Bus}

theorem atRequest_watch : s.atRequest.monitor.watch = { s.monitor.watch with
    isolated := false
    countdown := if s.monitor.armed = true then s.monitor.interval.map (1000 * ·) else s.monitor.countdown } := by
  have thousand : (fun n : Nat => n * 1000) = fun n => 1000 * n := funext fun n => Nat.mul_comm n 1000
  rw [State.atRequest, reloadMonitor_frame, thousand]
  rfl

theorem atRequest_reports : s.atRequest.reports =
    if s.monitor.isolated = true then s.reports.append true { kind := .controlRestored } else s.reports := by
  rw [State.atRequest, reloadMonitor_frame]
  rfl

theorem takeFrame_silent (h : s.receives = true) : takeFrame .broadcast false q s = s.atRequest := if_pos h

theorem takeFrame_broadcast (h : s.receives = true) : takeFrame .broadcast true q s = (q s.atRequest).1 := if_pos h

/-- The quiet timer does not look at the bus. -/
theorem runQuiet_setBus (before : State) : runQuiet before (s.setBus x) = (runQuiet before s).setBus x := by
  have condition : (s.setBus x).quietCondition = s.quietCondition := rfl
  unfold runQuiet
  dsimp only
  rw [condition]
  by_cases idle : s.quietCondition = true
  · rw [if_pos idle, if_pos idle]
    by_cases quiet : s.monitor.quiet = true
    · rw [if_pos quiet, if_pos (c := (s.setBus x).monitor.quiet = true) quiet]
      rfl
    · rw [if_neg quiet, if_neg (c := (s.setBus x).monitor.quiet = true) quiet]
      by_cases begins : (before.monitor.quiet || !before.quietCondition) = true
      · rw [if_pos begins, if_pos begins]
        rfl
      · rw [if_neg begins, if_neg begins]
        by_cases zero : s.tables.timers.quietDelay.toNat = 0
        · rw [if_pos zero, if_pos (c := (s.setBus x).tables.timers.quietDelay.toNat = 0) zero]
          rfl
        · rw [if_neg zero, if_neg (c := (s.setBus x).tables.timers.quietDelay.toNat = 0) zero]
  · rw [if_neg idle, if_neg idle]
    rfl

/-- The request acts as a broadcast without a reply, and as a frame for the unit in the same way with one. -/
def BroadcastActs (s : State) (c : Addressee → Instr) : Prop :=
  ∃ t, exec (c .broadcast) s = .next t ∧ t.bus.pending = .none ∧
    ∃ r : Reply, exec (c .unit) s = .next (t.setBus { t.bus with pending := .waiting r 0 })

theorem broadcastActs_of (h : s.receives = true) (runs : ∀ d, exec (c d) s = .next (event (takeFrame d true q) s))
    (bus : (q s.atRequest).1.bus = s.atRequest.bus) : BroadcastActs s c := by
  refine ⟨_, runs .broadcast, ?_, (q s.atRequest).2, (runs .unit).trans (congrArg _ ?_)⟩
  · rw [event_bus, takeFrame_broadcast h, bus, atRequest_bus]
  · rw [event, takeFrame_unit true q s h, owe, runQuiet_setBus, event_bus, event, takeFrame_broadcast h]

theorem Request.Changes.keepsBus {parts : List Part} (h : q.Changes parts) (out : .bus ∉ parts) :
    (q s).1.bus = s.bus := h s .bus out

theorem callsRestart_bus : (callsRestart s).bus = { s.bus with assembly := {}, gap := none } := by
  unfold callsRestart
  dsimp only
  split <;> rfl

/-- A request that may not be broadcast. -/
theorem silent_of {i : Instr} (h : s.receives = true)
    (runs : exec i s = .next (event (takeFrame .broadcast false q) s)) :
    ∃ t, exec i s = .next t ∧ SameBut [.quietRun] s.atRequest t :=
  ⟨_, runs, sameBut_event_of (takeFrame_silent h)⟩

theorem query_silent {i : Instr} (h : s.receives = true) (runs : exec i s = .next (takeFrame .broadcast false q s)) :
    ∃ t, exec i s = .next t ∧ SameBut [.quietRun] s.atRequest t :=
  ⟨_, runs, takeFrame_silent (q := q) h ▸ .refl _ _⟩

end

/-- Settles O52: a request that may be broadcast leaves the bus as it met it. -/
theorem framesReloadAndBroadcastsAreSilent : Obligations.FramesReloadAndBroadcastsAreSilent := by
  intro s h u
  refine ⟨.mono (by decide) (atRequest_sameBut s), atRequest_bus s, atRequest_watch, atRequest_reports, fun q => takeFrame_silent h,
    fun q bus => ⟨takeFrame_broadcast h, ?_⟩, ?_⟩
  · have unit := takeFrame_unit true q s h
    rw [unit, owe, bus]
    rfl
  · intro a b c e f g j i w x y z pin rate acts
    refine ⟨?_, ?_, ?_, ?_, ?_, ?_, ?_, ?_, rfl, ?_⟩
    · exact broadcastActs_of (c := (.setProfile · a b c w x y e))
        h (fun _ => rfl) (reqSetProfile_changes.keepsBus (by decide))
    · exact broadcastActs_of (c := (.setClassMap · w x y z))
        h (fun _ => rfl) (reqSetClassMap_changes.keepsBus (by decide))
    · exact broadcastActs_of (c := (.setArbiterPhases · a b c e f g j i))
        h (fun _ => rfl) (reqSetArbiterPhases_changes.keepsBus (by decide))
    · exact broadcastActs_of (c := (.setTimers · a b c e f g w))
        h (fun _ => rfl) (reqSetTimers_changes.keepsBus (by decide))
    · exact broadcastActs_of (c := (.setSupplyThresholds · w x y z))
        h (fun _ => rfl) (reqSetSupplyThresholds_changes.keepsBus (by decide))
    · exact broadcastActs_of h (fun _ => rfl) (reqClearSupplyDip_changes.keepsBus (by decide))
    · exact broadcastActs_of (c := (.armMonitor · a))
        h (fun _ => rfl) (reqArmMonitor_changes.keepsBus (by decide))
    · refine broadcastActs_of (c := .restartCalls) h (fun _ => rfl) (callsRestart_bus.trans ?_)
      rw [atRequest_bus]
    · simp only [List.forall_mem_cons]
      exact ⟨query_silent h rfl, query_silent h rfl, query_silent h rfl, query_silent h rfl, query_silent h rfl,
        query_silent h rfl, silent_of h rfl, silent_of h rfl, silent_of h rfl, silent_of h rfl, silent_of h rfl,
        silent_of h rfl, silent_of h rfl, silent_of h rfl, silent_of h rfl, silent_of h rfl, silent_of h rfl,
        silent_of h rfl, silent_of h rfl, silent_of h rfl, silent_of h rfl, fun _ mem => nomatch mem⟩

end Sys2Proof.Machine
end

section
/-! Chapters 10 and 11: frames that no request owns, and bytes that are ignored. -/

namespace Sys2Proof.Machine

section
variable {s : State} {d : Addressee} {code v : Byte} {rest : List Byte} {n : Nat}

/-! ## Unknown codes and bad lengths (R171) -/

theorem requestLength_unknown (unknown : requestCodes.contains n = false) : requestLength n = none := by
  unfold requestLength
  split
  any_goals cases unknown
  rfl

theorem mayBroadcast_unknown (unknown : requestCodes.contains n = false) : mayBroadcast n = false := by
  have sub : ∀ k ∈ [0x20, 0x22, 0x23, 0x24, 0x25, 0x27, 0x28, 0x2F], k ∈ requestCodes := by decide
  refine Bool.eq_false_iff.mpr fun may => ?_
  rw [List.contains_eq_mem, decide_eq_false_iff_not] at unknown
  exact unknown (sub n (List.contains_iff_mem.mp may))

theorem takePayload_unknown (unknown : requestCodes.contains code.toNat = false) :
    takePayload d (code :: rest) s = takeFrame d false (refuseWith .unknownRequest) s := by
  have notFull : isRestartFull (code :: rest) = false := by
    refine decide_eq_false fun same => ?_
    rw [(List.cons.inj same).1] at unknown
    exact absurd unknown (by decide)
  have first : byteAt (code :: rest) 0 = code := rfl
  have asks : payloadRequest s (code :: rest) = refuseWith .unknownRequest := by
    rw [payloadRequest, first, requestLength_unknown unknown]
  rw [takePayload, notFull, first, mayBroadcast_unknown unknown, asks]
  rfl

theorem takePayload_badLength (known : requestLength code.toNat = some n) (bad : rest.length + 1 ≠ n) :
    takePayload d (code :: rest) s = takeFrame d (mayBroadcast code.toNat) (refuseWith .badLength) s := by
  have notFull : isRestartFull (code :: rest) = false := by
    refine decide_eq_false fun same => bad ?_
    obtain ⟨rfl, rfl⟩ := List.cons.inj same
    exact Option.some.inj known
  have first : byteAt (code :: rest) 0 = code := rfl
  have asks : payloadRequest s (code :: rest) = refuseWith .badLength := by
    rw [payloadRequest, first, known]
    exact if_neg bad
  rw [takePayload, notFull, first, asks]
  rfl

/-! ## Received bytes are ignored (R167, R169) -/

theorem takePayload_lost (ignored : s.receives = false) (p : List Byte) : takePayload d p s = s.lostFrame := by
  have deaf : ¬s.receives = true := by rw [ignored]; nofun
  exact (congrArg (fun x => if isRestartFull p then x else _) (if_neg deaf)).trans
    ((congrArg (fun x => if isRestartFull p then loseFrame s else x) (if_neg deaf)).trans (ite_self _))

/-- Nothing but the receive line's own state has changed. -/
def Unassembled (s t : State) : Prop :=
  SameBut [.bus] s t ∧ t.bus.assembly = s.bus.assembly ∧ t.bus.pending = s.bus.pending ∧ t.bus.ready = s.bus.ready ∧
    t.bus.address = s.bus.address ∧ t.bus.rate = s.bus.rate

theorem byteStart_unassembled : Unassembled s (byteStart s) := by
  rw [byteStart_frame]
  exact ⟨setBus_sameBut, rfl, rfl, rfl, rfl, rfl⟩

theorem lineAfterByte_unassembled {parity stop : Bool} : Unassembled s (lineAfterByte v parity stop s) := by
  rw [lineAfterByte_frame]
  exact ⟨setBus_sameBut, rfl, rfl, rfl, rfl, rfl⟩

/-- A byte is not taken while received bytes are not examined. -/
theorem byteRest_deaf {parity stop : Bool} (deaf : s.receives = false) :
    Unassembled s (byteRest v parity stop s) := by
  by_cases none : s.bus.reception = .none
  · rw [byteRest, if_pos none]
    exact ⟨.refl _ s, rfl, rfl, rfl, rfl, rfl⟩
  · have after : byteRest v parity stop s = lineAfterByte v parity stop s := by
      rw [byteRest, if_neg none, deaf, Bool.and_false]
      rfl
    rw [after]
    exact lineAfterByte_unassembled

theorem bytePart_deaf (deaf : s.receives = false) (part : BytePart) : Unassembled s (bytePart v part s) := by
  cases part with
  | start => exact byteStart_unassembled
  | rest parity stop => exact byteRest_deaf deaf

theorem byteStart_deaf (deaf : s.receives = false)
    (heard : s.bus.lowTimer = none ∧ s.bus.reception = .none ∧ s.inRestart = false) :
    (byteStart s).bus.reception = .ignored := by
  rw [byteStart, if_pos heard, deaf]
  rfl

theorem Unassembled.event {f : State → State} (h : Unassembled s (f s)) :
    SameBut [.bus, .quietRun] s (event f s) ∧ (event f s).bus.assembly = s.bus.assembly ∧
      (event f s).bus.pending = s.bus.pending ∧ (event f s).bus.ready = s.bus.ready ∧
      (event f s).bus.address = s.bus.address ∧ (event f s).bus.rate = s.bus.rate := by
  obtain ⟨frame, bus⟩ := h
  rw [event_bus]
  exact ⟨SameBut.event (.mono (by decide) frame) (by decide), bus⟩

end

/-- Settles O51: an unknown code has no length, and a byte whose start bit was ignored acts on the line alone. -/
theorem framesWithoutOwner : Obligations.FramesWithoutOwner := by
  refine ⟨?_, ?_⟩
  · intro s code rest h u
    refine ⟨fun unknown => ⟨⟨_, rfl, ?_⟩, ?_, ?_, ?_⟩, fun n known bad => ⟨_, rfl, ?_⟩⟩
    · rw [takePayload_unknown unknown]
      exact frame_answers h rfl
    · rw [takePayload_unknown unknown]
      exact takeFrame_silent h
    · rw [takePayload_unknown unknown]
      exact congrArg _ (if_neg (by rw [unknown]; nofun))
    · have silent : takeFrame .broadcast false (refuseWith .unknownRequest) s = u := takeFrame_silent h
      rw [← silent]
      exact congrArg _ (if_neg (by rw [unknown]; nofun))
    · rw [takePayload_badLength known bad]
      exact frame_answers h rfl
  · intro s unassembled
    refine ⟨fun deaf => ⟨fun d p => takePayload_lost deaf p, fun v part => ⟨_, rfl, (bytePart_deaf deaf part).event⟩,
      fun high idle running v => ⟨_, rfl, ?_⟩⟩, fun ignored v parity stop => ⟨_, rfl, ?_⟩⟩
    · rw [event_bus]
      exact byteStart_deaf deaf ⟨high, idle, running⟩
    · refine Unassembled.event ?_
      change Unassembled s (byteRest v parity stop s)
      rw [byteRest_ignored v parity stop s ignored]
      exact lineAfterByte_unassembled

end Sys2Proof.Machine
end

section
/-! Chapter 10, sections 10.1 and 10.2: bytes on the receive line and the frames they form. -/

namespace Sys2Proof.Machine

/-! ## Parity (R163) -/

/-- Exclusive or over a list says whether the number of ones is odd. -/
theorem foldl_xor_eq (bits : List Bool) (b : Bool) :
    bits.foldl xor b = decide ((b.toNat + bits.count true) % 2 = 1) := by
  induction bits generalizing b with
  | nil => cases b <;> rfl
  | cons x xs ih =>
    rw [List.foldl_cons, ih]
    cases b <;> cases x <;> simp <;> omega

theorem parityBit_eq (v : Byte) : parityBit v = decide ((dataBits v).count true % 2 = 1) := by
  rw [parityBit, foldl_xor_eq]
  simp

theorem count_data_parity (v : Byte) (parity : Bool) :
    ((dataBits v ++ [parity]).count true) % 2 = if parity = parityBit v then 0 else 1 := by
  rw [parityBit_eq, List.count_append]
  by_cases odd : (dataBits v).count true % 2 = 1
  · cases parity <;> simp [odd] <;> omega
  · cases parity <;> simp [odd] <;> omega

theorem byteError_iff (v : Byte) (parity stop : Bool) :
    byteError v parity stop = true ↔ ((dataBits v ++ [parity]).count true) % 2 = 1 ∨ stop = false := by
  rw [count_data_parity, byteError]
  cases stop <;> by_cases even : parity = parityBit v <;> simp [even]

/-! ## Check bytes (R165) -/

theorem sumBytes_snoc (bytes : List Byte) (v : Byte) : sumBytes (bytes ++ [v]) = sumBytes bytes + v := by
  rw [sumBytes, List.foldl_append]
  rfl

theorem sum_eq_iff (address check : Byte) (payload : List Byte) :
    sumBytes (address :: byteOf payload.length :: (payload ++ [check])) = frameSum ↔
      check = checkByte address payload := by
  have whole : address :: byteOf payload.length :: (payload ++ [check]) =
      (address :: byteOf payload.length :: payload) ++ [check] := rfl
  rw [whole, sumBytes_snoc, checkByte]
  generalize sumBytes _ = sum
  constructor
  · intro total
    rw [← total, add_sub_cancel_left]
  · rintro rfl
    exact add_sub_cancel sum frameSum

/-! ## A byte between two bytes -/

/-- The state with this frame in assembly. -/
def State.assembling (s : State) (a : Assembly) (gap : Option Nat) : State :=
  s.setBus { s.bus with assembly := a, gap := gap }

/-- The bits of the byte arrive without byte error. -/
def arrive (s : State) (v : Byte) : State := bytePart v (.rest (parityBit v) true) (bytePart v .start s)

/-- The receive line rests between two bytes of a unit that examines them. -/
structure State.Resting (s : State) : Prop where
  receives : s.receives = true
  reception : s.bus.reception = .none
  high : s.bus.lowTimer = none
  counted : s.bus.readyTimer = none

section
variable {s : State} {a : Assembly} {g : Option Nat} {v : Byte} {p rest : List Byte}

theorem State.Resting.assembling (h : s.Resting) (a : Assembly) (g : Option Nat) : (s.assembling a g).Resting :=
  ⟨h.receives, h.reception, h.high, h.counted⟩

/-- What a whole byte leaves of the receive line. -/
theorem Bus.rested (x : Bus) (ready : x.ready = true) (reception : x.reception = .none) (high : x.lowTimer = none)
    (counted : x.readyTimer = none) :
    { x with
      gap := none, reception := .none, lowTimer := none
      readyTimer := if x.ready then none else some Config.readyMs } = { x with gap := none } := by
  rcases x with ⟨_, _, _, _, _, _, _, _, _⟩
  simp_all

/-- A byte that arrives on the resting line stops the gap timer and goes to the assembly. -/
theorem arrive_eq (h : s.Resting) : arrive s v = goodByte v (s.assembling s.bus.assembly none) := by
  obtain ⟨receives, reception, high, counted⟩ := h
  obtain ⟨ready, running, -⟩ := (receives_iff s).mp receives
  have started : byteStart s = s.setBus { s.bus with
      lowTimer := some 0, readyTimer := none, gap := none, reception := .taken } := by
    rw [byteStart, if_pos ⟨high, reception, running⟩, receives]
    rfl
  have taken : (decide ((byteStart s).bus.reception = .taken) && (byteStart s).receives) = true := by
    rw [started]
    exact receives
  have unheard : ¬(byteStart s).bus.reception = .none := by
    rw [started]
    nofun
  have after : lineAfterByte v (parityBit v) true (byteStart s) = s.assembling s.bus.assembly none := by
    rw [started]
    exact congrArg s.setBus (Bus.rested s.bus ready reception high counted)
  calc arrive s v = byteRest v (parityBit v) true (byteStart s) := rfl
    _ = goodByte v (s.assembling s.bus.assembly none) := by
      rw [byteRest, if_neg unheard, taken, after, byteError_sent]
      rfl

/-! ## The bytes of a frame (R164) -/

/-- A byte of a frame that is in assembly. -/
theorem arrive_assembling (h : s.Resting) : arrive (s.assembling a g) v = goodByte v (s.assembling a none) :=
  arrive_eq (h.assembling a g)

theorem arrive_lead (h : s.Resting) :
    arrive (s.assembling {} g) leadByte = s.assembling { state := .address } (some 5) :=
  arrive_assembling h

theorem arrive_address (h : s.Resting) :
    arrive (s.assembling { state := .address } g) v = s.assembling { state := .length, address := some v } (some 5) :=
  arrive_assembling h

theorem arrive_length (h : s.Resting) {address : Option Byte} (low : 1 ≤ v.toNat) (high : v.toNat ≤ 60) :
    arrive (s.assembling { state := .length, address := address } g) v =
      s.assembling { state := .payload, address := address, length := some v } (some 5) :=
  (arrive_assembling h).trans (if_pos ⟨low, high⟩)

theorem arrive_payload (h : s.Resting) {address : Option Byte} {n : Byte} :
    arrive (s.assembling { state := .payload, address := address, length := some n, payload := p } g) v =
      s.assembling
        { state := if n.toNat ≤ p.length + 1 then .check else .payload
          address := address, length := some n, payload := p ++ [v] } (some 5) := by
  have longer : p.length + 1 = (p ++ [v]).length := by rw [List.length_append, List.length_singleton]
  rw [arrive_assembling h, longer]
  rfl

/-- The payload bytes, of which there are some left, lead to the check byte. -/
theorem arrive_rest (h : s.Resting) {address : Option Byte} {n : Byte} (some_left : rest ≠ [])
    (all : p.length + rest.length = n.toNat) :
    rest.foldl arrive (s.assembling { state := .payload, address := address, length := some n, payload := p } g) =
      s.assembling { state := .check, address := address, length := some n, payload := p ++ rest } (some 5) := by
  induction rest generalizing p g with
  | nil => exact absurd rfl some_left
  | cons v rest ih =>
    rw [List.foldl_cons, arrive_payload h]
    rw [List.length_cons] at all
    cases rest with
    | nil =>
      rw [if_pos (c := n.toNat ≤ p.length + 1) (Nat.le_of_eq all.symm)]
      rfl
    | cons w rest =>
      rw [if_neg (by simp at all; omega), ih nofun (by simp at all ⊢; omega), List.append_assoc]
      rfl

theorem arrive_check (h : s.Resting) {address n : Byte} : arrive
    (s.assembling { state := .check, address := some address, length := some n, payload := p } g) v =
      judgeFrame v (s.assembling { state := .check, address := some address, length := some n, payload := p } none) :=
  arrive_assembling h

/-- The bytes of a frame up to its check byte, which is judged. -/
theorem arrive_frame (h : s.Resting) (hunting : s.bus.assembly = {}) (low : 1 ≤ p.length) (high : p.length ≤ 60)
    {address check : Byte} : (leadByte :: address :: byteOf p.length :: (p ++ [check])).foldl arrive s =
      judgeFrame check (s.assembling
        { state := .check, address := some address, length := some (byteOf p.length), payload := p } none) := by
  have start : s = s.assembling {} s.bus.gap := by
    rw [← hunting]
    rfl
  have size : (byteOf p.length).toNat = p.length := Nat.mod_eq_of_lt (by omega)
  have payload : p ≠ [] := List.ne_nil_of_length_pos low
  calc (leadByte :: address :: byteOf p.length :: (p ++ [check])).foldl arrive s
      = arrive (p.foldl arrive (arrive (arrive (arrive (s.assembling {} s.bus.gap) leadByte) address) (byteOf p.length)))
          check := by
        rw [← start]
        simp only [List.foldl_cons, List.foldl_append, List.foldl_nil]
    _ = _ := by
        rw [arrive_lead h, arrive_address h, arrive_length h (by omega) (by omega),
          arrive_rest h payload (by rw [size]; exact Nat.zero_add _), arrive_check h]
        rfl

/-- A complete frame in assembly is a request of the unit, a broadcast, or none of its concern. -/
theorem judge_frame {address check : Byte} : judgeFrame check (s.assembling
      { state := .check, address := some address, length := some (byteOf p.length), payload := p } none) =
    if check = checkByte address p then
      if address = byteOf s.bus.address.val then takePayload .unit p (s.assembling
        { state := .check, address := some address, length := some (byteOf p.length), payload := p } none)
      else if address = broadcastAddress then takePayload .broadcast p (s.assembling
        { state := .check, address := some address, length := some (byteOf p.length), payload := p } none)
      else s.assembling {} none
    else s.assembling {} none := by
  by_cases good : check = checkByte address p
  · rw [if_pos good]
    exact if_pos ((sum_eq_iff address check p).mpr good)
  · rw [if_neg good]
    exact if_neg fun total => good ((sum_eq_iff address check p).mp total)

/-- A request does not see the frame by which it came. -/
theorem takePayload_assembling {d : Addressee} (receives : s.receives = true) :
    takePayload d p (s.assembling a g) = takePayload d p s := by
  have cancelled : cancelReply (s.assembling a g) = cancelReply s := rfl
  have receives' : (s.assembling a g).receives = true := receives
  have restart : takeRestartFull (s.assembling a g) = takeRestartFull s := by
    rw [takeRestartFull, if_pos receives', takeRestartFull, if_pos receives, cancelled]
  have asks : payloadRequest (s.assembling a g) p = payloadRequest s p := rfl
  have framed {allowed : Bool} {q : Request} :
      takeFrame d allowed q (s.assembling a g) = takeFrame d allowed q s := by
    rw [takeFrame, if_pos receives', takeFrame, if_pos receives, cancelled]
  rw [takePayload, takePayload, restart, asks, framed]

theorem State.Resting.ofListening (h : s.listening) : s.Resting ∧ s.bus.assembly = {} := by
  obtain ⟨receives, hunting, reception, high, counted⟩ := h
  exact ⟨⟨receives, reception, high, counted⟩, hunting⟩

/-! ## A byte within a frame (R164) -/

/-- A byte whose start bit was heard acts on the assembly after its stop bit. -/
theorem byteRest_taken {parity stop : Bool} (receives : s.receives = true) (taken : s.bus.reception = .taken) :
    byteRest v parity stop s = takeByte v (byteError v parity stop) (lineAfterByte v parity stop s) := by
  have heard : ¬s.bus.reception = .none := by
    rw [taken]
    nofun
  have acts : (decide (s.bus.reception = .taken) && s.receives) = true := by
    rw [taken, receives]
    rfl
  rw [byteRest, if_neg heard, acts]
  rfl

theorem lineAfterByte_bus {parity stop : Bool} : (lineAfterByte v parity stop s).bus.reception = .none ∧
    ((lineAfterByte v parity stop s).bus.lowTimer = none ↔ stop = true) := by
  refine ⟨by rw [lineAfterByte_frame], ?_⟩
  cases stop with
  | true => exact ⟨fun _ => rfl, fun _ => rfl⟩
  | false => exact ⟨fun high => absurd high (lineAfterByte_low v parity s).2, nofun⟩

theorem byteRest_error {parity stop : Bool} (receives : s.receives = true) (taken : s.bus.reception = .taken)
    (assembling : s.bus.assembly.state ≠ .hunting) (bad : parity ≠ parityBit v ∨ stop = false) :
    byteRest v parity stop s = discardFrame (lineAfterByte v parity stop s) := by
  have error : byteError v parity stop = true := by
    rw [byteError]
    rcases bad with parity | stop
    · simp [parity]
    · simp [stop]
  have state : ¬(lineAfterByte v parity stop s).bus.assembly.state = .hunting := by
    rw [lineAfterByte_frame]
    exact assembling
  rw [byteRest_taken receives taken, takeByte, error, if_neg state]
  rfl

theorem byteRest_good (receives : s.receives = true) (taken : s.bus.reception = .taken) :
    byteRest v (parityBit v) true s = goodByte v (lineAfterByte v (parityBit v) true s) := by
  rw [byteRest_taken receives taken, takeByte, byteError_sent]
  rfl

theorem goodByte_payload (payload : s.bus.assembly.state = .payload)
    (left : s.bus.assembly.payload.length + 1 < (s.bus.assembly.length.getD 0).toNat) :
    goodByte v s = assemble { s.bus.assembly with payload := s.bus.assembly.payload ++ [v] } s := by
  have more : ¬(s.bus.assembly.length.getD 0).toNat ≤ (s.bus.assembly.payload ++ [v]).length := by
    rw [List.length_append, List.length_singleton]
    omega
  unfold goodByte
  dsimp only
  rw [payload]
  dsimp only
  rw [if_neg more]

theorem goodByte_length (length : s.bus.assembly.state = .length) : goodByte v s =
    if 1 ≤ v.toNat ∧ v.toNat ≤ 60 then assemble { s.bus.assembly with state := .payload, length := some v } s
    else discardFrame s := by
  unfold goodByte
  dsimp only
  rw [length]

end

/-- Settles O48: byte by byte the frame comes into assembly, and its check byte brings the request. -/
theorem frameBytesAreTheirRequest : Obligations.FrameBytesAreTheirRequest := by
  refine ⟨?_, ?_, fun s v part => ⟨_, rfl, event_sameBut _ s⟩⟩
  · intro v parity stop data
    refine ⟨rfl, ?_, byteError_iff v parity stop⟩
    exact (count_data_parity v (parityBit v)).trans (if_pos rfl)
  · intro s p h low high
    obtain ⟨rests, hunting⟩ := State.Resting.ofListening h
    intro arrives
    have unit : ¬(0x0F : Byte) = byteOf s.bus.address.val := by
      intro same
      have small := s.bus.address.isLt
      have value := congrArg BitVec.toNat same
      rw [byteOf, BitVec.toNat_ofNat, Nat.mod_eq_of_lt (by omega)] at value
      simp at value
      omega
    refine ⟨?_, ?_⟩
    · refine (arrive_frame rests hunting low high).trans ?_
      rw [judge_frame, if_pos rfl]
      exact (if_pos rfl).trans (takePayload_assembling rests.receives)
    · refine (arrive_frame rests hunting low high).trans ?_
      rw [judge_frame, if_pos rfl, if_neg unit]
      exact (if_pos rfl).trans (takePayload_assembling rests.receives)

/-- Settles O49: an assembly that is judged otherwise is discarded. -/
theorem otherFramesAreDropped : Obligations.OtherFramesAreDropped := by
  refine ⟨?_, ?_, ?_⟩
  · intro s address check p h low high other arrives
    obtain ⟨rests, hunting⟩ := State.Resting.ofListening h
    have dropped : s.assembling {} none = { s with bus := { s.bus with gap := none } } := by
      rw [← hunting]
      rfl
    refine (arrive_frame rests hunting low high).trans ?_
    rw [judge_frame, ← dropped]
    split
    · next good =>
      obtain ⟨unit, broadcast⟩ := other.resolve_right fun bad => bad good
      exact (if_neg unit).trans (if_neg broadcast)
    · rfl
  · intro s receives
    obtain ⟨ready, running, silent⟩ := (receives_iff s).mp receives
    refine ⟨fun v parity stop taken assembling bad => ⟨_, rfl, ?_⟩, fun v taken payload left => ⟨_, rfl, ?_⟩,
      fun v taken length => ⟨_, rfl, ?_⟩, fun high idle v => ⟨_, rfl, ?_⟩⟩
    · have discarded : bytePart v (.rest parity stop) s = _ := byteRest_error receives taken assembling bad
      obtain ⟨frame, -, pending, -⟩ := lineAfterByte_unassembled (s := s) (v := v) (parity := parity) (stop := stop)
      obtain ⟨reception, low⟩ := lineAfterByte_bus (s := s) (v := v) (parity := parity) (stop := stop)
      have dropped : SameBut [.bus] s (bytePart v (.rest parity stop) s) :=
        discarded ▸ SameBut.then frame setBus_sameBut (by decide)
      refine ⟨SameBut.event (.mono (by decide) dropped) (by decide), ?_⟩
      rw [event_bus, discarded]
      exact ⟨rfl, rfl, reception, pending, low⟩
    · obtain ⟨frame, assembly, -⟩ := lineAfterByte_unassembled (s := s) (v := v) (parity := parityBit v) (stop := true)
      have took : bytePart v (.rest (parityBit v) true) s = _ := byteRest_good receives taken
      rw [← assembly] at payload left
      rw [goodByte_payload payload left, assembly] at took
      have changed : SameBut [.bus] s (bytePart v (.rest (parityBit v) true) s) :=
        took ▸ SameBut.then frame setBus_sameBut (by decide)
      refine ⟨SameBut.event (.mono (by decide) changed) (by decide), ?_⟩
      rw [event_bus, took]
      exact ⟨rfl, rfl⟩
    · obtain ⟨frame, assembly, pending, -⟩ :=
        lineAfterByte_unassembled (s := s) (v := v) (parity := parityBit v) (stop := true)
      obtain ⟨reception, -⟩ := lineAfterByte_bus (s := s) (v := v) (parity := parityBit v) (stop := true)
      have took : bytePart v (.rest (parityBit v) true) s = _ := byteRest_good receives taken
      rw [← assembly] at length
      rw [goodByte_length length, assembly] at took
      by_cases size : 1 ≤ v.toNat ∧ v.toNat ≤ 60
      · rw [if_pos size] at took
        have changed : SameBut [.bus] s (bytePart v (.rest (parityBit v) true) s) :=
          took ▸ SameBut.then frame setBus_sameBut (by decide)
        refine ⟨SameBut.event (.mono (by decide) changed) (by decide), ?_⟩
        rw [event_bus, took]
        exact ⟨reception, rfl, pending, fun _ _ => ⟨rfl, rfl⟩, fun out => absurd size (by omega)⟩
      · rw [if_neg size] at took
        have changed : SameBut [.bus] s (bytePart v (.rest (parityBit v) true) s) :=
          took ▸ SameBut.then frame setBus_sameBut (by decide)
        refine ⟨SameBut.event (.mono (by decide) changed) (by decide), ?_⟩
        rw [event_bus, took]
        exact ⟨reception, rfl, pending, fun low high => absurd ⟨low, high⟩ size, fun _ => ⟨rfl, rfl⟩⟩
    · have started : byteStart s = s.setBus { s.bus with
          lowTimer := some 0, readyTimer := none, gap := none, reception := .taken } := by
        rw [byteStart, if_pos ⟨high, idle, running⟩, receives]
        rfl
      refine ⟨SameBut.event (.mono (by decide) (started ▸ setBus_sameBut : SameBut [.bus] s (byteStart s))) (by decide), ?_⟩
      rw [event_bus, bytePart, started]
      rfl
  · intro s runs
    have expired : gapExpiry s = discardFrame s := if_pos (Option.isSome_iff_ne_none.mpr runs)
    exact ⟨_, rfl, expired ▸ setBus_sameBut, expired ▸ rfl⟩

end Sys2Proof.Machine
end

section
/-! Chapter 1: the treatment of a sample by the call state of its line. -/

namespace Sys2Proof.Machine

/-- The scanner has visited the line. -/
def State.visited (s : State) (l : Line) : State := s.setScanner { s.scanner with position := l + 1 }

/-- A sample of a line under test has moved its filter. -/
def State.testSampled (s : State) (l : Line) (current : Int) : State :=
  (s.visited l).setSup l (s.sup[l].sampleTesting (s.profileOf l) s.feed[l] (convertSense current))

/-- A sample with full supervision has moved the filter and the counts. -/
def State.supervised (s : State) (l : Line) (current : Int) (trip : Bool) : State :=
  (s.visited l).setSup l (s.sup[l].sample (s.profileOf l) s.feed[l] (convertSense current) trip)

/-- A decision of a sample is taken. -/
def carryOut (l : Line) (d : Decision) (s : State) : State :=
  match d with
  | .none => s
  | .hook => hookDecision l s
  | .fault k => faultDecision l k s
  | .ringTrip => ringTripDecision l s

section
variable {s t v : State} {l : Line} {current : Int} {trip : Bool} {d : Decision} {f g : State → State}

/-- The end of an event asks what was before it only about Quiet operation. -/
theorem event_of_same (same : f s = g v) (quiet : v.monitor.quiet = s.monitor.quiet)
    (condition : v.quietCondition = s.quietCondition) : event f s = event g v := by
  unfold event runQuiet
  rw [same, quiet, condition]

theorem visit_of (running : s.inRestart = false) :
    visit l current trip s = lineSample l (convertSense current) trip (s.visited l) := by
  rw [visit, if_neg (by rw [running]; nofun)]
  rfl

theorem visit_disabled (running : s.inRestart = false) (disabled : s.call[l].state = .disabled) :
    visit l current trip s = s.visited l := by
  have state : (s.visited l).call[l].state = .disabled := disabled
  rw [visit_of running]
  unfold lineSample
  dsimp only
  rw [state]

theorem visit_testing (running : s.inRestart = false) (testing : s.call[l].state = .testing) :
    visit l current trip s = lookSample l (convertSense current) (s.testSampled l current) := by
  have state : (s.visited l).call[l].state = .testing := testing
  rw [visit_of running]
  unfold lineSample
  dsimp only
  rw [state]
  rfl

/-- A sample of a line that is neither Disabled nor under test: its decision is taken, and then its tick. -/
theorem visit_supervised (running : s.inRestart = false) (enabled : s.call[l].state ≠ .disabled)
    (untested : s.call[l].state ≠ .testing)
    (decision : (s.sup[l].sample (s.profileOf l) s.feed[l] (convertSense current) trip).decision
      (s.profileOf l).m.toNat = d) : visit l current trip s =
    if s.call[l].state.timed && (carryOut l d (s.supervised l current trip)).call[l].state.timed then
      sampleTick l (carryOut l d (s.supervised l current trip))
    else carryOut l d (s.supervised l current trip) := by
  subst decision
  rw [visit_of running]
  unfold lineSample
  dsimp only
  split
  · next disabled => exact absurd disabled enabled
  · next testing => exact absurd testing untested
  · rfl

/-! ## Samples that bring no decision -/

/-- Where all counts are 0 a sample brings no decision. -/
theorem decision_none {x : Supervision} {m : Nat} (hook : x.hookCount = 0) (overs : x.overCount = 0)
    (foreign : x.foreignCount = 0) (ring : x.ringTripCount = 0) : x.decision m = .none := by
  rw [Supervision.decision, hook, overs, foreign, ring]
  rfl

theorem sample_unformed {x : Supervision} {p : Profile} {feed : Feed} {v : Int}
    (unformed : feed.current.sigma = none ∨ feed.blanking ≠ .none) :
    x.sample p feed v trip = ({ x with f := filterUpdate p.k.toNat x.f v } : Supervision).noCounts.ringTrip feed trip := by
  unfold Supervision.sample
  dsimp only
  split
  · rfl
  · next formed =>
    rw [if_neg (unformed.resolve_left fun none => nomatch formed.symm.trans none)]

theorem ringTrip_unrung {x : Supervision} {feed : Feed} (unrung : feed.current ≠ .ring) :
    x.ringTrip feed trip = { x with ringTripCount := 0, ringTripTaken := false } := by
  unfold Supervision.ringTrip
  rw [decide_eq_false unrung, Bool.and_false, Bool.and_false, Bool.false_and]
  rfl

/-- The tick of a sample that brings no decision. -/
theorem visit_ticks (running : s.inRestart = false) (timed : s.call[l].state.timed = true)
    (decision : (s.sup[l].sample (s.profileOf l) s.feed[l] (convertSense current) trip).decision
      (s.profileOf l).m.toNat = .none) :
    visit l current trip s = sampleTick l (s.supervised l current trip) := by
  have enabled : s.call[l].state ≠ .disabled := fun state => nomatch (congrArg CallState.timed state).symm.trans timed
  have untested : s.call[l].state ≠ .testing := fun state => nomatch (congrArg CallState.timed state).symm.trans timed
  have still : (s.supervised l current trip).call[l].state.timed = true := timed
  rw [visit_supervised running enabled untested decision, carryOut, timed, still]
  rfl

theorem supervised_sup : (s.supervised l current trip).sup =
    s.sup.set l (s.sup[l].sample (s.profileOf l) s.feed[l] (convertSense current) trip) := rfl

theorem supervised_sameBut : SameBut [.scanner, .sup] s (s.supervised l current trip) :=
  SameBut.then (.mono (by decide) (setScanner_sameBut (s := s))) setSup_sameBut (by decide)

/-! ## The tick of a sample (R15, R27, R34) -/

/-- The break count has taken the tick of a sample. -/
def State.breakTicked (s : State) (l : Line) : State :=
  s.setBrk l { s.brk[l] with breakCount := s.brk[l].breakCount.map (· + 1) }

/-- The make count has taken the tick of a sample. -/
def State.makeTicked (s : State) (l : Line) : State :=
  s.setBrk l { s.brk[l] with makeCount := s.brk[l].makeCount.map (· + 1) }

theorem sampleTick_onHook (onHook : s.sup[l].hook = .onHook) : sampleTick l s =
    match s.brk[l].breakCount.map (· + 1) with
    | some b => if 401 ≤ b then clearDecision l (s.breakTicked l) else s.breakTicked l
    | none => s.breakTicked l := by
  unfold sampleTick
  dsimp only
  have later : (s.setBrk l (s.brk[l].tick .onHook)).sup[l].hook = .onHook := onHook
  rw [onHook, later]
  rfl

theorem sampleTick_offHook (offHook : s.sup[l].hook = .offHook) : sampleTick l s =
    match s.brk[l].makeCount.map (· + 1) with
    | some m => if 150 ≤ m then digitEnd l (s.makeTicked l) else s.makeTicked l
    | none => s.makeTicked l := by
  unfold sampleTick
  dsimp only
  have later : (s.setBrk l (s.brk[l].tick .offHook)).sup[l].hook = .offHook := offHook
  rw [offHook, later]
  rfl

theorem sampleTick_breaks (onHook : s.sup[l].hook = .onHook)
    (short : ∀ n, s.brk[l].breakCount = some n → n + 1 < 401) : sampleTick l s = s.breakTicked l := by
  rw [sampleTick_onHook onHook]
  cases count : s.brk[l].breakCount with
  | none => rfl
  | some n => exact if_neg (Nat.not_le.mpr (short n count))

theorem sampleTick_clears {n : Nat} (onHook : s.sup[l].hook = .onHook) (count : s.brk[l].breakCount = some n)
    (long : 401 ≤ n + 1) : sampleTick l s = clearDecision l (s.breakTicked l) := by
  rw [sampleTick_onHook onHook, count]
  exact if_pos long

theorem sampleTick_makes (offHook : s.sup[l].hook = .offHook)
    (short : ∀ n, s.brk[l].makeCount = some n → n + 1 < 150) : sampleTick l s = s.makeTicked l := by
  rw [sampleTick_offHook offHook]
  cases count : s.brk[l].makeCount with
  | none => rfl
  | some n => exact if_neg (Nat.not_le.mpr (short n count))

theorem sampleTick_digit {n : Nat} (offHook : s.sup[l].hook = .offHook) (count : s.brk[l].makeCount = some n)
    (long : 150 ≤ n + 1) : sampleTick l s = digitEnd l (s.makeTicked l) := by
  rw [sampleTick_offHook offHook, count]
  exact if_pos long

/-! ## Samples of a line under test (R140) -/

theorem lookSample_counts {x : Session} {c : Int} (session : s.test.session = some x)
    (looks : x.line = l ∧ x.phase = .look ∧ x.timer.isSome) : lookSample l c s =
    if 2 ≤ (if ((s.profileOf l).tOn.toNat : Int) ≤ c then x.lookCount + 1 else 0) then yieldSession x s
    else s.setSession (some { x with
      lookCount := if ((s.profileOf l).tOn.toNat : Int) ≤ c then x.lookCount + 1 else 0 }) := by
  unfold lookSample
  rw [session]
  exact if_pos looks

theorem lookSample_idle {c : Int}
    (idle : ∀ x, s.test.session = some x → x.line = l → x.phase = .look → x.timer = none) : lookSample l c s = s := by
  unfold lookSample
  split
  · rfl
  · next x session =>
    refine if_neg fun ⟨line, look, timed⟩ => ?_
    rw [idle x session line look] at timed
    exact nomatch timed

theorem lookOffHook_yields {x : Session} (session : s.test.session = some x) (look : x.phase = .look)
    (timed : x.timer.isSome) : lookOffHook s = yieldSession x s := by
  unfold lookOffHook
  rw [session]
  exact if_pos ⟨look, timed⟩

end

/-- Settles O11: by the call state of the line, and for a line under test by the look's count. -/
theorem discardedAndBlankedSamples : Obligations.DiscardedAndBlankedSamples := by
  intro s l current trip running
  refine ⟨fun disabled => ?_, fun state blanked unrung short shortMake => ?_, ?_⟩
  · have visit := visit_disabled (current := current) (trip := trip) running disabled
    have scanned : SameBut [.scanner] s (s.visited l) := setScanner_sameBut
    have after : SameBut [.quietRun] (s.visited l) _ := sameBut_event_of visit
    exact ⟨_, rfl, SameBut.then (.mono (by decide) scanned) after (by decide), after .scanner (by decide)⟩
  · have unformed := sample_unformed (trip := trip) (x := s.sup[l]) (p := s.profileOf l) (v := convertSense current)
      (Or.inr blanked : s.feed[l].current.sigma = none ∨ _)
    rw [ringTrip_unrung unrung] at unformed
    have timed : s.call[l].state.timed = true := by
      rcases state with state | state | state <;> rw [state] <;> rfl
    have ticks := visit_ticks (current := current) (trip := trip) running timed (by
      rw [unformed]
      exact decision_none rfl rfl rfl rfl)
    have record : (s.supervised l current trip).sup[l] =
        { s.sup[l] with
          f := filterUpdate (s.profileOf l).k.toNat s.sup[l].f (convertSense current)
          hookCount := 0, overCount := 0, foreignCount := 0, ringTripCount := 0, ringTripTaken := false } := by
      rw [supervised_sup, set_get, if_pos rfl, unformed]
      rfl
    have ticked : ∃ x, visit l current trip s = (s.supervised l current trip).setBrk l x ∧ x.pulses = s.brk[l].pulses ∧
        x.inDigit = s.brk[l].inDigit ∧
        (s.sup[l].hook = .onHook → x.breakCount = s.brk[l].breakCount.map (· + 1) ∧ x.makeCount = s.brk[l].makeCount) ∧
        (s.sup[l].hook = .offHook → x.makeCount = s.brk[l].makeCount.map (· + 1) ∧
          x.breakCount = s.brk[l].breakCount) := by
      have hook : (s.supervised l current trip).sup[l].hook = s.sup[l].hook := by rw [record]
      cases now : s.sup[l].hook with
      | onHook =>
        rw [ticks, sampleTick_breaks (hook.trans now) fun n count => by have := short n count; omega]
        exact ⟨_, rfl, rfl, rfl, fun _ => ⟨rfl, rfl⟩, nofun⟩
      | offHook =>
        rw [ticks, sampleTick_makes (hook.trans now) fun n count => by have := shortMake n count; omega]
        exact ⟨_, rfl, rfl, rfl, nofun, fun _ => ⟨rfl, rfl⟩⟩
    obtain ⟨x, visited, pulses, inDigit, counts⟩ := ticked
    have frame : SameBut [.scanner, .sup, .brk] s ((s.supervised l current trip).setBrk l x) :=
      SameBut.then (.mono (by decide) supervised_sameBut) setBrk_sameBut (by decide)
    have after : SameBut [.quietRun] ((s.supervised l current trip).setBrk l x) _ := sameBut_event_of visited
    have brk : (event (visit l current trip) s).brk[l] = x := by
      rw [event_brk, visited]
      exact (set_get ..).trans (if_pos rfl)
    have sup : (event (visit l current trip) s).sup[l] = _ :=
      (congrArg (fun x : Vector Supervision 32 => x[l]) (after .sup (by decide))).trans record
    refine ⟨_, rfl, SameBut.then (.mono (by decide) frame) after (by decide), ?_, ?_⟩
    · have others : OtherLines l s ((s.supervised l current trip).setBrk l x) := fun m ne =>
        ⟨rfl, (set_get ..).trans (if_neg ne), (set_get ..).trans (if_neg ne), rfl, rfl⟩
      exact others.trans (.ofSameBut after (by decide))
    · rw [sup, brk]
      exact ⟨rfl, rfl, rfl, rfl, rfl, rfl, pulses, inDigit, counts⟩
  · intro testing S p v counted
    have visit := visit_testing (current := current) (trip := trip) running testing
    have moved : s.testSampled l current = v := rfl
    rw [moved] at visit
    refine ⟨fun x session line look timer => ?_, fun idle => ?_⟩
    · have timed : x.timer.isSome := Option.isSome_iff_ne_none.mpr timer
      have counts := lookSample_counts (c := convertSense current) (s := v) session ⟨line, look, timed⟩
      have profile : v.profileOf l = p := rfl
      rw [profile] at counts
      refine ⟨fun below => ⟨_, rfl, ?_⟩, fun above first => ⟨_, rfl, ?_⟩, fun above again => ?_⟩
      · have low : ¬(p.tOn.toNat : Int) ≤ convertSense current := not_le.mpr below
        rw [if_neg low, if_neg (by omega)] at counts
        exact sameBut_event_of (visit.trans counts)
      · have high : (p.tOn.toNat : Int) ≤ convertSense current := above
        rw [if_pos high, first, if_neg (by omega)] at counts
        exact sameBut_event_of (visit.trans counts)
      · have high : (p.tOn.toNat : Int) ≤ convertSense current := above
        rw [if_pos high, if_pos (by omega)] at counts
        have yields := lookOffHook_yields (s := v) session look timed
        have condition : v.quietCondition = s.quietCondition := rfl
        have ran : event (Machine.visit l current trip) s = event lookOffHook v :=
          event_of_same (visit.trans (counts.trans yields.symm)) rfl condition
        exact congrArg Host.Outcome.next ran
    · exact ⟨_, rfl, sameBut_event_of (visit.trans (lookSample_idle idle))⟩

end Sys2Proof.Machine
end

section
/-! Chapter 1: the counts, the one decision and the tick of a sample with full supervision. -/

namespace Sys2Proof.Machine

/-! ## Counts -/

section
variable {x : Supervision} {p : Profile} {feed : Feed} {trip : Bool} {e : Int} {c m n : Nat} {h : Hook}

/-- With ordered thresholds the hook count advances exactly on an indication that opposes the hook state. -/
theorem nextHookCount_eq (order : p.tOff.toNat < p.tOn.toNat) : nextHookCount h (hookIndication p e) c =
    if h = .onHook ∧ 16 * (p.tOn.toNat : Int) ≤ e ∨ h = .offHook ∧ e ≤ 16 * (p.tOff.toNat : Int) then c + 1 else 0 := by
  unfold hookIndication
  by_cases high : 16 * (p.tOn.toNat : Int) ≤ e
  · have above : ¬e ≤ 16 * (p.tOff.toNat : Int) := by omega
    rw [if_pos high, if_neg above]
    cases h <;> simp [nextHookCount, high, above]
  · rw [if_neg high]
    by_cases low : e ≤ 16 * (p.tOff.toNat : Int)
    · rw [if_pos low]
      cases h <;> simp [nextHookCount, high, low]
    · rw [if_neg low]
      cases h <;> simp [nextHookCount, high, low]

theorem sigma_formed (closed : feed.current ≠ .openLoop) (unrung : feed.current ≠ .ring) :
    feed.current.sigma = some (if feed.current = .reverse then -1 else 1) := by
  revert closed unrung
  cases feed.current <;> decide

theorem sigma_unformed (unformed : ¬(feed.current ≠ .openLoop ∧ feed.current ≠ .ring)) :
    feed.current.sigma = none := by
  revert unformed
  cases feed.current <;> decide

/-- The ring-trip count advances on an Asserted reading in settled Ring with the taken mark Clear. -/
theorem ringTrip_eq : x.ringTrip feed trip = { x with
    ringTripCount :=
      if feed.current = .ring ∧ feed.settling = false ∧ x.ringTripTaken = false ∧ trip = true then x.ringTripCount + 1
      else 0
    ringTripTaken := x.ringTripTaken && decide (feed.current = .ring) } := by
  unfold Supervision.ringTrip
  by_cases ring : feed.current = .ring
  · cases feed.settling <;> cases x.ringTripTaken <;> cases trip <;> simp [ring]
  · simp [ring]

/-- The counts of a sample. -/
theorem sample_eq {v F E : Int} (order : p.tOff.toNat < p.tOn.toNat) (filtered : filterUpdate p.k.toNat x.f v = F)
    (expected : (if feed.current = .reverse then -1 else 1) * F = E) {formed opposed : Bool}
    (forms : decide (feed.blanking = .none ∧ feed.current ≠ .openLoop ∧ feed.current ≠ .ring) = formed)
    (opposes : decide (x.hook = .onHook ∧ 16 * (p.tOn.toNat : Int) ≤ E ∨
      x.hook = .offHook ∧ E ≤ 16 * (p.tOff.toNat : Int)) = opposed) : x.sample p feed v trip =
    { f := F, hook := x.hook
      hookCount := if formed = true ∧ opposed = true then x.hookCount + 1 else 0
      overCount := if formed = true ∧ 16 * p.tOver.toNat ≤ F.natAbs then x.overCount + 1 else 0
      foreignCount := if formed = true ∧ E ≤ -(16 * (p.tOn.toNat : Int)) then x.foreignCount + 1 else 0
      ringTripCount :=
        if feed.current = .ring ∧ feed.settling = false ∧ x.ringTripTaken = false ∧ trip = true then x.ringTripCount + 1
        else 0
      ringTripTaken := x.ringTripTaken && decide (feed.current = .ring) } := by
  subst filtered expected forms opposes
  by_cases forms : feed.blanking = .none ∧ feed.current ≠ .openLoop ∧ feed.current ≠ .ring
  · obtain ⟨clear, closed, unrung⟩ := forms
    unfold Supervision.sample
    dsimp only
    rw [sigma_formed closed unrung]
    dsimp only
    rw [if_pos clear, ringTrip_eq]
    unfold Supervision.count
    dsimp only
    rw [nextHookCount_eq order]
    simp [clear, closed, unrung, overcurrentIndication, foreignIndication]
  · have unformed : feed.current.sigma = none ∨ feed.blanking ≠ .none := by
      by_cases clear : feed.blanking = .none
      · exact .inl (sigma_unformed fun both => forms ⟨clear, both⟩)
      · exact .inr clear
    rw [sample_unformed unformed, ringTrip_eq, decide_eq_false forms]
    simp only [Supervision.noCounts, Bool.false_eq_true, false_and, if_false]
    rfl

theorem reaches_eq (debounced : 1 ≤ m) : reaches n m = decide (m ≤ n) := by
  unfold reaches
  by_cases h : m ≤ n
  · simp [h]
    omega
  · simp [h]

/-- The one decision of a sample, with a debounce count of at least 1. -/
theorem decision_eq (debounced : 1 ≤ m) : x.decision m =
    if m ≤ x.overCount then .fault .overcurrent
    else if m ≤ x.foreignCount then .fault .foreignBattery
    else if m ≤ x.hookCount then .hook
    else if 2 ≤ x.ringTripCount then .ringTrip
    else .none := by
  simp only [Supervision.decision, reaches_eq debounced, decide_eq_true_eq]

end

/-! ## What a decision leaves for the tick -/

section
variable {s t v : State} {l : Line} {x : Vector Supervision 32} {m : Monitor} {k : FaultKind} {b : Bearer} {h : Hook}

/-- A line at rest has no count that a tick could advance. -/
theorem sampleTick_rests (rest : s.rests l) : sampleTick l s = s := by
  rw [State.rests] at rest
  have back : s.setBrk l s.brk[l] = s := by
    have same : s.brk.set l s.brk[l] = s.brk := Vector.set_getElem_self l.isLt
    rw [State.setBrk, same]
  have breaks : { s.brk[l] with breakCount := s.brk[l].breakCount.map (· + 1) } = s.brk[l] := by
    rw [rest]
    rfl
  have makes : { s.brk[l] with makeCount := s.brk[l].makeCount.map (· + 1) } = s.brk[l] := by
    rw [rest]
    rfl
  cases hook : s.sup[l].hook with
  | onHook =>
    rw [sampleTick_breaks hook (by rw [rest]; nofun), State.breakTicked, breaks, back]
  | offHook =>
    rw [sampleTick_makes hook (by rw [rest]; nofun), State.makeTicked, makes, back]

theorem enter_untimed_rests {n : CallRecord} (untimed : n.state.timed = false) : (enter l n s).rests l := by
  have brk : (enter l n s).brk = if s.call[l].state.timed && n.state.timed then s.brk else s.brk.set l {} := by
    rw [enter_frame]
  rw [State.rests, brk, untimed, Bool.and_false]
  exact (set_get ..).trans (if_pos rfl)

theorem faultEntry_rests : (faultEntry l k s).rests l := by
  have entered {w : State} : (enter l (faultedRecord k) w).rests l := enter_untimed_rests (by cases k <;> rfl)
  exact entered

/-- A fault takes a timed line out of its timing, and nothing that follows puts it back. -/
theorem faultDecision_rests (timed : s.call[l].state.timed = true) : (faultDecision l k s).rests l := by
  have supervised : s.call[l].state.supervised = true := by
    revert timed
    cases s.call[l].state <;> decide
  have call : (protect l (endQuiet (resetCounts l s))).call = s.call :=
    SameBut.then (SameBut.then (SameBut.mono (by decide : _ ⊆ [.sup, .quietRun, .feed]) resetCounts_sameBut)
      endQuiet_sameBut (by decide)) protect_sameBut (by decide) .call (by decide)
  rw [faultDecision, if_pos supervised]
  generalize protect l (endQuiet (resetCounts l s)) = w at call
  have now : w.call[l].state.timed = true := by
    rw [call]
    exact timed
  unfold callFault
  dsimp only
  split
  · next disabled => exact nomatch (congrArg CallState.timed disabled).symm.trans now
  · next testing => exact nomatch (congrArg CallState.timed testing).symm.trans now
  · next faulted => exact nomatch (congrArg CallState.timed faulted).symm.trans now
  · unfold reconsiderIf
    split
    · exact reconsider_rests faultEntry_rests
    · exact faultEntry_rests

theorem clearBearer_beside : clearBearer b (s.beside x m) = (clearBearer b s).beside x m := by
  rw [clearBearer_frame, clearBearer_frame]
  rfl

theorem callClear_untimed (untimed : s.call[l].state.timed = false) : callClear l s = s := by
  unfold callClear
  dsimp only
  split
  · next _ waiting => exact nomatch (congrArg CallState.timed waiting).symm.trans untimed
  · next _ seizing _ => exact nomatch (congrArg CallState.timed seizing).symm.trans untimed
  · next _ connected _ => exact nomatch (congrArg CallState.timed connected).symm.trans untimed
  · rfl

theorem callClear_unnamed (waits : s.call[l].state ≠ .waiting) (none : s.call[l].bearer = none) : callClear l s = s := by
  unfold callClear
  dsimp only
  split
  · next _ waiting => exact absurd waiting waits
  · next _ _ names => exact nomatch none.symm.trans names
  · next _ _ names => exact nomatch none.symm.trans names
  · rfl

theorem lineReport_beside {y : ReportKind} {n : Option Bearer} {i : Option Nat} :
    (s.beside x m).lineReport y l n i = (s.lineReport y l n i).beside x m := rfl

/-- A clear (R82, R83, R86) reads no count and no monitor. -/
theorem callClear_beside (alike : s.alike x m) : callClear l (s.beside x m) = (callClear l s).beside x m := by
  by_cases waiting : s.call[l].state = .waiting
  · rw [callClear_waiting (s := s.beside x m) waiting, callClear_waiting waiting]
    exact goIdle_beside
  · cases names : s.call[l].bearer with
    | none => rw [callClear_unnamed (s := s.beside x m) waiting names, callClear_unnamed waiting names]
    | some b =>
      by_cases seizing : s.call[l].state = .seizing
      · by_cases handover : (s.bearer b).state = .handover
        · rw [callClear_handover (s := s.beside x m) seizing names handover,
            callClear_handover seizing names handover, clearBearer_beside]
          have frame : SameBut callParts s (goIdle l (releaseReport l b .preempted (clearBearer b s))) :=
            SameBut.then (SameBut.then (SameBut.mono (by decide) clearBearer_sameBut) releaseReport_sameBut (by decide))
              goIdle_sameBut (by decide)
          rw [releaseReport, releaseReport, lineReport_beside, goIdle_beside]
          rw [releaseReport] at frame
          generalize goIdle l ((clearBearer b s).lineReport .release l (some b) (some ReleaseCause.preempted.code)) = w at frame ⊢
          exact reconsider_beside (alike.ofSameBut frame (by decide))
        · rw [callClear_seizing (s := s.beside x m) seizing names handover, callClear_seizing seizing names handover,
            clearBearer_beside, lineReport_beside, goIdle_beside]
      · by_cases connected : s.call[l].state = .connected
        · rw [callClear_connected (s := s.beside x m) connected names, callClear_connected connected names,
            lineReport_beside, clearBearer_beside, goIdle_beside]
        · have untimed : s.call[l].state.timed = false := by
            revert waiting seizing connected
            cases s.call[l].state <;> simp [CallState.timed]
          rw [callClear_untimed (s := s.beside x m) untimed, callClear_untimed untimed]

theorem clearDecision_beside (alike : s.alike x m) :
    clearDecision l (s.beside x m) = (clearDecision l s).beside x m := by
  unfold clearDecision
  rw [callClear_beside alike]
  change (if s.call[l].state.timed && s.brk[l].breakCount.isSome then _ else _) = _
  split <;> rfl

theorem callDigit_beside {n : Nat} : callDigit l n (s.beside x m) = (callDigit l n s).beside x m := by
  have call : (s.beside x m).call[l] = s.call[l] := rfl
  unfold callDigit
  dsimp only
  rw [call]
  cases s.call[l].state with
  | waiting => dsimp only; split <;> rfl
  | seizing => dsimp only; split <;> rfl
  | _ => rfl

theorem digitEnd_beside : digitEnd l (s.beside x m) = (digitEnd l s).beside x m := by
  have brk : (s.beside x m).brk[l] = s.brk[l] := rfl
  have call : (s.beside x m).call[l] = s.call[l] := rfl
  have done : (s.beside x m).setBrk l s.brk[l].digitDone = (s.setBrk l s.brk[l].digitDone).beside x m := rfl
  unfold digitEnd
  dsimp only
  rw [brk, call, done]
  split
  · cases digitValue s.brk[l].pulses with
    | some n => exact callDigit_beside
    | none => rfl
  · rfl

/-! ## The tick after a decision -/

/-- The line has taken the tick of the sample in state `w`, and the event has left `t`. -/
def Ticked (l : Line) (w t : State) : Prop :=
  let b := w.brk[l]
  let ends (limit : Nat) (count : Option Nat) (c : Instr) (y : State) : Prop :=
    (∀ n, count = some n → limit ≤ n + 1 → ∃ z, exec c y = .next z ∧ SameBut [.quietRun] z t) ∧
      ((∀ n, count = some n → n + 1 < limit) → SameBut [.quietRun] y t)
  (w.sup[l].hook = .onHook → ends 401 b.breakCount (.clearDecision l)
    { w with brk := w.brk.set l { b with breakCount := b.breakCount.map (· + 1) } }) ∧
  (w.sup[l].hook = .offHook → ends 150 b.makeCount (.digitEnd l)
    { w with brk := w.brk.set l { b with makeCount := b.makeCount.map (· + 1) } })

/-- States that differ in Quiet operation alone differ in the Unit Monitor alone. -/
theorem eq_beside {v w : State} (same : SameBut [.quietRun] v w) : w = v.beside v.sup w.monitor := by
  have part (p : Part) (out : p ∉ [Part.quietRun]) : p.same v w := same p out
  have entries : w.entries = v.entries := part .entries (by decide)
  have tables : w.tables = v.tables := part .tables (by decide)
  have scanner : w.scanner = v.scanner := part .scanner (by decide)
  have sup : w.sup = v.sup := part .sup (by decide)
  have brk : w.brk = v.brk := part .brk (by decide)
  have feed : w.feed = v.feed := part .feed (by decide)
  have call : w.call = v.call := part .call (by decide)
  have bearers : w.bearers = v.bearers := part .bearers (by decide)
  have arbiter : w.arbiter = v.arbiter := part .arbiter (by decide)
  have ringer : w.ringer = v.ringer := part .ringer (by decide)
  have test : w.test = v.test := part .test (by decide)
  have supply : w.supply = v.supply := part .supply (by decide)
  have reports : w.reports = v.reports := part .reports (by decide)
  have bus : w.bus = v.bus := part .bus (by decide)
  have straps : w.strapPins = v.strapPins := part .strapPins (by decide)
  have clock : w.toneClock = v.toneClock := part .toneClock (by decide)
  have restart : w.inRestart = v.inRestart := part .inRestart (by decide)
  have pending : w.pending = v.pending := part .pending (by decide)
  rw [State.beside, ← entries, ← tables, ← scanner, ← sup, ← brk, ← feed, ← call, ← bearers, ← arbiter, ← ringer,
    ← test, ← supply, ← reports, ← bus, ← straps, ← clock, ← restart, ← pending]

theorem alike_of_sameBut {v w : State} (same : SameBut [.quietRun] v w) : v.alike v.sup w.monitor := by
  have watch : w.monitor.watch = v.monitor.watch := same .watch (by decide)
  have isolated : w.monitor.watch.isolated = v.monitor.watch.isolated := congrArg Monitor.isolated watch
  exact ⟨fun _ => rfl, isolated⟩

/-- Work that reads no monitor does the same in states that differ in Quiet operation alone. -/
theorem event_sameBut_quiet {f : State → State} {v w t : State} (same : SameBut [.quietRun] v w)
    (beside : ∀ x m, v.alike x m → f (v.beside x m) = (f v).beside x m) (sup : (f v).sup = v.sup)
    (watch : (f v).monitor.watch = v.monitor.watch) (after : SameBut [.quietRun] (f v) t) :
    SameBut [.quietRun] (event f w) t := by
  have moved : f w = (f v).beside v.sup w.monitor :=
    (congrArg f (eq_beside same)).trans (beside _ _ (alike_of_sameBut same))
  have watched : w.monitor.watch = v.monitor.watch := same .watch (by decide)
  have between : SameBut [.quietRun] (f v) (f w) := moved ▸ beside_sameBut sup.symm (watched.trans watch.symm)
  have there : SameBut [.quietRun] (f v) (event f w) := SameBut.then between (event_sameBut f w) (by decide)
  exact SameBut.then there.symm after (by decide)

theorem setBrk_sameBut_quiet {v w : State} (same : SameBut [.quietRun] v w) (y : BreakTiming) :
    SameBut [.quietRun] (v.setBrk l y) (w.setBrk l y) := by
  rw [eq_beside same]
  have watch : w.monitor.watch = v.monitor.watch := same .watch (by decide)
  exact beside_sameBut (s := v.setBrk l y) rfl watch

/-- The tick of the event is the tick of the state between its decision and its tick, as the decision's own event
leaves it but for Quiet operation. -/
theorem ticked_of {v w t : State} (same : SameBut [.quietRun] v w) (after : SameBut [.quietRun] (sampleTick l v) t) :
    Ticked l w t := by
  have brk : w.brk = v.brk := same .brk (by decide)
  have sup : w.sup = v.sup := same .sup (by decide)
  have still {y : BreakTiming} (short : sampleTick l v = v.setBrk l y) : SameBut [.quietRun] (w.setBrk l y) t :=
    SameBut.then (setBrk_sameBut_quiet same y).symm (short ▸ after) (by decide)
  have hook : w.sup[l].hook = v.sup[l].hook := by rw [sup]
  have ticked (y : BreakTiming) : SameBut [.quietRun] (v.setBrk l y) { w with brk := v.brk.set l y } := by
    have set := setBrk_sameBut_quiet (l := l) same y
    rw [State.setBrk, State.setBrk, brk] at set
    exact set
  unfold Ticked
  rw [brk, hook]
  refine ⟨fun onHook => ⟨fun n count long => ⟨_, rfl, ?_⟩, fun short => ?_⟩,
    fun offHook => ⟨fun n count long => ⟨_, rfl, ?_⟩, fun short => ?_⟩⟩
  · rw [sampleTick_clears onHook count long] at after
    exact event_sameBut_quiet (ticked _) (fun _ _ alike => clearDecision_beside alike) (clearDecision_sup l _)
      (clearDecision_sameBut .watch (by decide)) after
  · have y := still (sampleTick_breaks onHook short)
    rw [State.setBrk, brk] at y
    exact y
  · rw [sampleTick_digit offHook count long] at after
    exact event_sameBut_quiet (ticked _) (fun _ _ _ => digitEnd_beside) (digitEnd_sup l _)
      (digitEnd_sameBut .watch (by decide)) after
  · have y := still (sampleTick_makes offHook short)
    rw [State.setBrk, brk] at y
    exact y

/-! ## The whole sample -/

theorem deliverHook_call (timed : s.call[l].state.timed = true) : (deliverHook l s).call = s.call := by
  have now : (endQuiet s).call[l].state.timed = true := timed
  rw [deliverHook, if_pos now]
  exact breakDecision_sameBut .call (by decide)

/-- A hook or ring-trip decision leaves a timed line in its call state. -/
theorem carryOut_call {d : Decision} (timed : s.call[l].state.timed = true) (other : ∀ k, d ≠ .fault k) :
    (carryOut l d s).call = s.call := by
  have supervised : s.call[l].state.supervised = true := by
    revert timed
    cases s.call[l].state <;> decide
  cases d with
  | none => rfl
  | hook =>
    rw [carryOut, hookDecision, if_pos supervised]
    exact deliverHook_call timed
  | fault k => exact absurd rfl (other k)
  | ringTrip =>
    have unrung : ¬s.call[l].state = .ringing := fun ringing => nomatch (congrArg CallState.timed ringing).symm.trans timed
    rw [carryOut, ringTripDecision, if_pos supervised]
    exact (congrArg State.call (if_neg unrung)).trans (deliverHook_call timed)

section
variable {current : Int} {trip : Bool} {d : Decision} {c : Instr}

/-- A sample that brings a fault decision is that decision. -/
theorem sample_faults (running : s.inRestart = false) (enabled : s.call[l].state ≠ .disabled)
    (untested : s.call[l].state ≠ .testing)
    (decision : (s.sup[l].sample (s.profileOf l) s.feed[l] (convertSense current) trip).decision
      (s.profileOf l).m.toNat = .fault k) :
    event (visit l current trip) s = event (faultDecision l k) (s.supervised l current trip) := by
  have visited := visit_supervised (current := current) (trip := trip) running enabled untested decision
  have condition : (s.supervised l current trip).quietCondition = s.quietCondition := rfl
  refine event_of_same (visited.trans ?_) rfl condition
  split
  · next both =>
    have timed : (s.supervised l current trip).call[l].state.timed = true := (Bool.and_eq_true_iff.mp both).1
    exact sampleTick_rests (faultDecision_rests timed)
  · rfl

/-- A sample of an untimed line is its decision. -/
theorem sample_untimed (running : s.inRestart = false) (enabled : s.call[l].state ≠ .disabled)
    (untested : s.call[l].state ≠ .testing) (untimed : s.call[l].state.timed = false)
    (decision : (s.sup[l].sample (s.profileOf l) s.feed[l] (convertSense current) trip).decision
      (s.profileOf l).m.toNat = d) :
    event (visit l current trip) s = event (carryOut l d) (s.supervised l current trip) := by
  have visited := visit_supervised (current := current) (trip := trip) running enabled untested decision
  have condition : (s.supervised l current trip).quietCondition = s.quietCondition := rfl
  rw [untimed] at visited
  exact event_of_same visited rfl condition

/-- A sample of a timed line is its decision and its tick. -/
theorem sample_ticks (running : s.inRestart = false) (timed : s.call[l].state.timed = true)
    (decision : (s.sup[l].sample (s.profileOf l) s.feed[l] (convertSense current) trip).decision
      (s.profileOf l).m.toNat = d) (other : ∀ k, d ≠ .fault k) :
    SameBut [.quietRun] (sampleTick l (carryOut l d (s.supervised l current trip))) (event (visit l current trip) s) := by
  have enabled : s.call[l].state ≠ .disabled := fun state => nomatch (congrArg CallState.timed state).symm.trans timed
  have untested : s.call[l].state ≠ .testing := fun state => nomatch (congrArg CallState.timed state).symm.trans timed
  have visited := visit_supervised (current := current) (trip := trip) running enabled untested decision
  have kept : (carryOut l d (s.supervised l current trip)).call[l].state.timed = true := by
    have call := carryOut_call (s := s.supervised l current trip) (l := l) timed other
    rw [call]
    exact timed
  rw [timed, kept] at visited
  exact sameBut_event_of visited

/-- A sample with a decision other than a fault's. -/
theorem sample_decides (running : s.inRestart = false) (enabled : s.call[l].state ≠ .disabled)
    (untested : s.call[l].state ≠ .testing)
    (decision : (s.sup[l].sample (s.profileOf l) s.feed[l] (convertSense current) trip).decision
      (s.profileOf l).m.toNat = d) (other : ∀ k, d ≠ .fault k)
    (runs : exec c (s.supervised l current trip) = .next (event (carryOut l d) (s.supervised l current trip))) :
    (¬(s.call[l].state = .waiting ∨ s.call[l].state = .seizing ∨ s.call[l].state = .connected) →
      exec (.senseSample l current trip) s = exec c (s.supervised l current trip)) ∧
    ((s.call[l].state = .waiting ∨ s.call[l].state = .seizing ∨ s.call[l].state = .connected) →
      ∃ w, exec c (s.supervised l current trip) = .next w ∧
        ∃ t, exec (.senseSample l current trip) s = .next t ∧ Ticked l w t) := by
  rw [← timed_iff]
  refine ⟨fun untimed => ?_, fun timed => ⟨_, runs, _, rfl, ?_⟩⟩
  · exact (congrArg Host.Outcome.next (sample_untimed running enabled untested (Bool.eq_false_iff.mpr untimed)
      decision)).trans runs.symm
  · exact ticked_of (event_sameBut _ _) (sample_ticks running timed decision other)

end

end

section
variable {s : State} {l : Line} {current : Int} {trip : Bool} {d : Decision}

/-- After a sample the supervision is as its decision left it. -/
theorem sample_sup (running : s.inRestart = false) (enabled : s.call[l].state ≠ .disabled)
    (untested : s.call[l].state ≠ .testing)
    (decision : (s.sup[l].sample (s.profileOf l) s.feed[l] (convertSense current) trip).decision
      (s.profileOf l).m.toNat = d) :
    (event (visit l current trip) s).sup = (carryOut l d (s.supervised l current trip)).sup := by
  rw [event_sup, visit_supervised running enabled untested decision]
  exact sampleTick_if_sup ..

theorem hookDecision_sup {h : Hook} (supervised : s.call[l].state.supervised = true) (opposes : h ≠ s.sup[l].hook) :
    (hookDecision l s).sup[l] = { s.sup[l] with hook := h, hookCount := 0 } := by
  have sup : (hookDecision l s).sup = (hookTaken l h s).sup := by
    rw [hookDecision_eq supervised opposes]
    split
    · exact breakDecision_sup ..
    · exact callHook_sup ..
  rw [sup, hookTaken_sup]

end

/-- Settles O12: by the one decision of the sample. -/
theorem hookStateIsDebounced : Obligations.HookStateIsDebounced := by
  refine ⟨?_, ?_⟩
  · intro s l current trip sigma running enabled untested clear direction order p F opposed low high
    have profile : s.profileOf l = p := rfl
    have forms : decide (s.feed[l].blanking = .none ∧ s.feed[l].current ≠ .openLoop ∧ s.feed[l].current ≠ .ring) = true := by
      refine decide_eq_true ⟨clear, ?_⟩
      rcases direction with ⟨standby | active, -⟩ | ⟨reverse, -⟩
      · rw [standby]
        decide
      · rw [active]
        decide
      · rw [reverse]
        decide
    have expected : (if s.feed[l].current = .reverse then -1 else 1) * F = sigma * F := by
      rcases direction with ⟨standby | active, rfl⟩ | ⟨reverse, rfl⟩
      · rw [standby]
        rfl
      · rw [active]
        rfl
      · rw [reverse]
        rfl
    have unrung : s.feed[l].current ≠ .ring := (of_decide_eq_true forms).2.2
    have counts := sample_eq (x := s.sup[l]) (p := p) (feed := s.feed[l]) (trip := trip) (v := convertSense current)
      (F := F) order rfl expected forms rfl
    have sampled (n : Nat) (hooks : (if opposed then s.sup[l].hookCount + 1 else 0) = n) :
        (s.sup[l].sample p s.feed[l] (convertSense current) trip).hook = s.sup[l].hook ∧
        (s.sup[l].sample p s.feed[l] (convertSense current) trip).hookCount = n ∧
        (s.sup[l].sample p s.feed[l] (convertSense current) trip).decision p.m.toNat =
          if reaches n p.m.toNat then .hook else .none := by
      have few : ¬(true = true ∧ 16 * p.tOver.toNat ≤ F.natAbs) := by omega
      have none : ¬(true = true ∧ sigma * F ≤ -(16 * (p.tOn.toNat : Int))) := by omega
      have trips : ¬(s.feed[l].current = .ring ∧ s.feed[l].settling = false ∧ s.sup[l].ringTripTaken = false ∧
        trip = true) := fun ring => unrung ring.1
      rw [if_neg few, if_neg none, if_neg trips] at counts
      have advanced : (if true = true ∧ decide opposed = true then s.sup[l].hookCount + 1 else 0) = n := by
        rw [← hooks]
        simp
      rw [counts]
      exact ⟨rfl, advanced, congrArg (fun n => if reaches n p.m.toNat then Decision.hook else .none) advanced⟩
    have record : (s.supervised l current trip).sup[l] = s.sup[l].sample p s.feed[l] (convertSense current) trip :=
      (set_get ..).trans (if_pos rfl)
    have undecided (n : Nat) (hooks : (if opposed then s.sup[l].hookCount + 1 else 0) = n)
        (short : reaches n p.m.toNat = false) : (event (visit l current trip) s).sup[l].hook = s.sup[l].hook ∧
        (event (visit l current trip) s).sup[l].hookCount = n := by
      obtain ⟨hook, count, decision⟩ := sampled n hooks
      have none : (if reaches n p.m.toNat then Decision.hook else .none) = .none := if_neg (by rw [short]; nofun)
      rw [sample_sup running enabled untested (decision.trans none)]
      exact record ▸ ⟨hook, count⟩
    refine ⟨_, rfl, fun agrees => undecided 0 (if_neg agrees) rfl, fun opposes short => ?_, fun opposes reached => ?_⟩
    · refine undecided _ (if_pos opposes) ?_
      have below : ¬p.m.toNat ≤ s.sup[l].hookCount + 1 := by omega
      rw [reaches, decide_eq_false below, Bool.and_false]
    · obtain ⟨hook, -, decision⟩ := sampled (s.sup[l].hookCount + 1) (if_pos opposes)
      have full : reaches (s.sup[l].hookCount + 1) p.m.toNat = true := by
        have counted : 0 < s.sup[l].hookCount + 1 := Nat.succ_pos _
        rw [reaches, decide_eq_true counted, decide_eq_true (Nat.le_of_eq reached.symm)]
        rfl
      have hookDecided : (if reaches (s.sup[l].hookCount + 1) p.m.toNat then Decision.hook else .none) = .hook :=
        if_pos full
      have supervised : (s.supervised l current trip).call[l].state.supervised = true := by
        have disabled : (s.supervised l current trip).call[l].state ≠ .disabled := enabled
        have testing : (s.supervised l current trip).call[l].state ≠ .testing := untested
        revert disabled testing
        cases (s.supervised l current trip).call[l].state <;> decide
      obtain ⟨h, other⟩ : ∃ h : Hook, h ≠ s.sup[l].hook := by
        cases s.sup[l].hook with
        | onHook => exact ⟨.offHook, nofun⟩
        | offHook => exact ⟨.onHook, nofun⟩
      have decided := hookDecision_sup (h := h) supervised (by rw [record, hook]; exact other)
      rw [sample_sup running enabled untested (decision.trans hookDecided), carryOut, decided]
      exact ⟨other, rfl⟩
  · intro s l current trip running enabled untested order debounced p x feed F E formed opposed hooks overs foreigns
      trips v sampled timed ticked decides
    have counts := sample_eq (x := x) (p := p) (feed := feed) (trip := trip) (v := convertSense current) (F := F) (E := E)
      (formed := formed) (opposed := opposed) order rfl rfl rfl rfl
    have moved : s.supervised l current trip = v := congrArg (fun x => (s.visited l).setSup l x) counts
    have decision : (x.sample p feed (convertSense current) trip).decision p.m.toNat =
        if p.m.toNat ≤ overs then .fault .overcurrent
        else if p.m.toNat ≤ foreigns then .fault .foreignBattery
        else if p.m.toNat ≤ hooks then .hook
        else if 2 ≤ trips then .ringTrip
        else .none := by
      rw [decision_eq debounced, counts]
    refine ⟨fun large => ?_, fun few foreign => ?_, fun few none => ⟨fun hook => ?_, fun still trips => ?_,
      fun still quiet => ?_⟩⟩
    · rw [if_pos large] at decision
      exact moved ▸ congrArg Host.Outcome.next (sample_faults running enabled untested decision)
    · rw [if_neg (by omega), if_pos foreign] at decision
      exact moved ▸ congrArg Host.Outcome.next (sample_faults running enabled untested decision)
    · rw [if_neg (by omega), if_neg (by omega), if_pos hook] at decision
      have all := sample_decides (c := .hookDecision l) running enabled untested decision nofun rfl
      rw [moved] at all
      exact all
    · rw [if_neg (by omega), if_neg (by omega), if_neg (by omega), if_pos trips] at decision
      have all := sample_decides (c := .ringTripDecision l) running enabled untested decision nofun rfl
      rw [moved] at all
      exact all
    · rw [if_neg (by omega), if_neg (by omega), if_neg (by omega), if_neg (by omega)] at decision
      refine ⟨_, rfl, fun isTimed => ?_, fun untimed => ?_⟩
      · have after := sample_ticks running (timed_iff.mpr isTimed) decision nofun
        rw [moved] at after
        exact ticked_of (.refl _ v) after
      · have same := sample_untimed running enabled untested (Bool.eq_false_iff.mpr fun on => untimed (timed_iff.mp on))
          decision
        rw [moved] at same
        exact same ▸ event_sameBut _ v

end Sys2Proof.Machine
end

section
/-! Chapter 8, section 8.2: a test session starts. -/

namespace Sys2Proof.Machine

section
variable {s t v : State} {l : Line} {f : Feed} {x : FeedMode} {q : Request} {r : Reply} {allowed : Bool}
  {mode : TestMode} {ms : List Measurement}

theorem take_held : (f.take x).held = f.held := by
  unfold Feed.take
  dsimp only
  split <;> rfl

/-- A frame for the unit leaves Quiet operation ended where its request does. -/
theorem unit_quiet (h : s.receives = true) (answer : q s.atRequest = (v, r)) (quiet : v.monitor.quiet = false) :
    (event (takeFrame .unit allowed q) s).monitor.quiet = false := by
  refine event_quiet ?_
  rw [takeFrame_unit allowed q s h, answer]
  exact quiet

theorem suspend_entering {c old : CallRecord} : c.suspend.entering old = { c.suspend with early := [], lost := false } := rfl

/-- The state in which the session has begun on the line. -/
def State.sessionStarted (s : State) (l : Line) (mode : TestMode) (ms : List Measurement) : State := { s with
  test :=
    { session := some { line := l, mode := mode, measurements := ms, remaining := ms, phase := .connect, timer := some 50 }
      result := { line := some l, mode := some mode, status := .inProgress }
      relay := some l, source := false }
  call := s.call.set l { s.call[l].suspend with early := [], lost := false }
  brk := s.brk.set l {}
  feed := s.feed.set l (s.feed[l].takeover.take .openLoop)
  arbiter := { s.arbiter with arrivals := s.arbiter.arrivals.filter fun a => a.line ≠ l }
  monitor := { s.monitor with quiet := false } }

theorem startSession_eq (unrung : s.call[l].state ≠ .ringing) :
    startSession l mode ms s = s.sessionStarted l mode ms := by
  have started : startSession l mode ms s = testTarget l .openLoop (endQuiet
      ((enter l s.call[l].suspend (s.setTest (s.sessionStarted l mode ms).test)).setFeed l
        (enter l s.call[l].suspend (s.setTest (s.sessionStarted l mode ms).test)).feed[l].takeover)) := rfl
  have entered : enter l s.call[l].suspend (s.setTest (s.sessionStarted l mode ms).test) = { s with
      test := (s.sessionStarted l mode ms).test
      call := s.call.set l { s.call[l].suspend with early := [], lost := false }
      brk := s.brk.set l {}
      arbiter := { s.arbiter with arrivals := s.arbiter.arrivals.filter fun a => a.line ≠ l } } := by
    have untimed : ((s.setTest (s.sessionStarted l mode ms).test).call[l].state.timed &&
        s.call[l].suspend.state.timed) = false := Bool.and_false _
    rw [enter_frame_unrung (by exact unrung), suspend_entering, untimed]
    rfl
  have twice (y z : Feed) : (s.feed.set l y).set l z = s.feed.set l z := Vector.set_set ..
  have back (y : Feed) : (s.feed.set l y)[l] = y := (set_get ..).trans (if_pos rfl)
  rw [started, entered]
  simp only [testTarget, endQuiet, State.setFeed, State.setMonitor, back, twice]
  rfl

theorem sessionStarted_others : OtherLines l s (s.sessionStarted l mode ms) := fun _ ne =>
  ⟨rfl, rfl, (set_get ..).trans (if_neg ne), (set_get ..).trans (if_neg ne), (set_get ..).trans (if_neg ne)⟩

theorem sessionStarted_sameBut :
    SameBut [.brk, .feed, .call, .arbiter, .test, .quietRun] s (s.sessionStarted l mode ms) := by
  simp [sameBut_iff, State.sessionStarted, Monitor.watch]

end

/-- The mode that the byte of a Test Line names. -/
def testModeOf (mode : Byte) : TestMode := if mode.toNat = 0 then .courteous else .forced

section
variable {s : State} {l : Line} {measurements mode : Byte}

theorem allows_iff : (testModeOf mode).allows s.call[l].state = true ↔ s.call[l].state = .idle ∨
    mode.toNat ≠ 0 ∧ (s.call[l].state = .lockout ∨ s.call[l].state = .faulted ∨ s.call[l].state = .disabled) := by
  unfold testModeOf
  by_cases courteous : mode.toNat = 0
  · rw [if_pos courteous]
    cases s.call[l].state <;> simp [TestMode.allows, courteous]
  · rw [if_neg courteous]
    cases s.call[l].state <;> simp [TestMode.allows, courteous]

theorem reqTestLine_eq : reqTestLine (BitVec.ofNat 8 l.val) measurements mode s =
    if measurements.toNat = 0 ∨ 7 < measurements.toNat ∨ 1 < mode.toNat then (s, .refused .outOfRange)
    else if s.test.session.isSome then (s, .refused .testBusy)
    else if s.supply.level = .critical then (s, .refused .supplyLow)
    else if (testModeOf mode).allows s.call[l].state then
      (startSession l (testModeOf mode) (measurementsOf measurements) s, .accepted)
    else (s, .refused .lineBusy) := by
  rw [reqTestLine, onLine_ofNat]
  rfl

end

/-- Settles O38: the checks in their order, and then the session's start. -/
theorem testLineStartsOrRefuses : Obligations.TestLineStartsOrRefuses := by
  intro s l measurements mode h u command inRange allowed m ms refusedWith
  have session : u.test = s.test := atRequest_test
  have supply : u.supply = s.supply := atRequest_supply
  have call : u.call = s.call := atRequest_call
  have answer := reqTestLine_eq (s := u) (l := l) (measurements := measurements) (mode := mode)
  rw [session, supply, call] at answer
  have refused {c : Cause}
      (answer : reqTestLine (BitVec.ofNat 8 l.val) measurements mode u = (u, .refused c)) : refusedWith c :=
    unit_runs (i := command) rfl h answer rfl
  have checked (inside : inRange) :
      ¬(measurements.toNat = 0 ∨ 7 < measurements.toNat ∨ 1 < mode.toNat) := by
    obtain ⟨some, most, known⟩ := inside
    omega
  have free (none : s.test.session = none) : ¬s.test.session.isSome = true := by
    rw [none]
    nofun
  refine ⟨fun out => refused (answer.trans (if_pos ?_)), fun inside busy => refused ?_, fun inside none low => refused ?_,
    fun inside none power barred => refused ?_, fun inside none power may => ?_⟩
  · by_contra fine
    exact out (by omega)
  · rw [if_neg (checked inside), if_pos (Option.isSome_iff_ne_none.mpr busy)] at answer
    exact answer
  · rw [if_neg (checked inside), if_neg (free none), if_pos low] at answer
    exact answer
  · have known : mode.toNat ≤ 1 := inside.2.2
    have notAllowed : ¬(testModeOf mode).allows s.call[l].state = true := fun allows => barred ((allows_iff.mp allows).imp id
      fun ⟨forced, state⟩ => ⟨by omega, state⟩)
    rw [if_neg (checked inside), if_neg (free none), if_neg power, if_neg notAllowed] at answer
    exact answer
  · have allows : (testModeOf mode).allows s.call[l].state = true :=
      allows_iff.mpr (may.imp id fun ⟨forced, state⟩ => ⟨by omega, state⟩)
    have unrung : u.call[l].state ≠ .ringing := by
      rw [call]
      intro ringing
      rw [ringing] at allows
      revert allows
      cases testModeOf mode <;> decide
    rw [if_neg (checked inside), if_neg (free none), if_neg power, if_pos allows, startSession_eq unrung] at answer
    obtain ⟨frame, replied⟩ := unit_replies (allowed := false) h answer rfl
    have others := unit_otherLines frame sessionStarted_others
    have test : (event (takeFrame .unit false (reqTestLine (BitVec.ofNat 8 l.val) measurements mode)) s).test = _ :=
      frame .test (by decide)
    have callNow : (event (takeFrame .unit false (reqTestLine (BitVec.ofNat 8 l.val) measurements mode)) s).call[l] =
        { s.call[l].suspend with early := [], lost := false } := by
      refine (congrArg (fun x : Vector CallRecord 32 => x[l]) (frame .call (by decide))).trans ?_
      refine ((set_get ..).trans (if_pos rfl)).trans ?_
      rw [call]
    have feedNow : (event (takeFrame .unit false (reqTestLine (BitVec.ofNat 8 l.val) measurements mode)) s).feed[l] =
        s.feed[l].takeover.take .openLoop := by
      refine (congrArg (fun x : Vector Feed 32 => x[l]) (frame .feed (by decide))).trans ?_
      refine ((set_get ..).trans (if_pos rfl)).trans ?_
      exact congrArg (fun x : Vector Feed 32 => x[l].takeover.take .openLoop) atRequest_feed
    refine ⟨_, rfl, SameBut.then (.mono (by decide) sessionStarted_sameBut) frame (by decide), others, replied,
      unit_quiet h answer rfl, ?_⟩
    rw [test, callNow, feedNow, take_control, take_held, take_target]
    refine ⟨rfl, rfl, rfl, rfl, rfl, rfl, rfl, fun kept => ⟨if_neg kept, if_neg kept⟩,
      fun look => ⟨if_pos look, if_pos look⟩, rfl, rfl, rfl⟩

end Sys2Proof.Machine
end

section
/-! Chapter 8, sections 8.3 to 8.5: how a session goes on from phase to phase. -/

namespace Sys2Proof.Machine

/-- The state with another feed of the line and another Test Unit. -/
def State.tested (s : State) (l : Line) (f : Feed) (u : TestUnit) : State := { s with feed := s.feed.set l f, test := u }

section
variable {s t : State} {l : Line} {f g : Feed} {u w : TestUnit} {x : Session} {m : Measurement} {rest : List Measurement}
  {k : FeedMode} {c : Instr} {op : State → State}

theorem tested_tested : (s.tested l f u).tested l g w = s.tested l g w :=
  congrArg (fun y => { s with feed := y, test := w }) (Vector.set_set ..)

theorem tested_feed : (s.tested l f u).feed[l] = f := (set_get ..).trans (if_pos rfl)

theorem tested_sameBut : SameBut [.feed, .test] s (s.tested l f u) := by
  simp [sameBut_iff, State.tested]

theorem tested_others : OtherLines l s (s.tested l f u) := fun _ ne => ⟨rfl, rfl, rfl, (set_get ..).trans (if_neg ne), rfl⟩

/-- An event that changes a line's feed and the Test Unit alone. -/
theorem event_tested (eq : op s = s.tested l f u) : SameBut [.feed, .test, .quietRun] s (event op s) ∧
    OtherLines l s (event op s) ∧ (event op s).feed[l] = f ∧ (event op s).test = u := by
  have feed : (event op s).feed[l] = f := by
    rw [event_feed, eq]
    exact tested_feed
  have test : (event op s).test = u := by
    rw [event_test, eq]
    rfl
  exact ⟨SameBut.event (eq ▸ .mono (by decide) tested_sameBut) (by decide), OtherLines.event (eq ▸ tested_others), feed, test⟩

theorem steadyIn_iff : f.steadyIn k = true ↔ f.settling = false ∧ f.current = k := by
  simp [Feed.steadyIn]

theorem take_away (steady : f.settling = false) (away : f.current ≠ k) : (f.take k).steadyIn k = false := by
  rw [take_moves steady away]
  rfl

/-! ## Measurements and looks begin -/

/-- The session with a measurement begun (R142). -/
def Session.measuring (x : Session) (m : Measurement) : Session :=
  { x with
    phase := .measure, present := some m, gain := .x25, window := 0, sum := 0, squares := 0, clipped := false
    timer := none }

theorem toMeasure_open (steady : s.feed[x.line].settling = false) (there : s.feed[x.line].current = .openLoop) :
    toMeasure x m s = s.tested x.line { s.feed[x.line] with target := .openLoop }
      { s.test with session := some (x.measuring m), source := decide (m = .leakage) } := by
  have taken := take_steady steady there
  have back : (testTarget x.line .openLoop s).feed[x.line] = { s.feed[x.line] with target := .openLoop } := by
    rw [testTarget, taken]
    exact (set_get ..).trans (if_pos rfl)
  have reached : (testTarget x.line .openLoop s).feed[x.line].steadyIn .openLoop = true := by
    rw [back]
    exact steadyIn_iff.mpr ⟨steady, there⟩
  unfold toMeasure
  dsimp only
  rw [if_pos reached, testTarget, taken]
  rfl

theorem toMeasure_away (steady : s.feed[x.line].settling = false) (away : s.feed[x.line].current ≠ .openLoop) :
    toMeasure x m s = s.tested x.line (s.feed[x.line].take .openLoop)
      { s.test with session := some { x with phase := .measure, present := none, timer := none } } := by
  have unreached : ¬(testTarget x.line .openLoop s).feed[x.line].steadyIn .openLoop = true := by
    rw [testTarget, State.setFeed_get, take_away steady away]
    nofun
  unfold toMeasure
  dsimp only
  rw [if_neg unreached]
  rfl

theorem startLook_away (steady : s.feed[x.line].settling = false) (away : s.feed[x.line].current ≠ .standby) :
    startLook x s = s.tested x.line (s.feed[x.line].take .standby)
      { s.test with session := some { x with phase := .look, present := none, lookCount := 0, timer := none } } := by
  have unreached : ¬(testTarget x.line .standby s).feed[x.line].steadyIn .standby = true := by
    rw [testTarget, State.setFeed_get, take_away steady away]
    nofun
  unfold startLook
  dsimp only
  rw [if_neg unreached]
  rfl

theorem nextMeasurement_forced (more : x.remaining = m :: rest) (forced : x.mode = .forced) :
    nextMeasurement x s = toMeasure x m s := by
  unfold nextMeasurement
  rw [more, forced]

theorem nextMeasurement_courteous (more : x.remaining = m :: rest) (courteous : x.mode = .courteous) :
    nextMeasurement x s = startLook x s := by
  unfold nextMeasurement
  rw [more, courteous]

/-! ## The phase timers and the feed's signal -/

theorem connectExpiry_eq (session : s.test.session = some x) (connect : x.phase = .connect) (timed : x.timer ≠ none)
    (steady : s.feed[x.line].settling = false) (there : s.feed[x.line].current = .openLoop) :
    connectExpiry s = nextMeasurement { x with timer := none } (s.setSession (some { x with timer := none })) := by
  unfold connectExpiry
  rw [session]
  dsimp only
  rw [if_pos ⟨connect, Option.isSome_iff_ne_none.mpr timed⟩]
  exact if_pos (steadyIn_iff.mpr ⟨steady, there⟩)

theorem lookExpiry_eq (session : s.test.session = some x) (more : x.remaining = m :: rest) (look : x.phase = .look)
    (timed : x.timer ≠ none) : lookExpiry s = toMeasure { x with lookCount := 0 } m s := by
  unfold lookExpiry
  rw [session]
  dsimp only
  rw [more]
  exact if_pos ⟨look, Option.isSome_iff_ne_none.mpr timed⟩

theorem settleEnd_reaches (settling : s.feed[l].settling = true) (control : s.feed[l].control = .testUnit)
    (reached : s.feed[l].current = s.feed[l].target)
    (settled : { s.feed[l] with settling := false, settle := 0, blanking := .left 10 } = f) :
    settleEnd l s = targetReached l (s.tested l f s.test) := by
  have feed : s.feed[l].settleEnd = f := (settleEnd_reached reached).trans settled
  have back : (s.setFeed l f).feed[l] = f := State.setFeed_get ..
  have ends : (s.setFeed l f).feed[l].control = .testUnit ∧ (s.setFeed l f).feed[l].settling = false := by
    rw [back, ← settled]
    exact ⟨control, rfl⟩
  unfold settleEnd
  dsimp only
  rw [if_pos settling, feed, if_pos ends]
  rfl

section
variable (session : s.test.session = some x)
include session

theorem targetReached_timed (timed : x.timer ≠ none) : targetReached x.line s = s := by
  unfold targetReached
  rw [session]
  exact if_neg fun ends => timed ends.2

variable (expired : x.timer = none)
include expired

theorem targetReached_connect (connect : x.phase = .connect) (there : s.feed[x.line].current = .openLoop) :
    targetReached x.line s = finishConnect x s := by
  unfold targetReached
  rw [session]
  dsimp only
  rw [if_pos ⟨rfl, expired⟩, connect, there]

theorem targetReached_look (look : x.phase = .look) (there : s.feed[x.line].current = .standby) :
    targetReached x.line s = s.setSession (some { x with timer := some 30 }) := by
  unfold targetReached
  rw [session]
  dsimp only
  rw [if_pos ⟨rfl, expired⟩, look, there]
  rfl

theorem targetReached_measure (measure : x.phase = .measure) (there : s.feed[x.line].current = .openLoop)
    (none : x.present = none) (more : x.remaining = m :: rest) : targetReached x.line s = beginMeasurement x m s := by
  unfold targetReached
  rw [session]
  dsimp only
  rw [if_pos ⟨rfl, expired⟩, measure, there, none, more]

theorem targetReached_disconnect (disconnect : x.phase = .disconnect) (there : s.feed[x.line].current = .openLoop) :
    targetReached x.line s = finishDisconnect x s := by
  unfold targetReached
  rw [session]
  dsimp only
  rw [if_pos ⟨rfl, expired⟩, disconnect, there]

end

theorem finishConnect_open (steady : s.feed[x.line].settling = false) (there : s.feed[x.line].current = .openLoop) :
    finishConnect x s = nextMeasurement x s := if_pos (steadyIn_iff.mpr ⟨steady, there⟩)

theorem finishDisconnect_open (steady : s.feed[x.line].settling = false) (there : s.feed[x.line].current = .openLoop) :
    finishDisconnect x s = endSession x s := if_pos (steadyIn_iff.mpr ⟨steady, there⟩)

/-! ## The end of a session -/

theorem returnPrior_frame {prior : CallState} : SameBut (callParts ++ [.sup]) s (returnPrior l prior s) := by
  unfold returnPrior
  split
  · exact SameBut.then (SameBut.then (SameBut.mono (by decide) enter_sameBut) setSup_sameBut (by decide))
      callTarget_sameBut (by decide)
  · exact SameBut.then (SameBut.mono (by decide) enter_sameBut) callTarget_sameBut (by decide)
  · exact SameBut.then (SameBut.mono (by decide) enter_sameBut) callTarget_sameBut (by decide)
  · exact .mono (by decide) goIdle_sameBut

/-- The handed-back line's state is no affair of the Test Unit. -/
theorem returnLine_frame {e : EndingStatus} {v : Option Verdict} :
    SameBut (callParts ++ [.sup]) s (returnLine l e v s) := by
  unfold returnLine
  dsimp only
  split
  · split
    · exact SameBut.then (SameBut.then (SameBut.mono (by decide) enter_sameBut) setSup_sameBut (by decide))
        callTarget_sameBut (by decide)
    · exact .mono (by decide) faultEntry_sameBut
  · split
    · have cleared : SameBut (callParts ++ [.sup]) s (goIdle l (s.report true { kind := .faultCleared, line := some l })) :=
        SameBut.then (SameBut.mono (by decide) report_sameBut) goIdle_sameBut (by decide)
      split
      · exact SameBut.then cleared offHookHandling_sameBut (by decide)
      · exact cleared
    · exact returnPrior_frame
  · exact returnPrior_frame

theorem handback_control {st : CallState} : (f.handback st).control = .callSide := by
  unfold Feed.handback
  dsimp only
  split
  · rfl
  · unfold Feed.ringTarget
    split
    · exact take_control
    · rfl
  · exact take_control

theorem endSession_test : (endSession x s).test =
    { s.test with session := none, result := { s.test.result with status := x.ending.result } } := by
  have returned {v : State} : (handback x.line (returnLine x.line x.ending s.test.result.verdict v)).test = v.test :=
    Eq.trans (handback_sameBut .test (by decide)) (returnLine_frame .test (by decide))
  unfold endSession
  exact returned

theorem endSession_control : (endSession x s).feed[x.line].control = .callSide := by
  have back {v : State} : (handback x.line v).feed[x.line].control = .callSide := by
    rw [handback, State.setFeed_get]
    exact handback_control
  exact back

end

/-- Settles O39: each signal leads to the next measurement, a look or the end. -/
theorem sessionGoesOn : Obligations.SessionGoesOn := by
  intro s x m rest session more begun looking goes
  have goes_of {c : Instr} {op : State → State} {f : Feed} {u : TestUnit} (runs : exec c s = .next (event op s))
      (eq : op s = s.tested x.line f u) : goes c f u := ⟨_, runs, event_tested eq⟩
  refine ⟨fun timed steady => ⟨fun connect there => ?_, fun look there => ?_, fun look there => ?_⟩,
    fun settling control reached => ?_⟩
  · have expired := connectExpiry_eq session connect timed steady there
    refine ⟨fun forced => ?_, fun courteous => ?_⟩
    · refine goes_of (c := .testConnectExpiry) rfl (expired.trans ?_)
      rw [nextMeasurement_forced (m := m) (rest := rest) (by exact more) (by exact forced)]
      exact toMeasure_open steady there
    · refine goes_of (c := .testConnectExpiry) rfl (expired.trans ?_)
      rw [nextMeasurement_courteous (m := m) (rest := rest) (by exact more) (by exact courteous)]
      exact startLook_away steady (by rw [State.setSession, State.setTest_feed, there]; nofun)
  · exact goes_of (c := .testLookExpiry) rfl ((lookExpiry_eq session more look timed).trans (toMeasure_open steady there))
  · exact goes_of (c := .testLookExpiry) rfl ((lookExpiry_eq session more look timed).trans
      (toMeasure_away (x := { x with lookCount := 0 }) steady (by rw [there]; nofun)))
  · intro f
    have ended : settleEnd x.line s = targetReached x.line (s.tested x.line f s.test) :=
      settleEnd_reaches settling control reached rfl
    have back : (s.tested x.line f s.test).feed[x.line] = f := tested_feed
    have steady : (s.tested x.line f s.test).feed[x.line].settling = false := by rw [back]
    have held : (s.tested x.line f s.test).test.session = some x := session
    have at_ {k : FeedMode} (there : f.current = k) : (s.tested x.line f s.test).feed[x.line].current = k := by
      rw [back]
      exact there
    have opened (there : f.current = .openLoop) : { f with target := .openLoop } = f := by
      have target : f.target = .openLoop := reached.symm.trans there
      rw [← target]
    refine ⟨fun timed => ?_, fun expired => ⟨fun connect there forced => ?_, fun connect there courteous => ?_,
      fun look there => ?_, fun measure none there => ?_, fun disconnect there => ⟨_, rfl, ?_⟩⟩⟩
    · exact goes_of (c := .settleEnd x.line) rfl (ended.trans (targetReached_timed held timed))
    · refine goes_of (c := .settleEnd x.line) rfl (ended.trans ?_)
      rw [targetReached_connect held expired connect (at_ there), finishConnect_open steady (at_ there),
        nextMeasurement_forced more forced, toMeasure_open steady (at_ there), back, tested_tested, opened there]
      rfl
    · refine goes_of (c := .settleEnd x.line) rfl (ended.trans ?_)
      rw [targetReached_connect held expired connect (at_ there), finishConnect_open steady (at_ there),
        nextMeasurement_courteous more courteous, startLook_away steady (by rw [at_ there]; nofun), back, tested_tested]
      rfl
    · refine goes_of (c := .settleEnd x.line) rfl (ended.trans ?_)
      rw [targetReached_look held expired look (at_ there)]
      rfl
    · refine goes_of (c := .settleEnd x.line) rfl (ended.trans ?_)
      rw [targetReached_measure held expired measure (at_ there) none more]
      rfl
    · have closes : settleEnd x.line s = endSession x (s.tested x.line f s.test) := by
        rw [ended, targetReached_disconnect held expired disconnect (at_ there), finishDisconnect_open steady (at_ there)]
      rw [event_test, event_feed, closes, endSession_test]
      refine ⟨rfl, ?_, endSession_control⟩
      cases x.ending <;> rfl

end Sys2Proof.Machine
end

section
/-! Chapter 8, section 8.3: a look that sees the subscriber off-hook. -/

namespace Sys2Proof.Machine

section
variable {s t w : State} {l : Line} {x : Session} {f : Feed} {cause : LockoutCause}

/-- Off-hook handling of a line that finds no bearer and may take none, whatever untimed state it comes from. -/
theorem offHookHandling_joins (unrung : s.call[l].state ≠ .ringing) (untimed : s.call[l].state.timed = false)
    (service : s.monitor.isolated = false) (barred : ∀ b, s.eligible (s.classOf l) b = false)
    (lesser : s.classOf l ≠ .priority) : offHookHandling l s = s.joining l := by
  have record : (waitingRecord s).entering s.call[l] =
      { state := .waiting, path := .tone .wait, early := s.call[l].early, lost := s.call[l].lost
        timer := some { kind := .wait, left := 1000 * s.tables.timers.wait.toNat } } := by
    simp [waitingRecord, CallRecord.entering, CallState.joined, secondsMs, Nat.mul_comm]
  have waited : callTarget l .active (enter l (waitingRecord s) s) = { s.joining l with arbiter := s.arbiter } := by
    have kept : (s.call[l].state.timed && (waitingRecord s).state.timed) = false := by rw [untimed]; rfl
    rw [enter_frame_unrung unrung, callTarget_frame, record]
    simp only [kept]
    rfl
  have joined : offHookHandling l s = match s.lowestEligible (s.classOf l) with
      | some b => grantBearer l b (s.joining l)
      | none => if s.classOf l = .priority then priorityStep l (s.joining l) else s.joining l := by
    rw [offHookHandling, service, if_neg Bool.false_ne_true, waited]
    rfl
  rw [joined, lowestEligible_none barred]
  exact if_neg lesser

/-- Off-hook handling (R81, R120) of a line that is off-hook and neither timed nor Ringing, where it takes no bearer:
it hears the Isolation tone or it waits. -/
theorem offHookHandling_idles (unrung : s.call[l].state ≠ .ringing) (untimed : s.call[l].state.timed = false)
    (offHook : s.sup[l].hook = .offHook)
    (idles : s.monitor.isolated = true ∨ s.classOf l ≠ .priority ∧ ∀ b, s.eligible (s.classOf l) b = false) :
    SameBut [.call, .brk, .arbiter, .feed] s (offHookHandling l s) ∧ OtherLines l s (offHookHandling l s) ∧
      (offHookHandling l s).feed[l] = s.feed[l].callTarget .active ∧
      (s.monitor.isolated = true → (offHookHandling l s).call[l] = s.lockedOut .isolated) ∧
      (s.monitor.isolated = false → (offHookHandling l s).call[l] =
        { state := .waiting, path := .tone .wait, early := s.call[l].early, lost := s.call[l].lost
          timer := some { kind := .wait, left := 1000 * s.tables.timers.wait.toNat } }) := by
  by_cases isolated : s.monitor.isolated = true
  · have locked : offHookHandling l s = enterLockout l .isolated s := if_pos isolated
    obtain ⟨call, feed⟩ := enterLockout_line (x := .isolated) unrung
    rw [locked, call, feed, State.lockoutCall, State.lockoutFeed, offHook]
    exact ⟨enterLockout_unrung_sameBut unrung, enterLockout_otherLines, rfl, fun _ => rfl,
      fun service => absurd isolated (by rw [service]; nofun)⟩
  · obtain ⟨lesser, none⟩ := idles.resolve_left isolated
    rw [offHookHandling_joins unrung untimed (Bool.eq_false_iff.mpr isolated) none lesser]
    refine ⟨by simp [sameBut_iff, State.joining], fun m ne => ⟨rfl, rfl, ?_, ?_, ?_⟩, ?_, fun on => absurd on isolated,
      fun _ => ?_⟩
    · exact (set_get ..).trans (if_neg ne)
    · exact (set_get ..).trans (if_neg ne)
    · exact (set_get ..).trans (if_neg ne)
    · exact (set_get ..).trans (if_pos rfl)
    · exact (set_get ..).trans (if_pos rfl)

theorem callTarget_testUnit {k : FeedMode} (control : f.control = .testUnit) : f.callTarget k = { f with held := some k } := by
  rw [Feed.callTarget, control]

/-- A held target other than Ring is taken at the handback. -/
theorem handback_held {k : FeedMode} (held : f.held = some k) (unrung : k ≠ .ring) {st : CallState} :
    f.handback st = ({ f with control := .callSide, held := none } : Feed).take k := by
  unfold Feed.handback
  dsimp only
  rw [held]
  split
  · next none => exact nomatch none
  · next ring => exact absurd (Option.some.inj ring) unrung
  · next taken => rw [Option.some.inj taken]

/-- After the handback of a line for which the Call Handler has set a target. -/
theorem handback_line {k : FeedMode} (feed : w.feed[l] = s.feed[l].callTarget k) (control : s.feed[l].control = .testUnit)
    (unrung : k ≠ .ring) : (handback l w).feed[l].control = .callSide ∧ (handback l w).feed[l].held = none ∧
      (handback l w).feed[l].target = k := by
  have held : w.feed[l].held = some k := by rw [feed, callTarget_testUnit control]
  rw [handback, State.setFeed_get, handback_held held unrung, take_control, take_held, take_target]
  exact ⟨rfl, rfl, rfl⟩

theorem handback_otherLines : OtherLines l s (handback l s) := setFeed_otherLines

/-- The session has ended Yielded, and the line is off-hook. -/
def State.yielded (s : State) (x : Session) : State := { s with
  test := { session := none, result := { s.test.result with status := .yielded, verdict := none }, relay := none
            source := false }
  reports := s.reports.append (s.urgentFor x.line) { kind := .testDone, line := some x.line, value := some 1 }
  sup := s.sup.set x.line { s.sup[x.line] with hook := .offHook, hookCount := 0 } }

end

/-- Settles O40: the yielded session's line is off-hook, and off-hook handling gives it no bearer. -/
theorem lookYieldsToSubscriber : Obligations.LookYieldsToSubscriber := by
  intro s x session look timed testing control lesser none
  have yields : lookOffHook s = handback x.line (offHookHandling x.line (s.yielded x)) :=
    lookOffHook_yields session look (Option.isSome_iff_ne_none.mpr timed)
  have state : (s.yielded x).call[x.line].state = .testing := testing
  have sup : (s.yielded x).sup[x.line] = { s.sup[x.line] with hook := .offHook, hookCount := 0 } :=
    (set_get ..).trans (if_pos rfl)
  obtain ⟨frame, others, feed, isolated, service⟩ := offHookHandling_idles (s := s.yielded x) (l := x.line)
    (by rw [state]; nofun) (by rw [state]; rfl) (by rw [sup]) (.inr ⟨lesser, none⟩)
  have ended : SameBut [.sup, .test, .reports] s (s.yielded x) := by simp [sameBut_iff, State.yielded]
  have endedOthers : OtherLines x.line s (s.yielded x) := fun m ne => ⟨rfl, (set_get ..).trans (if_neg ne), rfl, rfl, rfl⟩
  have called : (offHookHandling x.line (s.yielded x)).call[x.line].state =
      if s.monitor.isolated = true then CallState.lockout else .waiting := by
    by_cases mark : s.monitor.isolated = true
    · rw [isolated mark, if_pos mark]
      rfl
    · rw [service (Bool.eq_false_iff.mpr mark), if_neg mark]
  obtain ⟨control, held, target⟩ := handback_line feed control (by decide)
  generalize offHookHandling x.line (s.yielded x) = v at *
  have back : SameBut [.feed] v (handback x.line v) := handback_sameBut
  have after : SameBut [.quietRun] (handback x.line v) (event lookOffHook s) := sameBut_event_of yields
  have line : SameBut [.call, .brk, .arbiter, .feed] (s.yielded x) (handback x.line v) :=
    SameBut.then frame back (by decide)
  have test : (event lookOffHook s).test = (s.yielded x).test :=
    Eq.trans (after .test (by decide)) (line .test (by decide))
  have reports : (event lookOffHook s).reports = (s.yielded x).reports :=
    Eq.trans (after .reports (by decide)) (line .reports (by decide))
  have supNow : (event lookOffHook s).sup = (s.yielded x).sup :=
    Eq.trans (after .sup (by decide)) (line .sup (by decide))
  have feedNow : (event lookOffHook s).feed = (handback x.line v).feed := after .feed (by decide)
  have callNow : (event lookOffHook s).call = v.call := Eq.trans (after .call (by decide)) (back .call (by decide))
  refine ⟨_, rfl, ?_, ?_, ?_⟩
  · exact SameBut.then (SameBut.then (.mono (by decide) ended) line (by decide)) after (by decide)
  · exact ((endedOthers.trans others).trans handback_otherLines).trans (.ofSameBut after (by decide))
  · rw [test, reports, supNow, feedNow, callNow, sup]
    exact ⟨rfl, rfl, rfl, rfl, rfl, rfl, control, held, target, called⟩

end Sys2Proof.Machine
end

section
/-! Chapter 8, section 8.4: windows, ranges and results. -/

namespace Sys2Proof.Machine

section
variable {s t : State} {x : Session} {m n : Measurement} {rest : List Measurement} {value : Int} {g : Gain}

/-! ## Samples of a window (R142) -/

/-- The session with one more sample in its window. -/
def Session.sampled (x : Session) (v : Int) : Session :=
  { x with
    window := x.window + 1, sum := x.sum + v, squares := x.squares + v.natAbs ^ 2
    clipped := x.clipped || decide (v = -2048 ∨ v = 2047) }

theorem addSample_eq (v : Int) : x.addSample v = x.sampled v := by
  have square : v.natAbs * v.natAbs = v.natAbs ^ 2 := (Nat.pow_two _).symm
  have ends : (x.clipped || decide (v = -2048) || decide (v = 2047)) = (x.clipped || decide (v = -2048 ∨ v = 2047)) := by
    rw [Bool.or_assoc, ← Bool.decide_or]
  rw [Session.addSample, square, ends]
  rfl

theorem converterSample_eq (session : s.test.session = some x) (measure : x.phase = .measure) (present : x.present = some m) :
    converterSample value s = if 99 ≤ x.window then windowEnd (s.setSession (some (x.sampled (convertTest value))))
      else s.setSession (some (x.sampled (convertTest value))) := by
  have full : (100 ≤ x.window + 1) = (99 ≤ x.window) := propext ⟨Nat.le_of_succ_le_succ, Nat.succ_le_succ⟩
  unfold converterSample
  rw [session]
  dsimp only
  rw [measure, present]
  dsimp only
  rw [addSample_eq]
  change (if 100 ≤ x.window + 1 then _ else _) = _
  simp only [full]

/-! ## The end of a window -/

theorem windowEnd_lower (session : s.test.session = some x) (measure : x.phase = .measure) (present : x.present = some m)
    (clipped : x.clipped = true) (lower : x.gain.lower = some g) :
    windowEnd s = s.setSession (some { x.newWindow with gain := g }) := by
  unfold windowEnd
  rw [session]
  dsimp only
  rw [measure, present]
  dsimp only
  rw [clipped, lower]

theorem windowEnd_completes (session : s.test.session = some x) (measure : x.phase = .measure)
    (present : x.present = some m) (full : x.clipped = false ∨ x.gain = .x1) : windowEnd s = completeWindow x m s := by
  unfold windowEnd
  rw [session]
  dsimp only
  rw [measure, present]
  dsimp only
  split
  · next clipped lower =>
    rcases full with clear | last
    · exact nomatch clear.symm.trans clipped
    · rw [last] at lower
      exact nomatch lower
  · rfl

/-! ## What follows a window -/

theorem testTarget_otherLines {l : Line} {k : FeedMode} : OtherLines l s (testTarget l k s) := setFeed_otherLines

theorem nextMeasurement_otherLines : OtherLines x.line s (nextMeasurement x s) := by
  have targeted {k : FeedMode} {v : State} : OtherLines x.line v (testTarget x.line k v) := testTarget_otherLines
  have tested {w : TestUnit} {v : State} : OtherLines x.line v (v.setTest w) := .ofSameBut setTest_sameBut (by decide)
  unfold nextMeasurement
  split
  · exact (tested.trans targeted).trans tested
  · split
    · exact targeted.trans tested
    · unfold toMeasure
      dsimp only
      split
      · exact targeted.trans tested
      · exact targeted.trans tested

/-- What follows a window writes nothing into the result record but the verdict. -/
theorem nextMeasurement_result : ∃ v, (nextMeasurement x s).test.result = { s.test.result with verdict := v } := by
  unfold nextMeasurement
  split
  · exact ⟨_, rfl⟩
  · split
    · exact ⟨_, rfl⟩
    · unfold toMeasure
      dsimp only
      split <;> exact ⟨_, rfl⟩

theorem nextMeasurement_last (last : x.remaining = []) :
    nextMeasurement x s = s.tested x.line (s.feed[x.line].take .openLoop)
      { session := some { x.newWindow with
          phase := .disconnect, present := none, lookCount := 0, timer := some 50, ending := .none }
        result := { s.test.result with verdict := some (verdictOf s.test.result) }, relay := none, source := false } := by
  unfold nextMeasurement
  rw [last]
  rfl

/-- The session and the Test Unit when a window has been completed. -/
def Session.completed (x : Session) : Session := { x with remaining := x.remaining.tail, present := none }

def State.windowWritten (s : State) (x : Session) (m : Measurement) : State :=
  s.setTest { s.test with result := s.test.result.write m x, source := false }

theorem completeWindow_eq : completeWindow x m s = nextMeasurement x.completed (s.windowWritten x m) := rfl

theorem windowWritten_sameBut : SameBut [.test] s (s.windowWritten x m) := setTest_sameBut

theorem completeWindow_sameBut' : SameBut [.feed, .test] s (completeWindow x m s) :=
  SameBut.then (.mono (by decide) windowWritten_sameBut) (nextMeasurement_sameBut (x := x.completed)) (by decide)

theorem completeWindow_otherLines : OtherLines x.line s (completeWindow x m s) :=
  OtherLines.trans (.ofSameBut windowWritten_sameBut (by decide)) (nextMeasurement_otherLines (x := x.completed))

end

/-- Settles O41: by the window's end, the gain and what remains to be measured. -/
theorem windowsRangeDown : Obligations.WindowsRangeDown := by
  intro s x m session measure present
  refine ⟨fun value => ?_, fun clipped ranged => ?_, fun full => ?_⟩
  · intro v after
    have converted := converterSample_eq (value := value) session measure present
    refine ⟨fun short => ⟨_, rfl, ?_⟩, fun long => ?_⟩
    · rw [if_neg (by omega)] at converted
      have test : (event (converterSample value) s).test = after := by
        rw [event_test, converted]
        rfl
      exact ⟨SameBut.event (converted ▸ .mono (by decide) setTest_sameBut) (by decide), test⟩
    · rw [if_pos long] at converted
      have ran : event (converterSample value) s = event windowEnd { s with test := after } := by
        have busy : s.test.session.isNone = false := by
          rw [session]
          rfl
        refine event_of_same converted rfl ?_
        rw [State.quietCondition, State.quietCondition, busy]
        rfl
      exact congrArg Host.Outcome.next ran
  · obtain ⟨g, lower, below⟩ : ∃ g, x.gain.lower = some g ∧ g = (match x.gain with
        | .x25 => .x5
        | _ => .x1) := by
      cases gain : x.gain with
      | x25 => exact ⟨.x5, rfl, rfl⟩
      | x5 => exact ⟨.x1, rfl, rfl⟩
      | x1 => exact absurd gain ranged
    have ended := windowEnd_lower session measure present clipped lower
    have test : (event windowEnd s).test = { s.test with session := some { x.newWindow with gain := g } } := by
      rw [event_test, ended]
      rfl
    rw [below] at test
    exact ⟨_, rfl, SameBut.event (ended ▸ .mono (by decide) setTest_sameBut) (by decide), test⟩
  · have ended := windowEnd_completes session measure present full
    refine ⟨_, rfl, SameBut.event (ended ▸ .mono (by decide) completeWindow_sameBut') (by decide),
      OtherLines.event (ended ▸ completeWindow_otherLines), ?_⟩
    rw [event_test, event_feed, ended, completeWindow_eq]
    have written {α : Type} (field : ResultRecord → α) (plain : ∀ r v, field { r with verdict := v } = field r) :
        field (nextMeasurement x.completed (s.windowWritten x m)).test.result = field (s.test.result.write m x) := by
      obtain ⟨verdict, result⟩ := nextMeasurement_result (x := x.completed) (s := s.windowWritten x m)
      rw [result]
      exact plain _ _
    refine ⟨?_, ?_, ?_, ?_, ?_, ?_, ?_, ?_, ?_, fun n rest more steady there => ?_, fun last => ?_⟩
    · exact (written (fun r => r.line) fun _ _ => rfl).trans (by cases m <;> rfl)
    · exact (written (fun r => r.mode) fun _ _ => rfl).trans (by cases m <;> rfl)
    · exact (written (fun r => r.status) fun _ _ => rfl).trans (by cases m <;> rfl)
    · rintro rfl
      exact written (fun r => r.dc) fun _ _ => rfl
    · rintro rfl
      exact written (fun r => r.ac) fun _ _ => rfl
    · rintro rfl
      exact written (fun r => r.leakage) fun _ _ => rfl
    · refine fun other => (written (fun r => r.dc) fun _ _ => rfl).trans ?_
      revert other
      cases m <;> intro other
      · exact absurd rfl other
      · rfl
      · rfl
    · refine fun other => (written (fun r => r.ac) fun _ _ => rfl).trans ?_
      revert other
      cases m <;> intro other
      · rfl
      · exact absurd rfl other
      · rfl
    · refine fun other => (written (fun r => r.leakage) fun _ _ => rfl).trans ?_
      revert other
      cases m <;> intro other
      · rfl
      · rfl
      · exact absurd rfl other
    · have next : x.completed.remaining = n :: rest := more
      have away : (s.windowWritten x m).feed[x.completed.line].current ≠ .standby := by
        have current : (s.windowWritten x m).feed[x.completed.line].current = .openLoop := there
        rw [current]
        nofun
      have verdict : (s.test.result.write m x).verdict = s.test.result.verdict := by cases m <;> rfl
      have completed : x.completed = { x with remaining := n :: rest, present := none } := by
        rw [Session.completed, more]
      have modes : x.mode = .courteous ∨ x.mode = .forced := by cases x.mode <;> decide
      rcases modes with mode | mode
      · have unforced : x.mode ≠ .forced := by rw [mode]; nofun
        rw [nextMeasurement_courteous next (by exact mode), startLook_away (by exact steady) away, completed]
        exact ⟨rfl, verdict, fun _ => ⟨tested_feed, rfl, rfl⟩, fun forced => absurd forced unforced⟩
      · have rough : x.mode ≠ .courteous := by rw [mode]; nofun
        rw [nextMeasurement_forced next (by exact mode), toMeasure_open (by exact steady) (by exact there), completed]
        exact ⟨rfl, verdict, fun courteous => absurd courteous rough, fun _ => ⟨tested_feed, rfl, rfl⟩⟩
    · rw [nextMeasurement_last (x := x.completed) last]
      exact ⟨rfl, rfl, rfl, tested_feed, _, rfl, rfl, rfl, rfl⟩

end Sys2Proof.Machine
end

section
/-! Chapter 8, section 8.4: the figures of the measurements and the verdict. -/

namespace Sys2Proof.Machine

section
variable {n : Int} {r : ResultRecord} {g : Gain}

/-- The quotient by 100 is the nearest integer, halves away from zero. -/
theorem roundDiv_nearest (n : Int) : -100 ≤ 2 * n - 200 * roundDiv n 100 ∧ 2 * n - 200 * roundDiv n 100 ≤ 100 ∧
    (2 * n - 200 * roundDiv n 100 = 100 → n < 0) ∧ (2 * n - 200 * roundDiv n 100 = -100 → 0 < n) := by
  unfold roundDiv
  dsimp only
  split
  · omega
  · omega

/-! ## The square root -/

/-- Each step keeps the root below the weight that is left, and the last leaves it within 1. -/
theorem isqrtFrom_root {n bits root : Nat} (low : root ^ 2 ≤ n) (high : n < (root + 2 ^ (bits + 1)) ^ 2) :
    isqrtFrom n bits root ^ 2 ≤ n ∧ n < (isqrtFrom n bits root + 1) ^ 2 := by
  induction bits generalizing root with
  | zero =>
    unfold isqrtFrom
    split
    · next fits => exact ⟨(Nat.pow_two _).symm ▸ fits, high⟩
    · next large => exact ⟨low, (Nat.pow_two (root + 1)).symm ▸ Nat.lt_of_not_le large⟩
  | succ bits ih =>
    unfold isqrtFrom
    split
    · next fits =>
      refine ih ((Nat.pow_two _).symm ▸ fits) ?_
      rwa [Nat.add_assoc, ← Nat.two_mul, ← Nat.pow_succ']
    · next large => exact ih low ((Nat.pow_two (root + 2 ^ (bits + 1))).symm ▸ Nat.lt_of_not_le large)

theorem isqrt_root (n : Nat) : isqrt n ^ 2 ≤ n ∧ n < (isqrt n + 1) ^ 2 := by
  refine isqrtFrom_root (Nat.zero_le n) ?_
  have weight : n.log2 + 1 ≤ (n.log2 / 2 + 1) * 2 := by omega
  calc n < 2 ^ (n.log2 + 1) := Nat.lt_log2_self
    _ ≤ 2 ^ ((n.log2 / 2 + 1) * 2) := Nat.pow_le_pow_right (by decide) weight
    _ = (0 + 2 ^ (n.log2 / 2 + 1)) ^ 2 := by rw [Nat.zero_add, Nat.pow_mul]

/-! ## The verdict (R145) -/

theorem hazard_iff {e : VoltageEntry} {limit : Nat} :
    e.hazard limit = true ↔ limit < e.value.natAbs ∨ e.overRange = true := by
  simp [VoltageEntry.hazard]

theorem any_iff {α : Type} {o : Option α} {p : α → Bool} : o.any p = true ↔ ∃ e, o = some e ∧ p e = true := by
  cases o <;> simp

end

/-- Settles O42: the quotients and the root by what they satisfy, the verdict by its two tests. -/
theorem measurementsAndVerdict : Obligations.MeasurementsAndVerdict := by
  refine ⟨?_, ?_⟩
  · intro g sum squares q qI nearest
    have voltage : ((g.voltage : Nat) : Int) = q := by cases g <;> rfl
    have current : ((g.current : Nat) : Int) = qI := by cases g <;> rfl
    refine ⟨?_, ?_, fun positive => ?_, fun i => ⟨fun flows => ?_, fun dry => if_neg (by omega)⟩⟩
    · rw [dcResult, voltage]
      exact roundDiv_nearest (q * sum)
    · rw [leakageCurrent, current]
      exact roundDiv_nearest (qI * sum)
    · obtain ⟨low, high⟩ := isqrt_root (((100 * squares : Nat) : Int) - sum * sum).toNat
      have square : (((((100 * squares : Nat) : Int) - sum * sum).toNat : Nat) : Int) = 100 * squares - sum * sum := by
        rw [Int.toNat_of_nonneg] <;> push_cast <;> omega
      refine ⟨isqrt (((100 * squares : Nat) : Int) - sum * sum).toNat, ?_, ?_, ?_⟩
      · rw [← square]
        exact Int.ofNat_le.mpr low
      · rw [← square]
        exact Int.ofNat_lt.mpr high
      · rw [← voltage]
        exact (Int.toNat_natCast _).symm
    · rw [leakageResistance, if_pos flows]
      have same : (50000 / i).toNat = 50000 / i.toNat := by
        obtain ⟨k, rfl⟩ := Int.eq_ofNat_of_zero_le (show 0 ≤ i by omega)
        exact Int.toNat_natCast (50000 / k)
      rw [same]
  · intro r hazard leaky
    have hazards : (r.dc.any (fun e => e.hazard 10000) || r.ac.any (fun e => e.hazard 25000)) = true ↔ hazard := by
      rw [Bool.or_eq_true, any_iff, any_iff]
      simp only [hazard_iff]
      exact Iff.rfl
    have leaks : r.leakage.any (fun e => decide (e.resistance < 100)) = true ↔ leaky := by
      rw [any_iff]
      simp only [decide_eq_true_eq]
      exact Iff.rfl
    unfold verdictOf
    refine ⟨fun yes => if_pos (hazards.mpr yes), fun no leak => ?_, fun no tight => ?_⟩
    · rw [if_neg (fun yes => no (hazards.mp yes)), if_pos (leaks.mpr leak)]
    · rw [if_neg (fun yes => no (hazards.mp yes)), if_neg (fun leak => tight (leaks.mp leak))]

end Sys2Proof.Machine
end

section
/-! Chapter 8, section 8.5: a session is cut short or ends, and its line is handed back. -/

namespace Sys2Proof.Machine

/-- The parts of the state that the return of the line under test may change. -/
def returnParts : List Part := [.sup, .brk, .feed, .call, .arbiter, .reports]

/-- The line has been returned, with the target `k` set by the Call Handler. -/
structure Returned (l : Line) (k : FeedMode) (w v : State) : Prop where
  frame : SameBut returnParts w v
  others : OtherLines l w v
  feed : v.feed[l] = w.feed[l].callTarget k

section
variable {s t v w : State} {l : Line} {k j : FeedMode} {x : Session} {e : EndingStatus} {y : Option Verdict}
  {prior : CallState} {n : CallRecord}

theorem callTarget_line : (callTarget l k s).feed[l] = s.feed[l].callTarget k := (set_get ..).trans (if_pos rfl)

theorem enter_unrung_sameBut (unrung : w.call[l].state ≠ .ringing) : SameBut returnParts w (enter l n w) := by
  rw [enter_frame_unrung unrung]
  simp [sameBut_iff, returnParts]

/-- The line enters a state and is given the target that goes with it. -/
theorem returned_enter (unrung : w.call[l].state ≠ .ringing) : Returned l k w (callTarget l k (enter l n w)) where
  frame := SameBut.then (enter_unrung_sameBut unrung) callTarget_sameBut (by decide)
  others := enter_otherLines.trans callTarget_otherLines
  feed := by
    have feed : (enter l n w).feed = w.feed := enter_sameBut .feed (by decide)
    rw [callTarget_line, feed]

theorem enter_record : (callTarget l k (enter l n w)).call[l] = n.entering w.call[l] := by
  have call : (callTarget l k (enter l n w)).call = (enter l n w).call := callTarget_sameBut .call (by decide)
  rw [call, enter_get, if_pos rfl]

theorem enter_rest : (callTarget l k (enter l n w)).sup = w.sup ∧ (callTarget l k (enter l n w)).reports = w.reports := by
  have frame : SameBut [.call, .brk, .arbiter, .ringer, .feed] w (callTarget l k (enter l n w)) :=
    SameBut.then (.mono (by decide) enter_sameBut) callTarget_sameBut (by decide)
  exact ⟨frame .sup (by decide), frame .reports (by decide)⟩

/-- The line enters a state with the target that goes with it. -/
theorem entered (unrung : w.call[l].state ≠ .ringing) : Returned l k w (callTarget l k (enter l n w)) ∧
    (callTarget l k (enter l n w)).sup = w.sup ∧ (callTarget l k (enter l n w)).call[l] = n.entering w.call[l] ∧
    (callTarget l k (enter l n w)).reports = w.reports :=
  ⟨returned_enter unrung, enter_rest.1, enter_record, enter_rest.2⟩

theorem returned_toDisabled (unrung : w.call[l].state ≠ .ringing) : Returned l .openLoop w (toDisabled l w) ∧
    (toDisabled l w).sup[l] = {} ∧ (toDisabled l w).call[l] = { state := .disabled } ∧
    (toDisabled l w).reports = w.reports := by
  have entered : SameBut returnParts w (enter l { state := .disabled } w) := enter_unrung_sameBut unrung
  have feed : (enter l { state := .disabled } w).feed = w.feed := enter_sameBut .feed (by decide)
  have call : (toDisabled l w).call = (enter l { state := .disabled } w).call := rfl
  refine ⟨⟨?_, ?_, ?_⟩, State.setSup_get .., ?_, ?_⟩
  · exact SameBut.then (SameBut.then entered setSup_sameBut (by decide)) callTarget_sameBut (by decide)
  · exact (enter_otherLines.trans setSup_otherLines).trans callTarget_otherLines
  · rw [toDisabled, callTarget_line]
    exact congrArg (fun y : Vector Feed 32 => y[l].callTarget .openLoop) feed
  · rw [call, enter_get, if_pos rfl]
    rfl
  · exact enter_sameBut (n := { state := .disabled }) (s := w) .reports (by decide)

/-- Without the cure of a foreign voltage and without a hazard the line returns to its prior state. -/
theorem returnLine_prior (state : w.call[l].prior = some prior) (harmless : ¬(e = .none ∧ y = some .hazard))
    (uncured : ¬(e = .none ∧ y = some .clean ∧ prior = .faulted ∧ w.call[l].fault = some .foreignVoltage)) :
    returnLine l e y w = returnPrior l prior w := by
  unfold returnLine
  dsimp only
  rw [state, Option.getD_some]
  split
  · exact absurd ⟨rfl, rfl⟩ harmless
  · exact if_neg fun cure => uncured ⟨rfl, rfl, cure⟩
  · rfl

theorem returnLine_hazard (state : w.call[l].prior = some prior) (enabled : prior ≠ .disabled) :
    returnLine l .none (some .hazard) w = faultEntry l .foreignVoltage w := by
  unfold returnLine
  dsimp only
  rw [state, Option.getD_some]
  split
  · exact absurd rfl enabled
  · rfl

theorem returnLine_disabled (state : w.call[l].prior = some .disabled) : returnLine l e y w = toDisabled l w := by
  by_cases hazard : e = .none ∧ y = some .hazard
  · obtain ⟨rfl, rfl⟩ := hazard
    unfold returnLine
    dsimp only
    rw [state]
    rfl
  · exact returnLine_prior state hazard fun cure => nomatch cure.2.2.1

theorem returnLine_cured (state : w.call[l].prior = some .faulted) (fault : w.call[l].fault = some .foreignVoltage) :
    returnLine l .none (some .clean) w =
      match w.sup[l].hook with
      | .offHook => offHookHandling l (goIdle l (w.report true { kind := .faultCleared, line := some l }))
      | .onHook => goIdle l (w.report true { kind := .faultCleared, line := some l }) := by
  have sup : (goIdle l (w.report true { kind := .faultCleared, line := some l })).sup = w.sup :=
    Eq.trans (goIdle_sameBut .sup (by decide)) rfl
  unfold returnLine
  dsimp only
  rw [state, Option.getD_some, if_pos ⟨rfl, fault⟩, sup] <;> cases w.sup[l].hook <;> rfl

/-- A line without a bearer becomes Faulted for a foreign voltage. -/
theorem faultEntry_voltage (unnamed : w.call[l].bearer = none) : faultEntry l .foreignVoltage w =
    callTarget l .openLoop (enter l { state := .faulted, fault := some .foreignVoltage }
      (w.report true { kind := .fault, line := some l, value := some 2 })) := by
  have named {r : Report} : (w.report true r).call[l].bearer = none := unnamed
  rw [faultEntry, releaseUse_none named, unnamed]
  rfl

/-- The parts of a return that follows a report. -/
theorem Returned.reported {r : Report} {urgent : Bool} (h : Returned l k (w.report urgent r) v) : Returned l k w v where
  frame := SameBut.then (.mono (by decide) report_sameBut) h.frame (by decide)
  others := OtherLines.trans (.ofSameBut report_sameBut (by decide)) h.others
  feed := h.feed

theorem entered_reported {r : Report} {urgent : Bool} (unrung : w.call[l].state ≠ .ringing) :
    let v := callTarget l k (enter l n (w.report urgent r))
    Returned l k w v ∧ v.sup = w.sup ∧ v.call[l] = n.entering w.call[l] ∧ v.reports = w.reports.append urgent r := by
  obtain ⟨returned, sup, call, reports⟩ := entered (w := w.report urgent r) (k := k) (n := n) unrung
  exact ⟨returned.reported, sup, call, reports⟩

/-- A second target of the Call Handler replaces the first while the Test Unit has control. -/
theorem Returned.again (h : Returned l k w t) (g : Returned l j t v) (control : w.feed[l].control = .testUnit) :
    Returned l j w v where
  frame := SameBut.then h.frame g.frame (by decide)
  others := h.others.trans g.others
  feed := by
    rw [g.feed, h.feed, callTarget_testUnit control, callTarget_testUnit control]
    exact callTarget_testUnit control

theorem idled_reported {r : Report} {urgent : Bool} (unrung : w.call[l].state ≠ .ringing) :
    let v := goIdle l (w.report urgent r)
    Returned l .standby w v ∧ v.sup = w.sup ∧ v.call[l] = { state := .idle } ∧ v.reports = w.reports.append urgent r :=
  entered_reported unrung

theorem eligible_congr {c : Machine.Class} {b : Bearer} (bearers : t.bearers = s.bearers) (tables : t.tables = s.tables)
    (supply : t.supply = s.supply) (isolated : t.monitor.isolated = s.monitor.isolated) :
    t.eligible c b = s.eligible c b := by
  unfold State.eligible State.bearer
  rw [bearers, tables, supply, isolated]

/-! ## The session ends (R146) -/

/-- The state in which the session has ended and the line is to be returned. -/
def State.sessionEnded (s : State) (x : Session) : State := { s with
  test := { s.test with session := none, result := { s.test.result with status := x.ending.result } }
  reports := s.reports.append (s.urgentFor x.line)
    { kind := .testDone, line := some x.line, value := some x.ending.code }
  sup := s.sup.set x.line
    { s.sup[x.line] with hookCount := 0, overCount := 0, foreignCount := 0, ringTripCount := 0 } }

theorem disconnectExpiry_eq (session : s.test.session = some x) (phase : x.phase = .disconnect) (timed : x.timer ≠ none)
    (steady : s.feed[x.line].settling = false) (there : s.feed[x.line].current = .openLoop) :
    disconnectExpiry s = handback x.line (returnLine x.line x.ending s.test.result.verdict (s.sessionEnded x)) := by
  have finished : finishDisconnect { x with timer := none } (s.setSession (some { x with timer := none })) =
      endSession { x with timer := none } (s.setSession (some { x with timer := none })) :=
    finishDisconnect_open steady there
  unfold disconnectExpiry
  rw [session]
  dsimp only
  rw [if_pos ⟨phase, Option.isSome_iff_ne_none.mpr timed⟩, finished]
  rfl

/-- The session has ended and its line has been handed back by the event. -/
def SessionEnded (s : State) (x : Session) (t : State) : Prop :=
  exec .testDisconnectExpiry s = .next t ∧
    SameBut [.sup, .brk, .feed, .call, .arbiter, .test, .reports, .quietRun] s t ∧
    OtherLines x.line s t ∧ t.test.session = none ∧
    t.test.result =
      { s.test.result with
        status := match x.ending with
          | .none => .complete
          | .yielded => .yielded
          | .aborted => .aborted
          | .supply => .supply } ∧
    t.feed[x.line].control = .callSide ∧ t.feed[x.line].held = none

theorem sessionEnded_of (expired : disconnectExpiry s = handback x.line v)
    (returned : Returned x.line k (s.sessionEnded x) v) (control : s.feed[x.line].control = .testUnit)
    (unrung : k ≠ .ring) : SessionEnded s x (event disconnectExpiry s) ∧
      (event disconnectExpiry s).sup = v.sup ∧ (event disconnectExpiry s).call = v.call ∧
      (event disconnectExpiry s).feed[x.line].target = k ∧ (event disconnectExpiry s).reports = v.reports := by
  obtain ⟨callSide, held, target⟩ := handback_line returned.feed control unrung
  have ended : SameBut [.sup, .test, .reports] s (s.sessionEnded x) := by simp [sameBut_iff, State.sessionEnded]
  have endedOthers : OtherLines x.line s (s.sessionEnded x) := fun m ne => ⟨rfl, (set_get ..).trans (if_neg ne), rfl, rfl, rfl⟩
  have after : SameBut [.quietRun] (handback x.line v) (event disconnectExpiry s) := sameBut_event_of expired
  have back : SameBut [.feed] v (handback x.line v) := handback_sameBut
  have feed : (event disconnectExpiry s).feed = (handback x.line v).feed := after .feed (by decide)
  have test : (event disconnectExpiry s).test = (s.sessionEnded x).test :=
    Eq.trans (after .test (by decide)) (Eq.trans (back .test (by decide)) (returned.frame .test (by decide)))
  refine ⟨⟨rfl, ?_, ?_, ?_, ?_, ?_, ?_⟩, ?_, ?_, ?_, ?_⟩
  · exact SameBut.then (SameBut.then (SameBut.then (.mono (by decide) ended) returned.frame (by decide)) back (by decide))
      after (by decide)
  · exact ((endedOthers.trans returned.others).trans handback_otherLines).trans (.ofSameBut after (by decide))
  · rw [test]
    rfl
  · rw [test]
    cases ending : x.ending <;> simp only [State.sessionEnded, ending, EndingStatus.result]
  · rw [feed]
    exact callSide
  · rw [feed]
    exact held
  · exact Eq.trans (after .sup (by decide)) (back .sup (by decide))
  · exact Eq.trans (after .call (by decide)) (back .call (by decide))
  · rw [feed]
    exact target
  · exact Eq.trans (after .reports (by decide)) (back .reports (by decide))

end

section
variable {s u : State} {x : Session}

theorem beginDisconnect_eq {e : EndingStatus} : beginDisconnect x e s = s.tested x.line (s.feed[x.line].take .openLoop)
    { result := s.test.result, relay := none, source := false
      session := some
        { x with
          phase := .disconnect, present := none, window := 0, sum := 0, squares := 0, clipped := false
          lookCount := 0, timer := some 50, ending := e } } := rfl

theorem reqTestAbort_none (none : s.test.session = none) : reqTestAbort s = (s, .refused .wrongState) := by
  rw [reqTestAbort, none]

theorem reqTestAbort_some (session : s.test.session = some x) : reqTestAbort s =
    if x.phase = .disconnect then (s, .late) else (beginDisconnect x .aborted s, .accepted) := by
  rw [reqTestAbort, session]

/-- The lockout's tone by its phase and its cause (R95, R96). -/
theorem lockoutPath_eq {c : CallRecord} : c.lockoutPath = match c.phase, c.cause with
    | some .tone, some .preempted => .tone (if c.preemptionTone = none then .congestion else .preemption)
    | some .tone, some .isolated => .tone .isolation
    | some .tone, some _ => .tone .congestion
    | some .howler, _ => .tone .howler
    | _, _ => .none := by
  unfold CallRecord.lockoutPath
  cases c.phase with
  | none => rfl
  | some phase =>
    cases phase with
    | tone =>
      cases c.cause with
      | none => rfl
      | some cause =>
        cases cause with
        | preempted => cases c.preemptionTone <;> rfl
        | _ => rfl
    | _ => rfl

theorem lockoutFeed_eq {c : CallRecord} : c.lockoutFeed = if c.phase = some .parked then .standby else .active := by
  unfold CallRecord.lockoutFeed
  cases c.phase with
  | none => rfl
  | some phase => cases phase <;> rfl

theorem lockoutFeed_unrung {c : CallRecord} : c.lockoutFeed ≠ .ring := by
  rw [lockoutFeed_eq]
  split <;> nofun

end

/-- Settles O43: the session's end, then the line's return by its prior state and the verdict. -/
theorem sessionEnds : Obligations.SessionEnds := by
  refine ⟨fun s h free => ?_, fun s x session => ?_⟩
  · exact ⟨_, rfl, unit_answers h (reqTestAbort_none (by rw [atRequest_test]; exact free))⟩
  · intro u
    have held : u.test.session = some x := (congrArg TestUnit.session atRequest_test).trans session
    refine ⟨fun h before => ?_, fun h during => ?_, ?_⟩
    · have answer : reqTestAbort u = (beginDisconnect x .aborted u, .accepted) :=
        (reqTestAbort_some held).trans (if_neg before)
      rw [beginDisconnect_eq] at answer
      obtain ⟨t, next, frame, replied⟩ := unit_runs (i := .testAbort .unit) rfl h answer rfl
      have feed : t.feed[x.line] = u.feed[x.line].take .openLoop :=
        (congrArg (fun y : Vector Feed 32 => y[x.line]) (frame .feed (by decide))).trans tested_feed
      have test : t.test = _ := frame .test (by decide)
      refine ⟨t, next, SameBut.then (.mono (by decide) tested_sameBut) frame (by decide),
        unit_otherLines frame tested_others, replied, ?_, ?_⟩
      · rw [feed]
        exact congrArg (fun y : Vector Feed 32 => y[x.line].take .openLoop) atRequest_feed
      · rw [test]
        exact congrArg (fun y : TestUnit => TestUnit.mk _ y.result none false) atRequest_test
    · exact ⟨_, rfl, unit_answers h ((reqTestAbort_some held).trans (if_pos during))⟩
    · intro prior state _ phase timed testing unnamed steady there control c hazard cured done cleared counts ended gives
      have expired := disconnectExpiry_eq session phase timed steady there
      have unrung : (s.sessionEnded x).call[x.line].state ≠ .ringing := by
        have now : (s.sessionEnded x).call[x.line].state = .testing := testing
        rw [now]
        nofun
      have sup : (s.sessionEnded x).sup[x.line] = counts := (set_get ..).trans (if_pos rfl)
      have gives_of {v : State} {k : FeedMode} {call : CallRecord} {reports : Reports} {y : Supervision}
          (same : returnLine x.line x.ending s.test.result.verdict (s.sessionEnded x) = v)
          (returned : Returned x.line k (s.sessionEnded x) v) (line : k ≠ .ring) (supNow : v.sup[x.line] = y)
          (callNow : v.call[x.line] = call) (reportsNow : v.reports = reports) : gives y call k reports := by
        rw [same] at expired
        obtain ⟨done, sup, call, target, reports⟩ := sessionEnded_of expired returned control line
        refine ⟨_, done, ?_, ?_, target, reports.trans reportsNow⟩
        · rw [sup, supNow]
        · rw [call, callNow]
      have prior_of (harmless : ¬hazard) (uncured : ¬cured) :
          returnLine x.line x.ending s.test.result.verdict (s.sessionEnded x) = returnPrior x.line prior (s.sessionEnded x) :=
        returnLine_prior (w := s.sessionEnded x) state harmless uncured
      have cleared_of (cure : cured) : returnLine x.line x.ending s.test.result.verdict (s.sessionEnded x) =
          match (s.sessionEnded x).sup[x.line].hook with
          | .offHook => offHookHandling x.line
              (goIdle x.line ((s.sessionEnded x).report true { kind := .faultCleared, line := some x.line }))
          | .onHook => goIdle x.line ((s.sessionEnded x).report true { kind := .faultCleared, line := some x.line }) := by
        obtain ⟨ending, verdict, faulted, fault⟩ := cure
        rw [ending, verdict]
        exact returnLine_cured (w := s.sessionEnded x) (faulted ▸ state) fault
      have hook : (s.sessionEnded x).sup[x.line].hook = s.sup[x.line].hook := by rw [sup]
      refine ⟨fun off => ?_, fun enabled harm => ?_, fun idle harmless => ?_, fun lockout harmless => ?_,
        fun faulted harmless uncured => ?_, fun cure onHook => ?_, fun cure offHook idles => ?_⟩
      · obtain ⟨returned, fresh, call, reports⟩ := returned_toDisabled (w := s.sessionEnded x) unrung
        exact gives_of (returnLine_disabled (w := s.sessionEnded x) (off ▸ state)) returned (by decide) fresh call reports
      · have faults := (returnLine_hazard (w := s.sessionEnded x) state enabled).trans
          (faultEntry_voltage (w := s.sessionEnded x) unnamed)
        rw [← harm.1, ← harm.2] at faults
        obtain ⟨returned, supNow, call, reports⟩ := entered_reported (k := .openLoop)
          (n := { state := .faulted, fault := some .foreignVoltage }) (urgent := true)
          (r := { kind := .fault, line := some x.line, value := some 2 }) unrung
        exact gives_of faults returned (by decide) ((congrArg (fun y : Vector Supervision 32 => y[x.line]) supNow).trans sup)
          call reports
      · obtain ⟨returned, supNow, call, reports⟩ := entered (k := .standby) (n := { state := .idle }) unrung
        refine gives_of ((prior_of harmless fun cure => ?_).trans (by rw [idle]; rfl)) returned (by decide)
          ((congrArg (fun y : Vector Supervision 32 => y[x.line]) supNow).trans sup) call reports
        exact nomatch idle.symm.trans cure.2.2.1
      · obtain ⟨returned, supNow, call, reports⟩ := entered (k := c.lockoutFeed)
          (n := { c with state := .lockout, path := c.lockoutPath, prior := none }) unrung
        rw [← lockoutFeed_eq]
        refine gives_of ((prior_of harmless fun cure => ?_).trans (by rw [lockout]; rfl)) returned lockoutFeed_unrung
          ((congrArg (fun y : Vector Supervision 32 => y[x.line]) supNow).trans sup)
          (call.trans (congrArg (fun path : Path =>
            { c with state := .lockout, path := path, prior := none, early := [], lost := false }) lockoutPath_eq)) reports
        exact nomatch lockout.symm.trans cure.2.2.1
      · obtain ⟨returned, supNow, call, reports⟩ := entered (k := .openLoop)
          (n := { c with state := .faulted, path := .none, prior := none }) unrung
        exact gives_of ((prior_of harmless uncured).trans (by rw [faulted]; rfl)) returned (by decide)
          ((congrArg (fun y : Vector Supervision 32 => y[x.line]) supNow).trans sup) call reports
      · obtain ⟨returned, supNow, call, reports⟩ := idled_reported (urgent := true)
          (r := { kind := .faultCleared, line := some x.line }) unrung
        refine gives_of ((cleared_of cure).trans ?_) returned (by decide)
          ((congrArg (fun y : Vector Supervision 32 => y[x.line]) supNow).trans sup) call reports
        rw [hook, onHook]
      · obtain ⟨idled, idledSup, idledCall, idledReports⟩ := idled_reported (urgent := true)
          (r := { kind := .faultCleared, line := some x.line }) unrung
        have handles := cleared_of cure
        rw [hook, offHook] at handles
        dsimp only at handles
        generalize goIdle x.line ((s.sessionEnded x).report true { kind := .faultCleared, line := some x.line }) = w
          at idled idledSup idledCall idledReports handles
        have ended : SameBut [.sup, .test, .reports] s (s.sessionEnded x) := by simp [sameBut_iff, State.sessionEnded]
        have start : SameBut (.test :: returnParts) s w := SameBut.then (.mono (by decide) ended) idled.frame (by decide)
        have monitor : w.monitor.isolated = s.monitor.isolated := congrArg (·.isolated) (start .watch (by decide))
        have tables : w.tables = s.tables := start .tables (by decide)
        have cls : w.classOf x.line = s.classOf x.line :=
          congrArg (fun y : Vector LineEntry 32 => y[x.line].cls) (start .entries (by decide))
        have eligible (b : Bearer) : w.eligible (w.classOf x.line) b = s.eligible (s.classOf x.line) b := by
          rw [cls]
          exact eligible_congr (start .bearers (by decide)) tables (start .supply (by decide)) monitor
        have idles : w.monitor.isolated = true ∨
            w.classOf x.line ≠ .priority ∧ ∀ b, w.eligible (w.classOf x.line) b = false := by
          rw [monitor]
          exact idles.imp_right fun ⟨lesser, barred⟩ =>
            ⟨fun now => lesser (cls.symm.trans now), fun b => (eligible b).trans (barred b)⟩
        obtain ⟨frame, others, feed, isolated, service⟩ := offHookHandling_idles (s := w) (l := x.line)
          (by rw [idledCall]; nofun) (by rw [idledCall]; rfl) (by rw [idledSup, hook, offHook]) idles
        rw [monitor] at isolated service
        rw [lockedOut_congr tables] at isolated
        rw [tables, idledCall] at service
        generalize offHookHandling x.line w = v at *
        have returned : Returned x.line .active (s.sessionEnded x) v :=
          idled.again ⟨.mono (by decide) frame, others, feed⟩ control
        obtain ⟨done, supThen, call, target, reports⟩ :=
          sessionEnded_of (expired.trans (congrArg (handback x.line) handles)) returned control (by decide)
        refine ⟨_, done, ?_, ?_, target, fun on => ?_, fun off => ?_⟩
        · rw [supThen, show v.sup = w.sup from frame .sup (by decide), idledSup, sup]
        · rw [reports, show v.reports = w.reports from frame .reports (by decide), idledReports]
          rfl
        · rw [call, isolated on]
        · rw [call, service off]

end Sys2Proof.Machine
end

section
/-! Chapter 11, section 11.7: the bytes of the query replies. -/

namespace Sys2Proof.Machine

section
variable {s : State} {l : Line} {b : Bearer} {o : Option Nat} {n : Nat} {i : Int} {v : Option VoltageEntry}
  {e : Option LeakageEntry}

/-! ## Numbers of two and of four bytes -/

theorem wordBytes_ofNat : wordBytes (BitVec.ofNat 16 n) = [BitVec.ofNat 8 (n / 256), BitVec.ofNat 8 n] := by
  have high : (BitVec.ofNat 16 n).extractLsb' 8 8 = BitVec.ofNat 8 (n / 256) := by
    refine BitVec.eq_of_toNat_eq ?_
    simp only [BitVec.extractLsb'_toNat, BitVec.toNat_ofNat, Nat.shiftRight_eq_div_pow]
    omega
  have low : (BitVec.ofNat 16 n).extractLsb' 0 8 = BitVec.ofNat 8 n := by
    refine BitVec.eq_of_toNat_eq ?_
    simp only [BitVec.extractLsb'_toNat, BitVec.toNat_ofNat, Nat.shiftRight_eq_div_pow]
    omega
  rw [wordBytes, high, low]

theorem wordBytes_toNat (w : Word16) : wordBytes w = [BitVec.ofNat 8 (w.toNat / 256), BitVec.ofNat 8 w.toNat] := by
  rw [← wordBytes_ofNat, BitVec.ofNat_toNat, BitVec.setWidth_eq]

theorem optWordBytes_eq :
    optWordBytes o = [BitVec.ofNat 8 (o.getD 65535 / 256), BitVec.ofNat 8 (o.getD 65535)] := wordBytes_ofNat

theorem optWordBytes_units {size : Nat} {time : Option Nat} (some : 0 < size) :
    optWordBytes (time.map (ceilUnits size)) =
      [BitVec.ofNat 8 ((time.map fun n => (n + (size - 1)) / size).getD 65535 / 256),
        BitVec.ofNat 8 ((time.map fun n => (n + (size - 1)) / size).getD 65535)] := by
  have units : ceilUnits size = fun n => (n + (size - 1)) / size := funext fun n => by rw [ceilUnits, Nat.add_sub_assoc some]
  rw [units, optWordBytes_eq]

theorem ofInt_eq {w : Nat} : BitVec.ofInt w i = BitVec.ofNat w (i % (2 ^ w : Nat)).toNat := by
  refine BitVec.eq_of_toNat_eq ?_
  rw [BitVec.toNat_ofInt, BitVec.toNat_ofNat, Nat.mod_eq_of_lt]
  have positive : 0 < 2 ^ w := Nat.two_pow_pos w
  have small := Int.emod_lt_of_pos i (Int.natCast_pos.mpr positive)
  omega

theorem int16Bytes_eq : int16Bytes i =
    [BitVec.ofNat 8 ((i % 65536).toNat / 256), BitVec.ofNat 8 (i % 65536).toNat] := by
  rw [int16Bytes, ofInt_eq, wordBytes_ofNat]
  rfl

theorem extract_ofNat {k : Nat} (small : n < 2 ^ 32) :
    (BitVec.ofNat 32 n).extractLsb' k 8 = BitVec.ofNat 8 (n / 2 ^ k) := by
  refine BitVec.eq_of_toNat_eq ?_
  rw [BitVec.extractLsb'_toNat, BitVec.toNat_ofNat, Nat.mod_eq_of_lt small, BitVec.toNat_ofNat, Nat.shiftRight_eq_div_pow]

theorem int32Bytes_eq : int32Bytes i =
    let n := (i % 4294967296).toNat
    [BitVec.ofNat 8 (n / 16777216), BitVec.ofNat 8 (n / 65536), BitVec.ofNat 8 (n / 256), BitVec.ofNat 8 n] := by
  have small : (i % (2 ^ 32 : Nat)).toNat < 2 ^ 32 := by omega
  unfold int32Bytes
  dsimp only
  rw [ofInt_eq, extract_ofNat small, extract_ofNat small, extract_ofNat small, extract_ofNat small, Nat.pow_zero, Nat.div_one]
  rfl

theorem thresholds_bytes {th : Thresholds} : th.bytes =
    [BitVec.ofNat 8 (th.criticalEnter.toNat / 256), BitVec.ofNat 8 th.criticalEnter.toNat] ++
    [BitVec.ofNat 8 (th.criticalExit.toNat / 256), BitVec.ofNat 8 th.criticalExit.toNat] ++
    [BitVec.ofNat 8 (th.lowEnter.toNat / 256), BitVec.ofNat 8 th.lowEnter.toNat] ++
    [BitVec.ofNat 8 (th.lowExit.toNat / 256), BitVec.ofNat 8 th.lowExit.toNat] := by
  rw [Thresholds.bytes, wordBytes_toNat, wordBytes_toNat, wordBytes_toNat, wordBytes_toNat]

/-! ## What a query finds at its arrival -/

theorem atRequest_ringPlace : s.atRequest.ringPlace l = s.ringPlace l := by
  rw [State.ringPlace, atRequest_ringer] <;> rfl

theorem lineQueryBytes_atRequest : lineQueryBytes l s.atRequest = lineQueryBytes l s := by
  unfold lineQueryBytes
  rw [atRequest_call, atRequest_sup, atRequest_brk, atRequest_feed, atRequest_ringer, atRequest_ringPlace]

theorem bearerQueryBytes_atRequest : bearerQueryBytes b s.atRequest = bearerQueryBytes b s := by
  unfold bearerQueryBytes
  rw [atRequest_bearer, atRequest_bearers]

theorem unitBytes0_atRequest : unitBytes0 s.atRequest = unitBytes0 s := by
  unfold unitBytes0 State.waitList
  rw [atRequest_bearers, atRequest_arbiter]

theorem unitBytes1_atRequest : unitBytes1 s.atRequest = unitBytes1 s := by
  unfold unitBytes1
  rw [atRequest_ringer]

theorem atRequest_quiet : s.atRequest.monitor.quiet = s.monitor.quiet ∧
    s.atRequest.monitor.quietTimer = s.monitor.quietTimer := atRequest_sameBut s .quietRun (by decide)

theorem atRequest_armed : s.atRequest.monitor.armed = s.monitor.armed ∧
    s.atRequest.monitor.interval = s.monitor.interval ∧ s.atRequest.monitor.reference = s.monitor.reference := by
  have watch := atRequest_watch (s := s)
  exact ⟨congrArg (·.armed) watch, congrArg (·.interval) watch, congrArg (·.reference) watch⟩

/-! ## The layouts of 11, section 11.7 -/

theorem path_kind {p : Path} : byteOf p.kind = BitVec.ofNat 8 (match p with | .none => 0 | .bearer _ => 1 | .tone _ => 2) := by
  cases p <;> rfl

theorem path_argument {p : Path} : optByte p.argument =
    BitVec.ofNat 8 (match p with | .none => 255 | .bearer b => b.val | .tone k => k.code) := by
  cases p <;> rfl

theorem place_code {p : Option RingPlace} : optByte (p.map RingPlace.code) = BitVec.ofNat 8 (match p with
    | none => 255
    | some (.phase p) => p.val
    | some (.queue position) => 31 + position) := by
  rcases p with _ | p | position <;> rfl

theorem phases_bytes {p : Vector (List Line) 4} :
    p.toList.flatMap phaseBytes = phaseBytes p[0] ++ phaseBytes p[1] ++ phaseBytes p[2] ++ phaseBytes p[3] := by
  have four : p.toList = [p[0], p[1], p[2], p[3]] := by
    refine List.ext_getElem (by simp) fun i lt _ => ?_
    rw [Vector.length_toList] at lt
    match i, lt with
    | 0, _ | 1, _ | 2, _ | 3, _ => rfl
  rw [four, List.append_assoc, List.append_assoc]
  exact congrArg _ (congrArg _ (congrArg _ (List.append_nil _)))

theorem voltage_bytes : VoltageEntry.bytes v = match v with
    | some e =>
      [BitVec.ofNat 8 ((e.value % 4294967296).toNat / 16777216), BitVec.ofNat 8 ((e.value % 4294967296).toNat / 65536),
        BitVec.ofNat 8 ((e.value % 4294967296).toNat / 256), BitVec.ofNat 8 (e.value % 4294967296).toNat] ++
      [byteOf e.gain.code, boolByte e.overRange]
    | none => List.replicate 6 0 := by
  cases v with
  | none => rfl
  | some e => rw [VoltageEntry.bytes, int32Bytes_eq]

theorem leakage_bytes : LeakageEntry.bytes e = match e with
    | some e =>
      [BitVec.ofNat 8 ((e.current % 4294967296).toNat / 16777216), BitVec.ofNat 8 ((e.current % 4294967296).toNat / 65536),
        BitVec.ofNat 8 ((e.current % 4294967296).toNat / 256), BitVec.ofNat 8 (e.current % 4294967296).toNat] ++
      [BitVec.ofNat 8 (e.resistance / 256), BitVec.ofNat 8 e.resistance] ++ [byteOf e.gain.code, boolByte e.overRange]
    | none => List.replicate 8 0 := by
  cases e with
  | none => rfl
  | some e => rw [LeakageEntry.bytes, int32Bytes_eq, wordBytes_ofNat]

end

/-- Settles O53: each query's bytes, part by part of its layout, from the state that its frame finds. -/
theorem queriesAnswerAndChangeNothing : Obligations.QueriesAnswerAndChangeNothing := by
  refine ⟨fun s h => ?_, by decide⟩
  intro u answers one absent mark two units signed waiting phase th result voltage
  have data {q : Request} {bytes : List Byte} (same : q s.atRequest = (s.atRequest, .data bytes)) :
      SameBut [.bus] u (takeFrame .unit false q s) ∧ Replied (.data bytes) s (takeFrame .unit false q s) :=
    frame_answers h same
  refine ⟨fun l => ?_, fun b => ?_, ?_, ?_, ?_, ?_, fun hi lo reference => ?_, ?_, fun n high => ?_⟩
  · intro c
    refine ⟨_, rfl, data ?_⟩
    rw [reqLineQuery, onLine_ofNat]
    refine congrArg (fun x => (u, Reply.data x)) (lineQueryBytes_atRequest.trans ?_)
    unfold lineQueryBytes
    dsimp only
    rw [path_kind, path_argument, place_code, int16Bytes_eq,
      show s.call[l].timer.map (fun k => ceilUnits 100 k.left) = (s.call[l].timer.map LineTimer.left).map (ceilUnits 100)
        from by rw [Option.map_map]; rfl, optWordBytes_units (by decide)]
    rfl
  · intro r
    refine ⟨_, rfl, data ?_⟩
    rw [reqBearerQuery, onBearer_ofNat]
    refine congrArg (fun x => (u, Reply.data x)) (bearerQueryBytes_atRequest.trans ?_)
    unfold bearerQueryBytes
    dsimp only
    by_cases engaged : b ∈ s.bearers.connection
    · rw [if_pos engaged, if_pos engaged]
      rfl
    · rw [if_neg engaged, if_neg engaged]
      rfl
  · refine ⟨_, rfl, data ?_⟩
    refine congrArg (fun x => (u, Reply.data x)) (unitBytes0_atRequest.trans ?_)
    unfold unitBytes0
    cases s.arbiter.handover <;> rfl
  · refine ⟨_, rfl, data ?_⟩
    refine congrArg (fun x => (u, Reply.data x)) (unitBytes1_atRequest.trans ?_)
    unfold unitBytes1
    rw [phases_bytes]
    cases s.ringer.wheel <;> simp [phaseBytes, phase, one, absent, lineByte, optByte, byteOf]
  · refine ⟨_, rfl, data (congrArg (fun x => (u, Reply.data x)) ?_)⟩
    obtain ⟨quiet, timer⟩ := atRequest_quiet (s := s)
    obtain ⟨armed, interval, _⟩ := atRequest_armed (s := s)
    unfold unitBytes2
    rw [quiet, timer, armed, interval, atRequest_supply, atRequest_tables, thresholds_bytes, optWordBytes_eq,
      optWordBytes_units (by decide), optWordBytes_units (by decide)]
    simp only [List.append_assoc]
    rfl
  · refine ⟨_, rfl, data ?_⟩
    refine congrArg (fun x => (u, Reply.data x)) ((congrArg resultBytes (congrArg TestUnit.result atRequest_test)).trans ?_)
    unfold resultBytes
    rw [voltage_bytes, voltage_bytes, leakage_bytes]
    simp only [Option.isSome_iff_ne_none]
    rfl
  · refine ⟨_, rfl, data ?_⟩
    refine congrArg (fun x => (u, Reply.data x)) ?_
    rw [atRequest_armed.2.2, reference]
    exact wordBytes_wordOf hi lo
  · exact ⟨_, rfl, frame_answers h rfl⟩
  · refine ⟨_, rfl, frame_answers h ?_⟩
    unfold reqUnitQuery
    split
    · omega
    · omega
    · omega
    · rfl

end Sys2Proof.Machine
end

section
/-! Chapter 10, sections 10.3 to 10.5: a reply's transmission and the ready mark. -/

namespace Sys2Proof.Machine

section
variable {s t u v : State} {r : Reply} {n : Nat} {x : Byte}

/-! ## The transmission of a reply (R167, R173) -/

theorem transmit_bus {payload : List Byte} : (transmit payload s).bus =
    { s.bus with
      assembly := {}, gap := none
      reception := if s.bus.reception = .none then .none else .ignored
      pending := .transmitting (frameBytes (replyAddress s.bus.address) payload)
        (bytesMs s.bus.rate (frameBytes (replyAddress s.bus.address) payload).length) } := by
  have reception : s.bus.reception.overrun = if s.bus.reception = .none then .none else .ignored := by
    cases s.bus.reception <;> rfl
  rw [← reception]
  rfl

theorem transmitStart_poll (waiting : s.bus.pending = .waiting .poll n) (window : 1 ≤ n) :
    transmitStart s = transmit s.reports.pollPayload (s.setReports s.reports.afterPoll) := by
  unfold transmitStart
  rw [waiting]
  exact if_pos (decide_eq_true window)

theorem transmitStart_other (waiting : s.bus.pending = .waiting r n) (other : r ≠ .poll) (window : 1 ≤ n) :
    transmitStart s = transmit r.payload s := by
  unfold transmitStart
  rw [waiting]
  cases r with
  | poll => exact absurd rfl other
  | _ => exact if_pos (decide_eq_true window)

theorem transmitStart_sends (waiting : s.bus.pending = .waiting r n) (window : 1 ≤ n) :
    (transmitStart s).transmitEnable = true := by
  by_cases poll : r = .poll
  · rw [transmitStart_poll (poll ▸ waiting) window]
    rfl
  · rw [transmitStart_other waiting poll window]
    rfl

/-- The reports that a Poll reply leaves, in their two queues (R173). -/
theorem afterPoll_left (q : Reports) :
    q.afterPoll.urgent ++ q.afterPoll.routine = (q.urgent ++ q.routine).drop q.pollLimit := List.drop_append.symm

/-! ## The Bus Interface's timers in a millisecond -/

theorem whenDue_bus {α : Type} {g : Bus → α} {due : State → Bool} {f : State → State}
    (h : ∀ v, g (f v).bus = g v.bus) : g (whenDue due f s).bus = g s.bus := by
  unfold whenDue
  split
  · have bus : (event f s).bus = (f s).bus := event_sameBut f s .bus (by decide)
    rw [bus, h]
  · rfl

theorem whenDue_acts {due : State → Bool} {f : State → State} (h : due s = true) : (whenDue due f s).bus = (f s).bus := by
  rw [whenDue, if_pos h]
  exact event_sameBut f s .bus (by decide)

/-- The gap timer and the 5 ms of the ready mark act. -/
def readyTimers (s : State) : State :=
  whenDue (fun s => decide (s.bus.readyTimer = some 0)) readyExpiry
    (whenDue (fun s => decide (s.bus.gap = some 0)) gapExpiry s)

/-- The pending reply's times act: the end of its transmission, and the latest moment of its window. -/
def replyTimers (s : State) : State :=
  whenDue (fun s => match s.bus.pending with
    | .waiting _ n => decide (Config.replyWindowMs ≤ n)
    | _ => false) transmitStart
  (whenDue (fun s => match s.bus.pending with
    | .transmitting _ n => decide (n = 0)
    | _ => false) transmitEnd s)

theorem busTimers_eq : busTimers s = replyTimers (readyTimers s) := rfl

theorem gapExpiry_bus {α : Type} {g : Bus → α} (h : ∀ b : Bus, g { b with assembly := {}, gap := none } = g b) :
    g (gapExpiry s).bus = g s.bus := by
  unfold gapExpiry
  split
  · exact h s.bus
  · rfl

theorem readyTimers_pending : (readyTimers s).bus.pending = s.bus.pending := by
  have ready (v : State) : (readyExpiry v).bus.pending = v.bus.pending := by
    unfold readyExpiry
    split <;> rfl
  exact (whenDue_bus (g := Bus.pending) ready).trans (whenDue_bus (g := Bus.pending) fun _ => gapExpiry_bus fun _ => rfl)

/-- The ready mark is set at the end of the 5 ms, and only then. -/
theorem readyTimers_ready (running : s.inRestart = false) :
    (s.bus.readyTimer = some 0 → (readyTimers s).bus.readyTimer = none ∧ (readyTimers s).bus.ready = true) ∧
    (s.bus.readyTimer ≠ some 0 → (readyTimers s).bus.readyTimer = s.bus.readyTimer ∧
      (readyTimers s).bus.ready = s.bus.ready) := by
  unfold readyTimers
  have timer : (whenDue (fun s => decide (s.bus.gap = some 0)) gapExpiry s).bus.readyTimer = s.bus.readyTimer :=
    whenDue_bus (g := Bus.readyTimer) fun _ => gapExpiry_bus fun _ => rfl
  have ready : (whenDue (fun s => decide (s.bus.gap = some 0)) gapExpiry s).bus.ready = s.bus.ready :=
    whenDue_bus (g := Bus.ready) fun _ => gapExpiry_bus fun _ => rfl
  have restart : (whenDue (fun s => decide (s.bus.gap = some 0)) gapExpiry s).inRestart = false :=
    Eq.trans (whenDue_sameBut (parts := [.bus, .quietRun]) (fun _ => .mono (by decide) gapExpiry_sameBut) (by decide) .inRestart
      (by decide)) running
  generalize whenDue (fun s => decide (s.bus.gap = some 0)) gapExpiry s = v at timer ready restart
  refine ⟨fun expired => ?_, fun runs => ?_⟩
  · rw [whenDue_acts (decide_eq_true (timer.trans expired)), readyExpiry,
      if_pos ⟨by rw [timer, expired]; rfl, restart⟩]
    exact ⟨rfl, rfl⟩
  · rw [whenDue_idle (decide_eq_false (by rw [timer]; exact runs))]
    exact ⟨timer, ready⟩

theorem replyTimers_ready : (replyTimers s).bus.readyTimer = s.bus.readyTimer ∧
    (replyTimers s).bus.ready = s.bus.ready := by
  have start (v : State) : (transmitStart v).bus.readyTimer = v.bus.readyTimer ∧ (transmitStart v).bus.ready = v.bus.ready := by
    unfold transmitStart
    split
    · split
      · split <;> exact ⟨rfl, rfl⟩
      · exact ⟨rfl, rfl⟩
    · exact ⟨rfl, rfl⟩
  have done (v : State) : (transmitEnd v).bus.readyTimer = v.bus.readyTimer ∧ (transmitEnd v).bus.ready = v.bus.ready := by
    unfold transmitEnd
    split <;> exact ⟨rfl, rfl⟩
  exact ⟨(whenDue_bus (g := Bus.readyTimer) fun v => (start v).1).trans
      (whenDue_bus (g := Bus.readyTimer) fun v => (done v).1),
    (whenDue_bus (g := Bus.ready) fun v => (start v).2).trans (whenDue_bus (g := Bus.ready) fun v => (done v).2)⟩

/-- A Waiting reply begins at the latest moment of its window. -/
theorem replyTimers_waiting (waiting : s.bus.pending = .waiting r n) :
    (n < 8 → (replyTimers s).bus.pending = .waiting r n) ∧ (8 ≤ n → (replyTimers s).transmitEnable = true) := by
  have idle : whenDue (fun s => match s.bus.pending with
      | .transmitting _ n => decide (n = 0)
      | _ => false) transmitEnd s = s := whenDue_idle (by rw [waiting])
  unfold replyTimers
  rw [idle]
  refine ⟨fun early => ?_, fun late => ?_⟩
  · rw [whenDue_idle (by rw [waiting]; exact decide_eq_false (Nat.not_le.mpr early))]
    exact waiting
  · rw [State.transmitEnable, whenDue_acts (by rw [waiting]; exact decide_eq_true late)]
    exact transmitStart_sends waiting (by omega)

/-- A transmission goes on until its time is over. -/
theorem replyTimers_sending {f : List Byte} (sending : s.bus.pending = .transmitting f n) :
    (n ≠ 0 → (replyTimers s).bus.pending = .transmitting f n) ∧ (n = 0 → (replyTimers s).bus.pending = .none) := by
  have starts (v : State) (other : ∀ q m, v.bus.pending ≠ .waiting q m) : whenDue (fun s => match s.bus.pending with
      | .waiting _ n => decide (Config.replyWindowMs ≤ n)
      | _ => false) transmitStart v = v := by
    refine whenDue_idle ?_
    split
    · next q m waits => exact absurd waits (other q m)
    · rfl
  unfold replyTimers
  refine ⟨fun left => ?_, fun none_left => ?_⟩
  · rw [whenDue_idle (s := s) (by rw [sending]; exact decide_eq_false left), starts s (by rw [sending]; nofun)]
    exact sending
  · have ended : (whenDue (fun s => match s.bus.pending with
        | .transmitting _ n => decide (n = 0)
        | _ => false) transmitEnd s).bus.pending = .none := by
      rw [whenDue_acts (by rw [sending]; exact decide_eq_true none_left), transmitEnd, sending]
      rfl
    rw [starts _ (by rw [ended]; nofun)]
    exact ended

/-- In a millisecond outside a restart that ends no 50 ms of low line, only ageing and the Bus Interface's timers
act on the Bus Interface. -/
theorem tick_bus (running : s.inRestart = false) (low : ∀ n, s.bus.lowTimer = some n → n < 49) :
    ∃ u, tick s = replyTimers (readyTimers u) ∧ u.bus = (age s).bus ∧ u.inRestart = false := by
  have lines : SameBut timerParts (age s) (eachLine lineTimers (age s)) :=
    SameBut.each _ allLines (.refl _ _) fun _ _ => lineTimers_sameBut
  have bearers : SameBut timerParts (age s) (each allBearers bearerTimers (eachLine lineTimers (age s))) :=
    SameBut.each _ allBearers lines fun _ _ => whenDue_timerParts (fun _ => guardExpiry_sameBut) (by decide)
  have unit : SameBut timerParts (age s)
      (unitTimers (each allBearers bearerTimers (eachLine lineTimers (age s)))) := bearers.trans unitTimers_sameBut
  generalize hu : unitTimers (each allBearers bearerTimers (eachLine lineTimers (age s))) = u at unit
  have bus : u.bus = (age s).bus := unit .bus (by decide)
  refine ⟨u, ?_, bus, Eq.trans (unit .inRestart (by decide)) running⟩
  have lowNow : (busTimers u).bus.lowTimer = s.bus.lowTimer.map (· + 1) := by
    rw [busTimers_lowTimer, bus]
    rfl
  rw [tick, running, hu, ← busTimers_eq]
  change lineTimer (busTimers u) = busTimers u
  rw [lineTimer, lowNow]
  cases was : s.bus.lowTimer with
  | none => rfl
  | some n => exact if_neg (Nat.not_le.mpr (Nat.succ_lt_succ (low n was)))

/-! ## Bytes and the 5 ms of high line (R169) -/

theorem lineAfterByte_ends {parity : Bool} : (lineAfterByte x parity false s).bus.readyTimer = none ∧
    (lineAfterByte x parity false s).bus.lowTimer ≠ none ∧ (lineAfterByte x parity false s).bus.reception = .none := by
  refine ⟨rfl, ?_, rfl⟩
  unfold lineAfterByte
  dsimp only
  rw [if_neg Bool.false_ne_true]
  change (if x = 0 ∧ parity = false then some (s.bus.lowTimer.getD 0) else some 0) ≠ none
  split <;> nofun

theorem takeByte_error : (takeByte x true s).bus.readyTimer = s.bus.readyTimer ∧
    (takeByte x true s).bus.lowTimer = s.bus.lowTimer ∧ (takeByte x true s).bus.reception = s.bus.reception ∧
    SameBut [.bus] s (takeByte x true s) := by
  unfold takeByte
  rw [if_pos rfl]
  split
  · exact ⟨rfl, rfl, rfl, .refl _ s⟩
  · exact ⟨rfl, rfl, rfl, discardFrame_sameBut⟩

/-- A stop bit that is not high ends the time of high line. -/
theorem byteRest_low {parity : Bool} (within : s.bus.reception ≠ .none) :
    SameBut [.bus] s (byteRest x parity false s) ∧ (byteRest x parity false s).bus.readyTimer = none ∧
      (byteRest x parity false s).bus.lowTimer ≠ none ∧ (byteRest x parity false s).bus.reception = .none := by
  obtain ⟨timer, low, reception⟩ := lineAfterByte_ends (s := s) (x := x) (parity := parity)
  have after : SameBut [.bus] s (lineAfterByte x parity false s) := lineAfterByte_sameBut
  have error : byteError x parity false = true := Bool.or_true _
  unfold byteRest
  rw [if_neg within]
  dsimp only
  rw [error]
  split
  · obtain ⟨timerNow, lowNow, receptionNow, frame⟩ := takeByte_error (s := lineAfterByte x parity false s) (x := x)
    rw [timerNow, lowNow, receptionNow]
    exact ⟨after.trans frame, timer, low, reception⟩
  · exact ⟨after, timer, low, reception⟩

/-- A byte that is ignored leaves the line high after its stop bit. -/
theorem byteRest_unheard {parity : Bool} (reception : s.bus.reception = .ignored) (unready : s.bus.ready = false) :
    (byteRest x parity true s).bus = { s.bus with reception := .none, lowTimer := none, readyTimer := some 5 } := by
  unfold byteRest
  rw [if_neg (by rw [reception]; nofun), reception]
  change (lineHigh (s.setBus { s.bus with reception := .none })).bus = _
  change { s.bus with reception := .none, lowTimer := none, readyTimer := if s.bus.ready then none else some 5 } = _
  rw [unready]
  rfl

end

/-- Settles O54: the reply by what is pending, the millisecond stage by stage, and the receive line's times. -/
theorem repliesAndReadiness : Obligations.RepliesAndReadiness := by
  refine ⟨fun s age => ?_, fun s empty running low => ⟨fun r age waiting => ?_, fun frame left sent => ?_,
    fun left timed => ?_⟩, fun s a r running => ⟨fun timed => ?_, ?_, fun unready high between v => ?_,
    fun within v parity => ?_⟩, fun s t => step_keeps_readyWhileHigh⟩
  · intro q limit taken sending
    refine ⟨fun r early => congrArg Host.Outcome.next (transmitStart_early r s early), fun waiting window => ?_,
      fun r waiting other window => ⟨_, congrArg Host.Outcome.next (transmitStart_other waiting other window),
        setBus_sameBut, ⟨_, transmit_bus⟩⟩, fun frame left sent => ?_⟩
    · refine ⟨_, congrArg Host.Outcome.next (transmitStart_poll waiting window), ?_, rfl, rfl, rfl, afterPoll_left q,
        ⟨_, transmit_bus⟩, rfl⟩
      exact SameBut.then (.mono (by decide) setReports_sameBut) setBus_sameBut (by decide)
    · have ended : transmitEnd s = s.setBus { s.bus with pending := .none, assembly := {}, gap := none } := by
        rw [transmitEnd, sent]
      refine ⟨?_, _, congrArg Host.Outcome.next ended, setBus_sameBut, rfl, rfl⟩
      rw [State.transmitBits, sent]
  · obtain ⟨u, ticked, bus, runs⟩ := tick_bus running low
    have aged : (readyTimers u).bus.pending = .waiting r (age + 1) := by
      rw [readyTimers_pending, bus]
      exact congrArg PendingReply.age waiting
    obtain ⟨early, late⟩ := replyTimers_waiting aged
    exact ⟨_, (step_empty empty).trans (congrArg Host.Outcome.next ticked), fun before => early (by omega),
      fun reached => late (by omega)⟩
  · obtain ⟨u, ticked, bus, runs⟩ := tick_bus running low
    have aged : (readyTimers u).bus.pending = .transmitting frame (left - 1) := by
      rw [readyTimers_pending, bus]
      exact congrArg PendingReply.age sent
    obtain ⟨goesOn, ends⟩ := replyTimers_sending aged
    exact ⟨_, (step_empty empty).trans (congrArg Host.Outcome.next ticked), fun more => goesOn (by omega),
      fun last => ends (by omega)⟩
  · obtain ⟨u, ticked, bus, runs⟩ := tick_bus running low
    have aged : u.bus.readyTimer = some (left - 1) := by
      rw [bus]
      exact congrArg ageTimer timed
    have ready : u.bus.ready = s.bus.ready := (congrArg Bus.ready bus).trans rfl
    obtain ⟨timerAfter, readyAfter⟩ := replyTimers_ready (s := readyTimers u)
    obtain ⟨ends, goesOn⟩ := readyTimers_ready runs
    refine ⟨_, (step_empty empty).trans (congrArg Host.Outcome.next ticked), fun more => ?_, fun last => ?_⟩
    · obtain ⟨timer, mark⟩ := goesOn (by rw [aged]; simp; omega)
      exact ⟨timerAfter.trans (timer.trans aged), readyAfter.trans (mark.trans ready)⟩
    · obtain ⟨timer, mark⟩ := ends (by rw [aged, Nat.sub_eq_zero_of_le last])
      exact ⟨timerAfter.trans timer, readyAfter.trans mark⟩
  · have set : readyExpiry s = s.setBus { s.bus with ready := true, readyTimer := none } :=
      if_pos ⟨Option.isSome_iff_ne_none.mpr timed, running⟩
    exact ⟨_, congrArg Host.Outcome.next set, setBus_sameBut, rfl⟩
  · have returns : receiveLineHigh ⟨a, r⟩ s = lineHigh (s.setStrapPins ⟨a, r⟩) :=
      if_neg (by change ¬s.inRestart = true; rw [running]; nofun)
    refine ⟨_, congrArg Host.Outcome.next returns, ?_, rfl⟩
    exact SameBut.then (.mono (by decide) setStrapPins_sameBut) setBus_sameBut (by decide)
  · have deaf : s.receives = false := by rw [State.receives, unready] <;> rfl
    have started : byteStart s =
        s.setBus { s.bus with lowTimer := some 0, readyTimer := none, gap := none, reception := .ignored } := by
      rw [byteStart, if_pos ⟨high, between, running⟩, deaf]
      rfl
    have bus : (event byteStart s).bus =
        { s.bus with lowTimer := some 0, readyTimer := none, gap := none, reception := .ignored } :=
      (event_sameBut byteStart s .bus (by decide)).trans (congrArg State.bus started)
    have frame : SameBut [.bus] s (byteStart s) := by
      rw [started]
      exact setBus_sameBut
    refine ⟨_, rfl, SameBut.event (.mono (by decide) frame) (by decide), bus,
      fun parity => ⟨_, rfl, ?_⟩⟩
    have rest : (byteRest v parity true (event byteStart s)).bus = _ :=
      byteRest_unheard (by rw [bus]) (by rw [bus]; exact unready)
    refine (event_sameBut (byteRest v parity true) (event byteStart s) .bus (by decide)).trans (rest.trans ?_)
    rw [bus, show s.bus = { s.bus with lowTimer := none, reception := .none } by rw [← high, ← between]]
  · obtain ⟨frame, timer, low, reception⟩ := byteRest_low (x := v) (parity := parity) within
    have bus : (event (byteRest v parity false) s).bus = (byteRest v parity false s).bus :=
      event_sameBut _ s .bus (by decide)
    refine ⟨_, rfl, SameBut.event (.mono (by decide) frame) (by decide), ?_, ?_, ?_⟩
    · exact (congrArg Bus.readyTimer bus).trans timer
    · exact fun now => low ((congrArg Bus.lowTimer bus).symm.trans now)
    · exact (congrArg Bus.reception bus).trans reception

end Sys2Proof.Machine
end

section
/-! Chapter 9, sections 9.1 and 9.2: what a supply sample and a change of level do. -/

namespace Sys2Proof.Machine

section
variable {s u : State} {l : Line} {n : Nat} {i : Int} {level : Level}

theorem pushSample_eq {h : List Nat} : pushSample h n = if h.length < 8 then h ++ [n] else h.tail ++ [n] := by
  unfold pushSample
  dsimp only
  rw [List.length_append, List.length_singleton]
  split
  · next longer =>
    rw [if_neg (by omega), List.tail_append_of_ne_nil (by rintro rfl; simp at longer)]
  · next fits => rw [if_pos (by omega)]

/-- The state in which the sample has joined the history. -/
def State.supplyJoined (s : State) (i : Int) : State := s.setSupply { s.supply with
  history := pushSample s.supply.history (convertSupply i)
  dip := s.supply.dip || decide (convertSupply i < s.tables.thresholds.criticalEnter.toNat) }

/-- The average of a history to which the sample has been joined. -/
def State.averageWith (s : State) (i : Int) : Nat := (pushSample s.supply.history (convertSupply i)).sum / 8

/-- The level on the new average. -/
def State.levelWith (s : State) (i : Int) : Level := nextLevel s.tables.thresholds s.supply.level (s.averageWith i)

/-- The state in which the average of a full history has been taken. -/
def State.averaged (s : State) (i : Int) : State :=
  (s.supplyJoined i).setSupply { (s.supplyJoined i).supply with average := some (s.averageWith i) }

theorem supplySample_joins (running : s.inRestart = false) (short : s.supply.history.length < 7) :
    supplySample i s = s.supplyJoined i := by
  have part : (pushSample s.supply.history (convertSupply i)).length ≠ 8 := by
    rw [pushSample_eq, if_pos (by omega), List.length_append, List.length_singleton]
    omega
  unfold supplySample
  rw [running]
  exact if_neg part

theorem supplySample_averages (running : s.inRestart = false)
    (full : s.supply.history.length = 7 ∨ s.supply.history.length = 8) : supplySample i s =
      if s.levelWith i = s.supply.level then s.averaged i else levelChange (s.levelWith i) (s.averaged i) := by
  have eight : (pushSample s.supply.history (convertSupply i)).length = 8 := by
    rw [pushSample_eq]
    split <;> simp <;> omega
  unfold supplySample
  rw [running]
  exact if_pos eight

/-- The state in which a new level is in force and reported (R153). -/
def State.leveled (s : State) (level : Level) : State :=
  (s.setSupply { s.supply with level := level }).report true
    { kind := .supply, value := some (supplyValue level s.supply.dip) }

theorem levelChange_falls (fall : s.supply.level.code < level.code) : levelChange level s =
    if level = .critical then cutShort .supply (ringFall (s.leveled level)) else ringFall (s.leveled level) := by
  unfold levelChange
  dsimp only
  rw [if_pos fall]
  rfl

theorem levelChange_rises (rise : level.code < s.supply.level.code) :
    levelChange level s = runIdle (fill (s.leveled level)) := by
  have above : level ≠ .critical := by
    rintro rfl
    revert rise
    cases s.supply.level <;> decide
  unfold levelChange
  dsimp only
  rw [if_neg (Nat.lt_asymm rise), if_neg above]
  rfl

/-- What a fall of the level does to the ring collections and to the feeds (R130). -/
theorem ringFall_places :
    let moved := (List.finRange 4).flatMap fun p => movedAtFall s s.supply.level s.ringer.phases[p]
    let filled := fillWalk s.permitted s.supply.level.ringCapacity (moved ++ s.ringer.queue)
      (tabulate fun p => keptAtFall s s.supply.level s.ringer.phases[p])
    SameBut [.feed, .ringer] s (ringFall s) ∧
      (ringFall s).ringer = { s.ringer with phases := filled.1, queue := filled.2 } ∧
      ∀ m : Line, (ringFall s).feed[m] = if m ∈ moved then s.feed[m].callTarget .standby else s.feed[m] := by
  intro moved filled
  have ringer : (ringFallen s).ringer = _ := ringFallen_frame .ringer (by decide)
  have supply : (ringFallen s).supply = s.supply := ringFallen_frame .supply (by decide)
  have entries : (ringFallen s).entries = s.entries := ringFallen_frame .entries (by decide)
  have permitted : (ringFallen s).permitted = s.permitted := by
    funext m
    rw [State.permitted, State.permitted, State.classOf, State.classOf, supply, entries]
  refine ⟨.mono (by decide) ringFall_sameBut, ?_, fun m => ?_⟩
  · rw [ringFall_eq]
    refine (congrArg State.ringer (fill_frame _)).trans ?_
    rw [permitted, supply, ringer]
    rfl
  · have feed : (ringFall s).feed = (ringFallen s).feed := by rw [ringFall_eq, fill_frame]
    rw [feed]
    exact each_callTarget.2 m

theorem permits_eq {k : Machine.Class} : level.permits k = decide (level = .critical → k = .priority) := by
  cases level <;> cases k <;> rfl

/-- A fall below Normal in the terms of R130: which lines keep their places, which are moved, and the fill. -/
theorem ringFall_fallen (low : s.supply.level ≠ .normal) :
    let permits (m : Line) : Bool := decide (s.supply.level = .critical → s.classOf m = .priority)
    let kept (k : Fin 4) : List Line := (s.ringer.phases[k].filter permits).take 1
    let moved : List Line :=
      ([0, 1, 2, 3] : List (Fin 4)).flatMap fun k => s.ringer.phases[k].filter fun m => decide (m ∉ kept k)
    let filled := fillWalk permits 1 (moved ++ s.ringer.queue) #v[kept 0, kept 1, kept 2, kept 3]
    SameBut [.feed, .ringer] s (ringFall s) ∧
      (ringFall s).ringer = { s.ringer with phases := filled.1, queue := filled.2 } ∧
      ∀ m : Line, (ringFall s).feed[m] = if m ∈ moved then s.feed[m].callTarget .standby else s.feed[m] := by
  intro permits kept moved filled
  have room : s.supply.level.ringCapacity = 1 := by
    cases now : s.supply.level with
    | normal => exact absurd now low
    | _ => rfl
  have permitted : s.permitted = permits := funext fun _ => permits_eq
  have keeps : (fun k : Fin 4 => keptAtFall s s.supply.level s.ringer.phases[k]) = kept := by
    funext k
    unfold keptAtFall
    rw [room]
    exact congrArg (fun p => (s.ringer.phases[k].filter p).take 1) permitted
  have leaves : (tabulate fun k : Fin 4 => keptAtFall s s.supply.level s.ringer.phases[k]) =
      #v[kept 0, kept 1, kept 2, kept 3] := by
    rw [keeps]
    rfl
  have moves : (List.finRange 4).flatMap (fun k => movedAtFall s s.supply.level s.ringer.phases[k]) = moved :=
    congrArg (fun kept : Fin 4 → List Line => ([0, 1, 2, 3] : List (Fin 4)).flatMap fun k =>
      s.ringer.phases[k].filter fun m => decide (m ∉ kept k)) keeps
  obtain ⟨frame, ringer, feed⟩ := ringFall_places (s := s)
  rw [moves] at feed
  rw [moves, leaves, room, permitted] at ringer
  exact ⟨frame, ringer, feed⟩

/-- What the fall to Critical does to a session (R149): one that is not in its Disconnect phase goes there. -/
theorem cut_effects : let t := if level = .critical then cutShort .supply s else s
    SameBut [.feed, .test] s t ∧
      (∀ m : Line, (∀ x, s.test.session = some x → level = .critical → x.phase ≠ .disconnect → x.line ≠ m) →
        t.feed[m] = s.feed[m]) ∧
      ((∀ x, s.test.session = some x → level = .critical → x.phase = .disconnect) → t.test = s.test) ∧
      ∀ x, s.test.session = some x → level = .critical → x.phase ≠ .disconnect →
        t.test =
            { result := s.test.result, relay := none, source := false
              session := some
                { x with
                  phase := .disconnect, present := none, window := 0, sum := 0, squares := 0
                  clipped := false, lookCount := 0, timer := some 50, ending := .supply } } ∧
          t.feed[x.line] = s.feed[x.line].take .openLoop := by
  by_cases cut : ∃ x, s.test.session = some x ∧ level = .critical ∧ x.phase ≠ .disconnect
  · obtain ⟨x, session, critical, before⟩ := cut
    have ends : (if level = .critical then cutShort .supply s else s) = beginDisconnect x .supply s := by
      rw [if_pos critical, cutShort, session]
      exact if_neg before
    rw [ends, beginDisconnect_eq]
    refine ⟨.mono (by decide) tested_sameBut, fun m other => ?_, fun none => absurd (none x session critical) before,
      fun y held _ _ => ?_⟩
    · exact (tested_others m (other x session critical before).symm).2.2.2.1
    · cases session.symm.trans held
      exact ⟨rfl, tested_feed⟩
  · have stays : (if level = .critical then cutShort .supply s else s) = s := by
      by_cases critical : level = .critical
      · rw [if_pos critical, cutShort]
        cases session : s.test.session with
        | none => rfl
        | some x => exact if_pos (not_not.mp fun before => cut ⟨x, session, critical, before⟩)
      · exact if_neg critical
    rw [stays]
    exact ⟨.refl _ s, fun _ _ => rfl, fun _ => rfl, fun x session critical before =>
      absurd ⟨x, session, critical, before⟩ cut⟩

/-- The new level stands when the change of level has been carried out. -/
theorem levelChange_supply : (levelChange level s).supply = { s.supply with level := level } := by
  have cut {w : State} : (if level = .critical then cutShort .supply w else w).supply = w.supply :=
    (cut_effects (s := w) (level := level)).1 .supply (by decide)
  have moved : (if s.supply.level.code < level.code then ringFall (s.leveled level)
      else runIdle (fill (s.leveled level))).supply = { s.supply with level := level } := by
    split
    · exact ringFall_sameBut .supply (by decide)
    · exact Eq.trans (runIdle_sameBut .supply (by decide)) (fill_sameBut (s := s.leveled level) .supply (by decide))
  exact cut.trans moved

/-- The reports, the level and the rest of the state at a fall or a rise of the level. -/
theorem leveled_eq : s.leveled level = { s with
    supply := { s.supply with level := level }
    reports := s.reports.append true
      { kind := .supply, value := some (level.code + if s.supply.dip = true then 128 else 0) } } := rfl

end

/-- Settles O44: the history, the average, the row of the level in force, and then the fall or the rise. -/
theorem supplySampleSetsLevel : Obligations.SupplySampleSetsLevel := by
  intro s value running v th history dip average old lower upper
  have joined : pushSample s.supply.history (convertSupply value) = history := pushSample_eq
  have changed {w : State} (same : supplySample value s = w) : SameBut [.quietRun] w (event (supplySample value) s) :=
    sameBut_event_of same
  refine ⟨fun short => ?_, fun full => ⟨s.levelWith value, ?_⟩⟩
  · have after := changed (supplySample_joins running short)
    refine ⟨_, rfl, SameBut.then (.mono (by decide) setSupply_sameBut) after (by decide),
      Eq.trans (after .supply (by decide)) ?_⟩
    rw [State.supplyJoined, joined]
    rfl
  · obtain ⟨w, taken⟩ : ∃ w : State, w = { s with
        supply := { history := history, dip := dip, average := some average, level := old } } := ⟨_, rfl⟩
    have averaged : s.averaged value = w := by
      rw [taken, State.averaged, State.supplyJoined, State.averageWith, joined]
      rfl
    have start : SameBut [.supply] s w := by simp [sameBut_iff, taken]
    have supplied : w.supply = { history := history, dip := dip, average := some average, level := old } := by rw [taken]
    have fits := nextLevel_fits s.tables.thresholds s.supply.level (s.averageWith value)
    have samples := supplySample_averages (i := value) running full
    rw [averaged] at samples
    change match s.levelWith value with
      | .critical => s.averageWith value < lower
      | .low => lower ≤ s.averageWith value ∧ s.averageWith value < upper
      | .normal => upper ≤ s.averageWith value at fits
    rw [show s.averageWith value = average from congrArg (fun h : List Nat => h.sum / 8) joined] at fits
    generalize s.levelWith value = level at *
    intro supply reports
    have leveled : w.leveled level = { s with supply := supply, reports := reports } := by
      rw [leveled_eq, taken]
    refine ⟨fun now => ?_, fun now => ?_, fun now => ?_, _, rfl, ?_, fun stays => ?_, fun fall => ?_, fun rise => ?_⟩
    · subst now
      exact fits
    · subst now
      exact fits
    · subst now
      exact fits
    · by_cases same : level = old
      · rw [if_pos same] at samples
        refine Eq.trans (changed samples .supply (by decide)) (supplied.trans ?_)
        rw [← same]
      · rw [if_neg same] at samples
        refine Eq.trans (changed samples .supply (by decide)) (levelChange_supply.trans ?_)
        rw [supplied]
    · rw [if_pos stays] at samples
      exact SameBut.then (.mono (by decide) start) (changed samples) (by decide)
    · have differs : level ≠ old := fun same => Nat.lt_irrefl _ (same ▸ fall)
      have falls : levelChange level w = _ := levelChange_falls (by rw [supplied]; exact fall)
      rw [if_neg differs, falls, leveled] at samples
      intro permits kept moved filled
      have low : level ≠ .normal := by
        rintro rfl
        exact absurd fall (Nat.not_lt_zero _)
      have fallen := ringFall_fallen (s := { s with supply := supply, reports := reports }) low
      obtain ⟨u, now⟩ : ∃ u : State, u = { s with supply := supply, reports := reports } := ⟨_, rfl⟩
      have given : SameBut [.supply, .reports] s u := by simp [sameBut_iff, now]
      obtain ⟨frame, ringer, feed⟩ : SameBut [.feed, .ringer] u (ringFall u) ∧
          (ringFall u).ringer = { s.ringer with phases := filled.1, queue := filled.2 } ∧
          ∀ m : Line, (ringFall u).feed[m] = if m ∈ moved then s.feed[m].callTarget .standby else s.feed[m] := by
        rw [now]
        exact fallen
      rw [← now] at samples
      have test : (ringFall u).test = s.test := Eq.trans (frame .test (by decide)) (given .test (by decide))
      obtain ⟨cutFrame, cutFeed, untested, cut⟩ := cut_effects (s := ringFall u) (level := level)
      rw [test] at cutFeed untested cut
      have after := changed samples
      have feedNow : (event (supplySample value) s).feed =
          (if level = .critical then cutShort .supply (ringFall u) else ringFall u).feed := after .feed (by decide)
      have testNow : (event (supplySample value) s).test =
          (if level = .critical then cutShort .supply (ringFall u) else ringFall u).test := after .test (by decide)
      have fell : SameBut [.feed, .ringer, .supply, .reports] s (ringFall u) := SameBut.then (.mono (by decide) given) frame
        (by decide)
      have cutAfter : SameBut [.feed, .test, .quietRun] (ringFall u) (event (supplySample value) s) :=
        SameBut.then (.mono (by decide) cutFrame) after (by decide)
      refine ⟨SameBut.then (.mono (by decide) fell) cutAfter (by decide), ?_, ?_, fun l uncut => ?_, fun none => ?_,
        fun x session critical before => ?_⟩
      · refine Eq.trans (cutAfter .reports (by decide)) (Eq.trans (frame .reports (by decide)) ?_)
        rw [now]
      · exact Eq.trans (cutAfter .ringer (by decide)) ringer
      · rw [feedNow, cutFeed l uncut, feed]
      · rw [testNow, untested none]
      · obtain ⟨record, target⟩ := cut x session critical before
        rw [testNow, feedNow, record, target, feed]
        exact ⟨rfl, fun stays => by rw [if_neg stays]⟩
    · have differs : level ≠ old := fun same => Nat.lt_irrefl _ (same ▸ rise)
      have rises : levelChange level w = _ := levelChange_rises (by rw [supplied]; exact rise)
      rw [if_neg differs, rises, leveled] at samples
      exact changed samples

end Sys2Proof.Machine
end

section
/-! Chapter 11, section 11.6: the calls restart. -/

namespace Sys2Proof.Machine

section
variable {s : State} {l : Line} {r : BearerRecord} {q : Reports} {e : Report} {urgent : Bool} {x : Session}

/-! ## What a calls restart leaves of each part -/

theorem callsRestart_brk : (callsRestart s).brk[l] = {} := by
  unfold callsRestart
  dsimp only
  split <;> exact Vector.getElem_replicate ..

theorem callsRestart_feed : (callsRestart s).feed[l] = s.feed[l].callsRestart s.entries[l].enabled := by
  unfold callsRestart
  dsimp only
  split <;> exact tabulate_get ..

theorem callsRestart_quiet : (callsRestart s).monitor.quiet = false := by
  unfold callsRestart
  dsimp only
  split <;> rfl

/-- The report queues hold the Restarted report and the TestDone report of a session that was ended. -/
theorem callsRestart_reports : (callsRestart s).reports =
    match s.test.session with
    | none =>
      { s.reports with urgent := [{ kind := .restarted, value := some 3 }], routine := [], overflow := false }
    | some x =>
      Reports.append
        { s.reports with urgent := [{ kind := .restarted, value := some 3 }], routine := [], overflow := false }
        (s.urgentFor x.line) { kind := .testDone, line := some x.line, value := some 2 } := by
  unfold callsRestart
  dsimp only
  cases s.test.session <;> rfl

theorem append_routineAttention : (q.append urgent e).routineAttention = q.routineAttention := by
  unfold Reports.append
  split
  · rfl
  · split <;> rfl

theorem callsRestart_alone (none : s.test.session = none) : (callsRestart s).reports =
    { s.reports with urgent := [{ kind := .restarted, value := some 3 }], routine := [], overflow := false } := by
  rw [callsRestart_reports, none]

theorem callsRestart_done (session : s.test.session = some x) :
    (s.classOf x.line = .priority → (callsRestart s).reports.urgent =
        [{ kind := .restarted, value := some 3 }, { kind := .testDone, line := some x.line, value := some 2 }] ∧
      (callsRestart s).reports.routine = []) ∧
    (s.classOf x.line ≠ .priority → (callsRestart s).reports.urgent = [{ kind := .restarted, value := some 3 }] ∧
      (callsRestart s).reports.routine = [{ kind := .testDone, line := some x.line, value := some 2 }]) := by
  rw [callsRestart_reports, session]
  dsimp only
  refine ⟨fun priority => ?_, fun other => ?_⟩
  · rw [State.urgentFor, decide_eq_true priority]
    exact ⟨rfl, rfl⟩
  · rw [State.urgentFor, decide_eq_false other]
    exact ⟨rfl, rfl⟩

theorem callsRestart_marks : (callsRestart s).reports.overflow = false ∧
    (callsRestart s).reports.routineAttention = s.reports.routineAttention := by
  rw [callsRestart_reports]
  cases s.test.session with
  | none => exact ⟨rfl, rfl⟩
  | some x =>
    refine ⟨?_, append_routineAttention⟩
    dsimp only
    cases s.urgentFor x.line <;> rfl

theorem atRequest_routineAttention : s.atRequest.reports.routineAttention = s.reports.routineAttention := by
  rw [atRequest_reports]
  split
  · exact append_routineAttention
  · rfl

/-- An Absent bearer stays so; any other is Unchecked and has lost its line. -/
theorem BearerRecord.callsRestart_of (some : r.state ≠ .absent) : r.callsRestart =
    { (r.withLine none) with
      state := .unchecked, guard := none
      barPending := r.barPending || decide (r.state = BearerState.barred) } := if_neg some

theorem BearerRecord.withLine_former (line : r.line = some l) : (r.withLine none).formerLine = some l := by
  unfold BearerRecord.withLine
  dsimp only
  rw [line]
  exact if_neg (by nofun)

theorem callsRestart_feedLine {enabled : Bool} {f : Feed} : (f.callsRestart enabled).control = .callSide ∧
    (f.callsRestart enabled).held = none ∧
    (f.callsRestart enabled).target = if enabled then .standby else .openLoop :=
  ⟨take_control, take_held, take_target⟩

end

section
variable {s t : State}

/-- What a calls restart makes of a line (R6, R41, R75). -/
theorem callsRestart_line (frame : SameBut [.bus, .quietRun] (callsRestart s.atRequest) t) (l : Line) :
    t.brk[l] = {} ∧ t.feed[l].control = .callSide ∧ t.feed[l].held = none ∧
      (s.entries[l].enabled = true → t.call[l] = { state := .idle } ∧ t.sup[l] = {} ∧ t.feed[l].target = .standby) ∧
      (s.entries[l].enabled = false → t.feed[l].target = .openLoop ∧
        (s.call[l].state = .testing → t.call[l] = { state := .disabled } ∧ t.sup[l] = {}) ∧
        (s.call[l].state ≠ .testing → t.call[l] = s.call[l] ∧ t.sup[l] = s.sup[l])) := by
  have brk : t.brk[l] = {} := Eq.trans (congrArg (fun v : Vector BreakTiming 32 => v[l]) (frame .brk (by decide)))
    callsRestart_brk
  have feed : t.feed[l] = s.feed[l].callsRestart s.entries[l].enabled := by
    refine Eq.trans (congrArg (fun v : Vector Feed 32 => v[l]) (frame .feed (by decide))) (callsRestart_feed.trans ?_)
    rw [atRequest_feed, atRequest_entries]
  have call : t.call[l] = s.call[l].callsRestart s.entries[l].enabled := by
    refine Eq.trans (congrArg (fun v : Vector CallRecord 32 => v[l]) (frame .call (by decide))) (callsRestart_call.trans ?_)
    rw [atRequest_call, atRequest_entries]
  have sup : t.sup[l] = s.sup[l].callsRestart s.entries[l].enabled (decide (s.call[l].state = .testing)) := by
    refine Eq.trans (congrArg (fun v : Vector Supervision 32 => v[l]) (frame .sup (by decide))) (callsRestart_sup.trans ?_)
    rw [atRequest_sup, atRequest_call, atRequest_entries]
  obtain ⟨control, held, target⟩ := callsRestart_feedLine (f := s.feed[l]) (enabled := s.entries[l].enabled)
  rw [feed, control, held, target, call, sup]
  refine ⟨brk, rfl, rfl, fun enabled => ?_, fun disabled => ⟨?_, fun testing => ?_, fun other => ?_⟩⟩
  · rw [enabled]
    exact ⟨rfl, rfl, rfl⟩
  · rw [disabled]
    rfl
  · rw [disabled, decide_eq_true testing]
    exact ⟨if_pos testing, rfl⟩
  · rw [disabled, decide_eq_false other]
    exact ⟨if_neg other, rfl⟩

/-- What a calls restart makes of a bearer (R57). -/
theorem callsRestart_bearer (frame : SameBut [.bus, .quietRun] (callsRestart s.atRequest) t) (b : Bearer) :
    ((s.bearer b).state = .absent → t.bearer b = s.bearer b) ∧
      ((s.bearer b).state ≠ .absent → (t.bearer b).state = .unchecked ∧ (t.bearer b).line = none ∧
        (t.bearer b).guard = none ∧
        ((s.bearer b).state = .barred → (t.bearer b).barPending = true) ∧
        ((s.bearer b).state ≠ .barred → (t.bearer b).barPending = (s.bearer b).barPending) ∧
        (∀ l, (s.bearer b).line = some l → (t.bearer b).formerLine = some l)) := by
  have record : t.bearer b = (s.bearer b).callsRestart := by
    refine Eq.trans (congrArg (fun x : BearerTable => x.recs[b]) (frame .bearers (by decide))) ?_
    rw [callsRestart_bearers]
    refine (tabulate_get ..).trans ?_
    rw [atRequest_bearer]
  rw [record]
  refine ⟨fun absent => if_pos absent, fun some => ?_⟩
  rw [BearerRecord.callsRestart_of some]
  refine ⟨rfl, rfl, rfl, fun barred => ?_, fun other => ?_, fun l line => BearerRecord.withLine_former line⟩
  · exact Bool.or_eq_true_iff.mpr (.inr (decide_eq_true barred))
  · change ((s.bearer b).barPending || decide _) = _
    rw [decide_eq_false other, Bool.or_false]

/-- The Test Unit after a calls restart (R136). -/
theorem callsRestart_testUnit {x : TestUnit} : x.callsRestart.relay = none ∧ x.callsRestart.source = false ∧
    (x.session = none → x.callsRestart.result = x.result) ∧
    (x.session ≠ none → x.callsRestart.result = { x.result with status := .aborted, verdict := none }) := by
  unfold TestUnit.callsRestart
  cases session : x.session with
  | none => exact ⟨rfl, rfl, fun _ => rfl, fun some => absurd rfl some⟩
  | some y => exact ⟨rfl, rfl, nofun, fun _ => rfl⟩

end

/-- Settles O60: part by part, what the restart leaves, and then the reports by the session. -/
theorem callsRestartEndsCalls : Obligations.CallsRestartEndsCalls := by
  intro s h u restarted
  have answer : reqRestartCalls u = (callsRestart u, .accepted) := rfl
  have bus : (callsRestart u).bus = u.bus := callsRestart_bus.trans (by rw [atRequest_bus])
  obtain ⟨frame, replied⟩ := unit_replies (allowed := true) h answer bus
  have arbiter : (event (takeFrame .unit true reqRestartCalls) s).arbiter = _ :=
    Eq.trans (frame .arbiter (by decide)) callsRestart_arbiter
  have bearers : (event (takeFrame .unit true reqRestartCalls) s).bearers = _ :=
    Eq.trans (frame .bearers (by decide)) callsRestart_bearers
  have test : (event (takeFrame .unit true reqRestartCalls) s).test = s.test.callsRestart :=
    Eq.trans (frame .test (by decide)) (callsRestart_test.trans (congrArg TestUnit.callsRestart atRequest_test))
  have reports : (event (takeFrame .unit true reqRestartCalls) s).reports = (callsRestart u).reports :=
    frame .reports (by decide)
  have attention := atRequest_routineAttention (s := s)
  obtain ⟨relay, source, kept, aborted⟩ := callsRestart_testUnit (x := s.test)
  refine ⟨_, rfl, SameBut.then (.mono (by decide) (callsRestart_sameBut u)) frame (by decide), replied,
    unit_quiet h answer callsRestart_quiet, callsRestart_line frame,
    unit_sameLink frame (by rw [callsRestart_bearers]) (by rw [callsRestart_bearers]), by rw [bearers],
    callsRestart_bearer frame, ?_, Eq.trans (frame .ringer (by decide)) callsRestart_ringer, ?_, ?_, ?_, ?_, ?_,
    fun none => ?_, fun x session => ?_⟩
  · rw [arbiter, atRequest_arbiter]
  · rw [test, TestUnit.callsRestart_session]
  · rw [test, relay]
  · rw [test, source]
  · rw [reports]
    exact callsRestart_marks.1
  · rw [reports, callsRestart_marks.2, attention]
  · have alone := callsRestart_alone (s := u) ((congrArg TestUnit.session atRequest_test).trans none)
    rw [reports, alone, test, kept none]
    exact ⟨rfl, rfl, rfl⟩
  · obtain ⟨priority, other⟩ := callsRestart_done (s := u) ((congrArg TestUnit.session atRequest_test).trans session)
    rw [atRequest_classOf] at priority other
    rw [reports, test, aborted (by rw [session]; nofun)]
    exact ⟨rfl, priority, other⟩

end Sys2Proof.Machine
end

section
/-! Chapter 11, section 11.4: Set Line. -/

namespace Sys2Proof.Machine

section
variable {s t v w : State} {l : Line} {b : Bearer} {n old : LineEntry} {parts : List Part} {x : Session}
  {enabled profile cls preemptible : Byte} {p : Fin 8} {c : Machine.Class}

/-! ## The request and its entry -/

theorem yesNo_of {y : Byte} (small : y.toNat ≤ 1) : yesNo y = some (decide (y.toNat = 1)) := by
  unfold yesNo
  rcases (by omega : y.toNat = 0 ∨ y.toNat = 1) with zero | one
  · rw [zero]
    rfl
  · rw [one]
    rfl

theorem profileOfByte_of (named : profile.toNat = p.val) : profileOfByte profile = some p := by
  have small : profile.toNat < 8 := named ▸ p.isLt
  rw [profileOfByte, dif_pos small]
  exact congrArg some (Fin.ext named)

theorem classOfCode_of (named : cls.toNat = c.code) : classOfCode cls.toNat = some c := by
  rw [named]
  cases c <;> rfl

/-- Set Line with values in their ranges (R175). -/
theorem reqSetLine_accepts (yes : enabled.toNat ≤ 1) (table : profile.toNat = p.val) (named : cls.toNat = c.code)
    (may : preemptible.toNat ≤ 1) : reqSetLine (BitVec.ofNat 8 l.val) enabled profile cls preemptible s =
      (lineWritten l s.entries[l]
        { enabled := decide (enabled.toNat = 1), profile := p, cls := c
          preemptible := decide (preemptible.toNat = 1) }
        (s.setEntry l
          { enabled := decide (enabled.toNat = 1), profile := p, cls := c
            preemptible := decide (preemptible.toNat = 1) }), .accepted) := by
  rw [reqSetLine, onLine_ofNat, yesNo_of yes, profileOfByte_of table, classOfCode_of named, yesNo_of may]

/-- What the Call Handler leaves of the other lines and of the rest, once the entry has been replaced. -/
theorem written_of (frame : SameBut [.bus, .quietRun] v t)
    (change : SameBut ([.quietRun] ++ parts) (s.atRequest.setEntry l n) v)
    (others : OtherLines l (s.atRequest.setEntry l n) v) (kept : Part.entries ∉ parts) :
    SameBut ([.entries, .bus, .quietRun] ++ parts) s.atRequest t ∧ t.entries = s.entries.set l n ∧
      ∀ m : Line, m ≠ l → t.call[m] = s.call[m] ∧ t.feed[m] = s.feed[m] ∧ t.sup[m] = s.sup[m] ∧ t.brk[m] = s.brk[m] := by
  have entry : SameBut [.entries] s.atRequest (s.atRequest.setEntry l n) := setEntry_sameBut
  refine ⟨SameBut.then (SameBut.then (.mono (by simp) entry) change (by simp)) frame (by simp), ?_, fun m ne => ?_⟩
  · refine Eq.trans (frame .entries (by decide)) (Eq.trans (change .entries (by simp [kept])) ?_)
    exact congrArg (fun e : Vector LineEntry 32 => e.set l n) atRequest_entries
  · obtain ⟨-, sup, brk, feed, call⟩ := others m ne
    have same (q : Part) (h : q ∉ [.bus, .quietRun]) : q.same v t := frame q h
    refine ⟨?_, ?_, ?_, ?_⟩
    · exact Eq.trans (congrArg (fun y : Vector CallRecord 32 => y[m]) (frame .call (by decide)))
        (call.trans (congrArg (fun y : Vector CallRecord 32 => y[m]) atRequest_call))
    · exact Eq.trans (congrArg (fun y : Vector Feed 32 => y[m]) (frame .feed (by decide)))
        (feed.trans (congrArg (fun y : Vector Feed 32 => y[m]) atRequest_feed))
    · exact Eq.trans (congrArg (fun y : Vector Supervision 32 => y[m]) (frame .sup (by decide)))
        (sup.trans (congrArg (fun y : Vector Supervision 32 => y[m]) atRequest_sup))
    · exact Eq.trans (congrArg (fun y : Vector BreakTiming 32 => y[m]) (frame .brk (by decide)))
        (brk.trans (congrArg (fun y : Vector BreakTiming 32 => y[m]) atRequest_brk))

/-! ## The cases of a replaced entry -/

theorem lineWritten_enables (state : s.call[l].state = .disabled) (on : n.enabled = true) :
    lineWritten l old n s = enableLine l s := by
  unfold lineWritten
  dsimp only
  rw [state, on]
  rfl

theorem lineWritten_stays
    (off : s.call[l].state = .disabled ∨ s.call[l].state = .testing ∧ s.call[l].prior = some .disabled)
    (still : n.enabled = false) : lineWritten l old n s = s := by
  unfold lineWritten
  dsimp only
  rw [still]
  rcases off with state | ⟨state, prior⟩
  · rw [state] <;> rfl
  · rw [state, prior] <;> rfl

theorem lineWritten_disables (on : s.call[l].state ≠ .disabled) (untested : s.call[l].state ≠ .testing)
    (off : n.enabled = false) : lineWritten l old n s = disableLine l s := by
  unfold lineWritten
  dsimp only
  rw [if_neg untested, decide_eq_false on, off]
  exact if_neg untested

theorem lineWritten_disablesTested (testing : s.call[l].state = .testing) (prior : s.call[l].prior ≠ some .disabled)
    (off : n.enabled = false) : lineWritten l old n s = disableTested l s := by
  have enabled : s.call[l].prior.getD .idle ≠ .disabled := by
    cases was : s.call[l].prior with
    | none => nofun
    | some state => exact fun same => prior (was.trans (congrArg some same))
  unfold lineWritten
  dsimp only
  rw [if_pos testing, decide_eq_false enabled, off]
  exact if_pos testing

theorem lineWritten_enablesTested (testing : s.call[l].state = .testing) (prior : s.call[l].prior = some .disabled)
    (on : n.enabled = true) : lineWritten l old n s = enableTested l s := by
  unfold lineWritten
  dsimp only
  rw [if_pos testing, prior, on]
  exact if_pos testing

theorem lineWritten_rewrites (enabled : s.call[l].state ≠ .disabled)
    (prior : ¬(s.call[l].state = .testing ∧ s.call[l].prior = some .disabled)) (on : n.enabled = true) :
    lineWritten l old n s = rewriteLine l old n s := by
  have enabled : (if s.call[l].state = .testing then s.call[l].prior.getD .idle else s.call[l].state) ≠ .disabled := by
    split
    · next testing =>
      cases was : s.call[l].prior with
      | none => nofun
      | some state => exact fun same => prior ⟨testing, was.trans (congrArg some same)⟩
    · exact enabled
  unfold lineWritten
  dsimp only
  rw [decide_eq_false enabled, on]

/-! ## What each case makes of the line -/

theorem enableLine_eq (state : s.call[l].state = .disabled) : enableLine l s = { s with
    sup := s.sup.set l {}
    call := s.call.set l { state := .idle }
    brk := s.brk.set l {}
    feed := s.feed.set l (s.feed[l].callTarget .standby)
    arbiter := { s.arbiter with arrivals := s.arbiter.arrivals.filter fun a => a.line ≠ l }
    monitor := { s.monitor with quiet := false } } := by
  have unrung : ¬(s.setSup l Supervision.fresh).call[l].state = .ringing := by
    change ¬s.call[l].state = .ringing
    rw [state]
    nofun
  rw [enableLine, goIdle_frame, if_neg unrung]
  rfl

/-- The state in which the line, which names no bearer any more, has been disabled. -/
def State.disabledAt (s : State) (l : Line) : State := { s with
  sup := s.sup.set l {}
  call := s.call.set l { state := .disabled }
  brk := s.brk.set l {}
  feed := s.feed.set l (s.feed[l].callTarget .openLoop)
  arbiter := { s.arbiter with arrivals := s.arbiter.arrivals.filter fun a => a.line ≠ l }
  ringer := if s.call[l].state = .ringing then s.ringerWithout l else s.ringer }

theorem disableLine_eq :
    disableLine l s = reconsiderIf (s.inHandover l) ((releaseUse l .disabled s).disabledAt l) := by
  have untimed : ((releaseUse l .disabled s).call[l].state.timed && CallState.disabled.timed) = false := Bool.and_false _
  rw [disableLine, enter_frame_quiet (by decide), callTarget_frame]
  simp only [untimed]
  rfl

theorem disabledAt_sameBut : SameBut [.sup, .brk, .feed, .call, .arbiter, .ringer] s (s.disabledAt l) := by
  simp [sameBut_iff, State.disabledAt]

theorem disabledAt_others : OtherLines l s (s.disabledAt l) := fun _ ne =>
  ⟨rfl, (set_get ..).trans (if_neg ne), (set_get ..).trans (if_neg ne), (set_get ..).trans (if_neg ne),
    (set_get ..).trans (if_neg ne)⟩

/-- The line as the disabling leaves it, out of the arrival list and the ring collections. -/
theorem disabled_of (frame : SameBut [.bus, .quietRun] (s.disabledAt l) t) :
    t.call[l] = { state := .disabled } ∧ t.sup[l] = {} ∧ t.brk[l] = {} ∧
      t.feed[l] = s.feed[l].callTarget .openLoop ∧
      t.arbiter.arrivals = s.arbiter.arrivals.filter (fun a => a.line ≠ l) ∧
      t.arbiter.pointer = s.arbiter.pointer ∧
      (s.call[l].state = .ringing → t.ringPlace l = none ∧ t.ringer.counts[l] = 0) ∧
      (s.call[l].state ≠ .ringing → t.ringer = s.ringer) := by
  have arbiter : t.arbiter = (s.disabledAt l).arbiter := frame .arbiter (by decide)
  have ringer : t.ringer = if s.call[l].state = .ringing then s.ringerWithout l else s.ringer := frame .ringer (by decide)
  refine ⟨?_, ?_, ?_, ?_, (congrArg Arbiter.arrivals arbiter).trans rfl,
    (congrArg Arbiter.pointer arbiter).trans rfl, fun ringing => ?_,
    fun unrung => ringer.trans (if_neg unrung)⟩
  · exact (congrArg (fun y : Vector CallRecord 32 => y[l]) (frame .call (by decide))).trans
      ((set_get ..).trans (if_pos rfl))
  · exact (congrArg (fun y : Vector Supervision 32 => y[l]) (frame .sup (by decide))).trans
      ((set_get ..).trans (if_pos rfl))
  · exact (congrArg (fun y : Vector BreakTiming 32 => y[l]) (frame .brk (by decide))).trans
      ((set_get ..).trans (if_pos rfl))
  · exact (congrArg (fun y : Vector Feed 32 => y[l]) (frame .feed (by decide))).trans ((set_get ..).trans (if_pos rfl))
  · exact ⟨ringPlace_without (ringer.trans (if_pos ringing)), counts_without (ringer.trans (if_pos ringing))⟩

/-- A line that loses its bearer to Clearing because it is disabled (R60). -/
theorem releaseUse_disabled (names : s.call[l].bearer = some b) (line : (s.bearer b).line = some l) :
    releaseUse l .disabled s = { s with
      bearers := { s.bearers with
        recs := s.bearers.recs.set b (s.clearingRecord b l)
        connection := s.bearers.connection.filter fun x => x ≠ b }
      arbiter := { s.arbiter with
        handover := if s.arbiter.handover.map Handover.bearer = some b then none else s.arbiter.handover }
      reports := s.reports.append (s.urgentFor l)
        { kind := .release, line := some l, bearer := some b, value := some 2 } } := by
  rw [releaseUse, names]
  dsimp only
  rw [clearBearer_frame_of line]
  rfl

/-- No reconsideration follows where no other Priority line waits. -/
theorem reconsiderIf_disabled (lone : s.arbiter.handover.map Handover.line = some l →
      ∀ a ∈ s.arbiter.arrivals.filter (fun a => a.line ≠ l), a.standing = .waiting → a.cls ≠ .priority)
    (arrivals : v.arbiter.arrivals = s.arbiter.arrivals.filter fun a => a.line ≠ l) :
    reconsiderIf (s.inHandover l) v = v := by
  unfold reconsiderIf
  split
  · next handover =>
    refine reconsider_idle fun a mem => ?_
    rw [arrivals] at mem
    have other := lone (of_decide_eq_true handover) a mem
    simpa [Arrival.waits, and_comm] using other
  · rfl

theorem disableTested_eq (control : s.feed[l].control = .testUnit) : disableTested l s = dropLooks l { s with
    call := s.call.set l
      { s.call[l] with
        prior := some .disabled, cause := none, phase := none, fault := none, retry := none
        timer := none, preemptionTone := none }
    feed := s.feed.set l { s.feed[l] with held := some .openLoop }
    sup := s.sup.set l {} } := by
  rw [disableTested, callTarget_frame]
  dsimp only
  rw [State.setCall_feed, callTarget_testUnit control]
  rfl

theorem enableTested_eq (control : s.feed[l].control = .testUnit) : enableTested l s = { s with
    call := s.call.set l { s.call[l] with prior := some .idle, fault := none }
    feed := s.feed.set l { s.feed[l] with held := some .standby }
    sup := s.sup.set l {}
    monitor := { s.monitor with quiet := false } } := by
  rw [enableTested, callTarget_frame]
  dsimp only
  rw [State.setCall_feed, callTarget_testUnit control]
  rfl

/-- Outside a look, a session whose line has been disabled only becomes forced (R140). -/
theorem dropLooks_forced (session : s.test.session = some x) (line : x.line = l) (noLook : x.phase ≠ .look) :
    dropLooks l s = s.setSession (some { x with mode := .forced }) := by
  unfold dropLooks
  rw [session]
  dsimp only
  rw [if_pos line]
  cases phase : x.phase with
  | look => exact absurd phase noLook
  | _ => rfl

theorem take_far {f : Feed} {k : FeedMode} (away : f.current ≠ k) : (f.take k).steadyIn k = false := by
  cases settling : f.settling with
  | false => exact take_away settling away
  | true =>
    rw [take_settling settling]
    exact Bool.eq_false_iff.mpr fun steady => Bool.false_ne_true ((steadyIn_iff.mp steady).1.symm.trans settling)

/-- A look in progress ends as if clear, and Open is set for the next measurement (R140). -/
theorem dropLooks_look (session : s.test.session = some x) (line : x.line = l) (look : x.phase = .look)
    (more : x.remaining ≠ []) (away : s.feed[l].current ≠ .openLoop) :
    dropLooks l s = s.tested l (s.feed[l].take .openLoop)
      { s.test with
        session := some
          { x with mode := .forced, phase := .measure, present := none, lookCount := 0, timer := none } } := by
  subst line
  obtain ⟨m, ms, remaining⟩ := List.exists_cons_of_ne_nil more
  have unreached : ¬(testTarget x.line .openLoop s).feed[x.line].steadyIn .openLoop = true := by
    rw [testTarget, State.setFeed_get, take_far away]
    nofun
  unfold dropLooks
  rw [session]
  dsimp only
  rw [if_pos rfl, look, remaining]
  dsimp only
  unfold toMeasure
  dsimp only
  rw [if_neg unreached]
  rfl

end

end Sys2Proof.Machine
end

section
/-! Chapter 11, section 11.4: Set Line on a line that stays enabled, and what it does in every call state. -/

namespace Sys2Proof.Machine

section
variable {s t v w : State} {l : Line} {b : Bearer} {n old : LineEntry} {parts : List Part} {x : Session} {k : Fin 4}

/-- At Critical the present level permits the lines of class Priority alone. -/
theorem permitted_critical (critical : s.supply.level = .critical) :
    s.permitted = fun m => decide (s.classOf m = .priority) := by
  funext m
  rw [State.permitted, critical, permits_eq]
  simp

theorem ringClassChange_priority (critical : s.supply.level = .critical) (now : s.classOf l = .priority) :
    ringClassChange l s = { s with
      ringer := { s.ringer with
        phases := (fillWalk (fun m => decide (s.classOf m = .priority)) 1 s.ringer.queue s.ringer.phases).1
        queue := (fillWalk (fun m => decide (s.classOf m = .priority)) 1 s.ringer.queue s.ringer.phases).2 } } := by
  have permitted : s.permitted l = true := by
    rw [permitted_critical critical]
    exact decide_eq_true now
  unfold ringClassChange
  rw [critical]
  dsimp only
  rw [if_pos permitted, fill_frame, permitted_critical critical, critical]
  rfl

/-- A line of a phase whose class is no longer Priority goes to the head of the ring queue (R132). -/
theorem ringClassChange_moved (critical : s.supply.level = .critical) (lesser : s.classOf l ≠ .priority)
    (found : s.ringer.phaseOf l = some k) : ringClassChange l s = { s with
      feed := s.feed.set l (s.feed[l].callTarget .standby)
      ringer := { s.ringer with
        phases := (fillWalk (fun m => decide (s.classOf m = .priority)) 1 (l :: s.ringer.queue)
          (s.ringer.phases.set k (s.ringer.phases[k].filter fun m => m ≠ l))).1
        queue := (fillWalk (fun m => decide (s.classOf m = .priority)) 1 (l :: s.ringer.queue)
          (s.ringer.phases.set k (s.ringer.phases[k].filter fun m => m ≠ l))).2 } } := by
  have refused : ¬s.permitted l = true := by
    rw [permitted_critical critical]
    exact fun same => lesser (of_decide_eq_true same)
  have permitted : (callTarget l .standby (s.setRinger { s.ringer with
      phases := s.ringer.phases.set k (s.ringer.phases[k].filter fun m => m ≠ l)
      queue := l :: s.ringer.queue })).permitted = fun m => decide (s.classOf m = .priority) :=
    permitted_critical (s := callTarget l .standby (s.setRinger { s.ringer with
      phases := s.ringer.phases.set k (s.ringer.phases[k].filter fun m => m ≠ l)
      queue := l :: s.ringer.queue })) critical
  have room : (callTarget l .standby (s.setRinger { s.ringer with
      phases := s.ringer.phases.set k (s.ringer.phases[k].filter fun m => m ≠ l)
      queue := l :: s.ringer.queue })).supply.level.ringCapacity = 1 := congrArg Level.ringCapacity critical
  unfold ringClassChange
  rw [critical]
  dsimp only
  rw [if_neg refused, found]
  dsimp only
  rw [fill_frame, permitted, room]
  rfl

theorem ringClassChange_out (critical : s.supply.level = .critical) (lesser : s.classOf l ≠ .priority)
    (out : ∀ k : Fin 4, l ∉ s.ringer.phases[k]) : ringClassChange l s = s := by
  have refused : ¬s.permitted l = true := by
    rw [permitted_critical critical]
    exact fun same => lesser (of_decide_eq_true same)
  have noPhase : s.ringer.phaseOf l = none := by
    rw [← Option.not_isSome_iff_eq_none, phaseOf_isSome]
    exact fun ⟨k, mem⟩ => out k mem
  unfold ringClassChange
  rw [critical]
  dsimp only
  rw [if_neg refused, noPhase]

theorem ringClassChange_uncritical (level : s.supply.level ≠ .critical) : ringClassChange l s = s := by
  unfold ringClassChange
  cases now : s.supply.level with
  | critical => exact absurd now level
  | _ => rfl

theorem phaseOf_ringPlace (place : s.ringPlace l = some (.phase k)) : s.ringer.phaseOf l = some k := by
  unfold State.ringPlace at place
  cases found : s.ringer.phaseOf l with
  | some j =>
    rw [found] at place
    cases place
    rfl
  | none =>
    rw [found] at place
    dsimp only at place
    split at place <;> nomatch place

theorem recounted_eq : recounted l old n s = { s with
    sup := s.sup.set l
      (if old.profile = n.profile then s.sup[l]
        else { s.sup[l] with hookCount := 0, overCount := 0, foreignCount := 0 }) } := by
  unfold recounted
  by_cases same : old.profile = n.profile
  · rw [if_neg (not_not.mpr same), if_pos same]
    exact congrArg (fun y => { s with sup := y }) (Vector.set_getElem_self l.isLt).symm
  · rw [if_pos same, if_neg same]
    rfl

/-- A line whose class stays, or that does not ring, or at a level other than Critical, has its counts set alone. -/
theorem rewriteLine_recounts
    (apart : s.call[l].state ≠ .ringing ∨ old.cls = n.cls ∨ s.supply.level ≠ .critical) :
    rewriteLine l old n s = recounted l old n s := by
  have call : (recounted l old n s).call = s.call := recounted_sameBut .call (by decide)
  have supply : (recounted l old n s).supply = s.supply := recounted_sameBut .supply (by decide)
  rw [rewriteLine_eq, call]
  split
  · next rings =>
    refine ringClassChange_uncritical ?_
    rw [supply]
    exact (apart.resolve_left (not_not.mpr rings.2)).resolve_left rings.1
  · rfl

theorem rewriteLine_follows (ringing : s.call[l].state = .ringing) (differs : old.cls ≠ n.cls) :
    rewriteLine l old n s = ringClassChange l (recounted l old n s) := by
  have call : (recounted l old n s).call = s.call := recounted_sameBut .call (by decide)
  rw [rewriteLine_eq, call, if_pos ⟨differs, ringing⟩]

/-! ## The cases as the request reports them -/

theorem enableLine_leaves (state : s.call[l].state = .disabled) :
    SameBut ([.quietRun] ++ [.sup, .brk, .feed, .call, .arbiter]) s (enableLine l s) ∧
      OtherLines l s (enableLine l s) ∧ (enableLine l s).monitor.quiet = false ∧
      (enableLine l s).call[l] = { state := .idle } ∧ (enableLine l s).sup[l] = {} ∧
      (enableLine l s).feed[l] = s.feed[l].callTarget .standby := by
  rw [enableLine_eq state]
  refine ⟨?_, fun _ ne => ⟨rfl, (set_get ..).trans (if_neg ne), (set_get ..).trans (if_neg ne),
    (set_get ..).trans (if_neg ne), (set_get ..).trans (if_neg ne)⟩, rfl, (set_get ..).trans (if_pos rfl),
    (set_get ..).trans (if_pos rfl), (set_get ..).trans (if_pos rfl)⟩
  simp [sameBut_iff, Monitor.watch]

theorem enableTested_leaves (control : s.feed[l].control = .testUnit) :
    SameBut ([.quietRun] ++ [.sup, .feed, .call]) s (enableTested l s) ∧ OtherLines l s (enableTested l s) ∧
      (enableTested l s).monitor.quiet = false ∧
      (enableTested l s).call[l] = { s.call[l] with prior := some .idle, fault := none } ∧
      (enableTested l s).sup[l] = {} ∧ (enableTested l s).feed[l] = { s.feed[l] with held := some .standby } := by
  rw [enableTested_eq control]
  refine ⟨?_, fun _ ne => ⟨rfl, (set_get ..).trans (if_neg ne), rfl,
    (set_get ..).trans (if_neg ne), (set_get ..).trans (if_neg ne)⟩, rfl, (set_get ..).trans (if_pos rfl),
    (set_get ..).trans (if_pos rfl), (set_get ..).trans (if_pos rfl)⟩
  simp [sameBut_iff, Monitor.watch]

/-- The state of the line under test as its disabling leaves it, before the session's looks are dropped. -/
def State.testedDisabled (s : State) (l : Line) : State := { s with
  call := s.call.set l
    { s.call[l] with
      prior := some .disabled, cause := none, phase := none, fault := none, retry := none
      timer := none, preemptionTone := none }
  feed := s.feed.set l { s.feed[l] with held := some .openLoop }
  sup := s.sup.set l {} }

theorem dropLooks_otherLines : OtherLines l s (dropLooks l s) := by
  have targeted {k : FeedMode} {v : State} : OtherLines l v (testTarget l k v) := testTarget_otherLines
  have tested {y : TestUnit} {v : State} : OtherLines l v (v.setTest y) := .ofSameBut setTest_sameBut (by decide)
  unfold dropLooks
  split
  · next x _ =>
    split
    · next line =>
      subst line
      dsimp only
      split
      · unfold toMeasure
        dsimp only
        split
        · exact targeted.trans tested
        · exact targeted.trans tested
      · exact tested
    · exact .refl l s
  · exact .refl l s

/-- What the disabling of the line under test leaves, whatever it makes of the session. -/
theorem disableTested_leaves (control : s.feed[l].control = .testUnit) :
    SameBut ([.quietRun] ++ [.sup, .feed, .call, .test]) s (disableTested l s) ∧ OtherLines l s (disableTested l s) ∧
      (disableTested l s).sup[l] = {} ∧ (disableTested l s).call[l] =
        { s.call[l] with
          prior := some .disabled, cause := none, phase := none, fault := none, retry := none
          timer := none, preemptionTone := none } := by
  have drops : disableTested l s = dropLooks l (s.testedDisabled l) := disableTested_eq control
  have disabled : SameBut ([.quietRun] ++ [.sup, .feed, .call, .test]) s (s.testedDisabled l) := by
    simp [sameBut_iff, State.testedDisabled]
  have others : OtherLines l s (s.testedDisabled l) := fun _ ne => ⟨rfl, (set_get ..).trans (if_neg ne), rfl,
    (set_get ..).trans (if_neg ne), (set_get ..).trans (if_neg ne)⟩
  have dropped : SameBut [.test, .feed] (s.testedDisabled l) (dropLooks l (s.testedDisabled l)) := dropLooks_sameBut
  rw [drops]
  refine ⟨SameBut.then disabled dropped (by decide), others.trans dropLooks_otherLines, ?_, ?_⟩
  · exact (congrArg (fun y : Vector Supervision 32 => y[l]) (dropped .sup (by decide))).trans
      ((set_get ..).trans (if_pos rfl))
  · exact (congrArg (fun y : Vector CallRecord 32 => y[l]) (dropped .call (by decide))).trans
      ((set_get ..).trans (if_pos rfl))

theorem testedDisabled_feed : (s.testedDisabled l).feed[l] = { s.feed[l] with held := some .openLoop } :=
  (set_get ..).trans (if_pos rfl)

theorem disableTested_forced (control : s.feed[l].control = .testUnit) (session : s.test.session = some x)
    (line : x.line = l) (noLook : x.phase ≠ .look) :
    (disableTested l s).feed[l] = { s.feed[l] with held := some .openLoop } ∧
      (disableTested l s).test = { s.test with session := some { x with mode := .forced } } := by
  have drops : disableTested l s = (s.testedDisabled l).setSession (some { x with mode := .forced }) :=
    (disableTested_eq control).trans (dropLooks_forced (s := s.testedDisabled l) session line noLook)
  rw [drops]
  exact ⟨testedDisabled_feed, rfl⟩

theorem disableTested_look (control : s.feed[l].control = .testUnit) (session : s.test.session = some x)
    (line : x.line = l) (look : x.phase = .look) (more : x.remaining ≠ []) (away : s.feed[l].current ≠ .openLoop) :
    (disableTested l s).feed[l] = ({ s.feed[l] with held := some .openLoop } : Feed).take .openLoop ∧
      (disableTested l s).test = { s.test with
        session := some
          { x with mode := .forced, phase := .measure, present := none, lookCount := 0, timer := none } } := by
  have drops : disableTested l s = _ := (disableTested_eq control).trans (dropLooks_look (s := s.testedDisabled l)
    session line look more (by rw [testedDisabled_feed]; exact away))
  rw [drops]
  refine ⟨tested_feed.trans ?_, rfl⟩
  rw [testedDisabled_feed]

theorem disableLine_lone (lone : s.arbiter.handover.map Handover.line = some l →
      ∀ a ∈ s.arbiter.arrivals.filter (fun a => a.line ≠ l), a.standing = .waiting → a.cls ≠ .priority)
    (arrivals : (releaseUse l .disabled s).arbiter.arrivals = s.arbiter.arrivals) :
    disableLine l s = (releaseUse l .disabled s).disabledAt l := by
  rw [disableLine_eq, reconsiderIf_disabled lone]
  exact congrArg (fun y : List Arrival => y.filter fun a => a.line ≠ l) arrivals

/-- The state in which a line that is disabled has lost its bearer to Clearing (R60). -/
def State.disabledUse (s : State) (l : Line) (b : Bearer) : State := { s with
  bearers := { s.bearers with
    recs := s.bearers.recs.set b (s.clearingRecord b l)
    connection := s.bearers.connection.filter fun x => x ≠ b }
  arbiter := { s.arbiter with
    handover := if s.arbiter.handover.map Handover.bearer = some b then none else s.arbiter.handover }
  reports := s.reports.append (s.urgentFor l)
    { kind := .release, line := some l, bearer := some b, value := some 2 } }

theorem disabledUse_leaves :
    SameBut ([.quietRun] ++ [.sup, .brk, .feed, .call, .bearers, .arbiter, .ringer, .reports]) s
        ((s.disabledUse l b).disabledAt l) ∧
      OtherLines l s ((s.disabledUse l b).disabledAt l) := by
  have used : SameBut ([.quietRun] ++ [.sup, .brk, .feed, .call, .bearers, .arbiter, .ringer, .reports]) s
      (s.disabledUse l b) := by
    simp [sameBut_iff, State.disabledUse]
  have others : OtherLines l s (s.disabledUse l b) := fun _ _ => ⟨rfl, rfl, rfl, rfl, rfl⟩
  exact ⟨SameBut.then used disabledAt_sameBut (by decide), others.trans disabledAt_others⟩

end

/-- Settles O56: the entry is replaced, and then each case of the line's state before and after it. -/
theorem setLineEnablesAndDisables : Obligations.SetLineEnablesAndDisables := by
  intro s l enabled profile cls preemptible p c h yes table named may u new command becomes unlisted
  have answer : reqSetLine (BitVec.ofNat 8 l.val) enabled profile cls preemptible u =
      (lineWritten l u.entries[l] new (u.setEntry l new), .accepted) :=
    reqSetLine_accepts yes table named may
  obtain ⟨w, written⟩ : ∃ w, w = u.setEntry l new := ⟨_, rfl⟩
  rw [← written] at answer
  have runs {v : State} (same : lineWritten l u.entries[l] new w = v) (bus : v.bus = u.bus) :
      ∃ t, exec command s = .next t ∧ SameBut [.bus, .quietRun] v t ∧ Replied .accepted s t ∧
        (v.monitor.quiet = false → t.monitor.quiet = false) := by
    rw [same] at answer
    obtain ⟨frame, replied⟩ := unit_replies (allowed := false) h answer bus
    exact ⟨_, rfl, frame, replied, unit_quiet h answer⟩
  have becomes_of {v : State} (parts : List Part) (same : lineWritten l u.entries[l] new w = v)
      (change : SameBut ([.quietRun] ++ parts) w v) (others : OtherLines l w v)
      (kept : Part.entries ∉ parts) (bus : Part.bus ∉ parts) :
      ∃ t, becomes parts t ∧ SameBut [.bus, .quietRun] v t ∧ (v.monitor.quiet = false → t.monitor.quiet = false) := by
    obtain ⟨t, next, frame, replied, quiet⟩ := runs same (Eq.trans (change .bus (by simp [bus])) (by rw [written]; rfl))
    rw [written] at change others
    obtain ⟨all, entries, lines⟩ := written_of frame change others kept
    exact ⟨t, ⟨next, all, entries, replied, lines⟩, frame, quiet⟩
  have call : w.call = s.call := by rw [written]; exact atRequest_call
  have sup : w.sup = s.sup := by rw [written]; exact atRequest_sup
  have brk : w.brk = s.brk := by rw [written]; exact atRequest_brk
  have entries : w.entries = s.entries.set l new := by
    rw [written]
    exact congrArg (fun y : Vector LineEntry 32 => y.set l new) atRequest_entries
  have feed : w.feed = s.feed := by rw [written]; exact atRequest_feed
  have on (one : enabled.toNat = 1) : new.enabled = true := decide_eq_true one
  have off (zero : enabled.toNat = 0) : new.enabled = false := decide_eq_false (by omega)
  have arbiter : w.arbiter = s.arbiter := by rw [written]; exact atRequest_arbiter
  have ringer : w.ringer = s.ringer := by rw [written]; exact atRequest_ringer
  have bearers : w.bearers = s.bearers := by rw [written]; exact atRequest_bearers
  have bearer (b : Bearer) : w.bearer b = s.bearer b := by rw [State.bearer, bearers]; rfl
  have supply : w.supply = s.supply := by rw [written]; exact atRequest_supply
  have test : w.test = s.test := by rw [written]; exact atRequest_test
  have clearing {b : Bearer} : w.clearingRecord b l = s.clearingRecord b l := by
    have tables : w.tables = s.tables := by rw [written]; exact atRequest_tables
    rw [State.clearingRecord, State.clearingRecord, bearer, tables]
  have urgent : w.urgentFor l = decide (c = .priority) := by
    have cls : w.classOf l = c := by
      rw [written, State.classOf, State.setEntry_get]
    rw [State.urgentFor, cls]
  have reportsNow : w.reports = u.reports := by rw [written]; rfl
  have record (m : Line) : w.call[m] = s.call[m] := by rw [call]
  have feeds (m : Line) : w.feed[m] = s.feed[m] := by rw [feed]
  have line {v t : State} (frame : SameBut [.bus, .quietRun] v t) :
      t.call[l] = v.call[l] ∧ t.sup[l] = v.sup[l] ∧ t.feed[l] = v.feed[l] :=
    ⟨congrArg (fun y : Vector CallRecord 32 => y[l]) (frame .call (by decide)),
      congrArg (fun y : Vector Supervision 32 => y[l]) (frame .sup (by decide)),
      congrArg (fun y : Vector Feed 32 => y[l]) (frame .feed (by decide))⟩
  refine ⟨fun state one => ?_, fun state zero => ?_, fun some untested zero lone => ?_, ?_,
    fun testing control => ⟨fun prior zero x session its => ?_, fun prior one => ?_⟩, fun some tested one => ?_⟩
  · have state' : w.call[l].state = .disabled := by rw [record, state]
    obtain ⟨change, others, ended, idle, fresh, target⟩ := enableLine_leaves state'
    obtain ⟨t, becomes, frame, quiet⟩ := becomes_of [.sup, .brk, .feed, .call, .arbiter]
      (lineWritten_enables state' (on one)) change others (by decide) (by decide)
    obtain ⟨call, sup, feed⟩ := line frame
    refine ⟨t, becomes, quiet ended, call.trans idle, sup.trans fresh, feed.trans (target.trans ?_)⟩
    rw [feeds]
  · have stays := lineWritten_stays (old := u.entries[l]) (by rw [record]; exact state) (off zero)
    obtain ⟨t, becomes, -⟩ := becomes_of [] stays (.refl _ w) (.refl l w) (by decide) (by decide)
    exact ⟨t, becomes⟩
  · have untested' : w.call[l].state ≠ .testing := by rw [record]; exact untested
    have disables := lineWritten_disables (old := u.entries[l]) (by rw [record]; exact some) untested' (off zero)
    have lone' : w.arbiter.handover.map Handover.line = Option.some l →
        ∀ a ∈ w.arbiter.arrivals.filter (fun a => a.line ≠ l), a.standing = .waiting → a.cls ≠ .priority := by
      rw [arbiter]
      exact lone
    intro disabled
    refine ⟨fun unnamed => ?_, fun b names named => ?_⟩
    · have unused : releaseUse l .disabled w = w := releaseUse_none (by rw [record]; exact unnamed)
      have lost := disableLine_lone lone' (by rw [unused])
      rw [unused] at lost
      obtain ⟨t, becomes, frame, -⟩ := becomes_of [.sup, .brk, .feed, .call, .arbiter, .ringer] (disables.trans lost)
        (.mono (by decide) disabledAt_sameBut) disabledAt_others (by decide) (by decide)
      have left := disabled_of frame
      rw [record, feeds, arbiter, ringer] at left
      have arbiterNow : t.arbiter = (w.disabledAt l).arbiter := frame .arbiter (by decide)
      have handover : t.arbiter.handover = w.arbiter.handover := by rw [arbiterNow]; rfl
      exact ⟨t, becomes, left, by rw [handover, arbiter]⟩
    · have used : releaseUse l .disabled w = w.disabledUse l b :=
        releaseUse_disabled (by rw [record]; exact names) (by rw [bearer]; exact named)
      have lost := disableLine_lone lone' (by rw [used]; rfl)
      rw [used] at lost
      obtain ⟨t, becomes, frame, -⟩ := becomes_of [.sup, .brk, .feed, .call, .bearers, .arbiter, .ringer, .reports]
        (disables.trans lost) disabledUse_leaves.1 disabledUse_leaves.2 (by decide) (by decide)
      have left := disabled_of frame
      have bearersNow : t.bearers = (w.disabledUse l b).bearers := frame .bearers (by decide)
      have arbiterNow : t.arbiter = ((w.disabledUse l b).disabledAt l).arbiter := frame .arbiter (by decide)
      have handover : t.arbiter.handover = (w.disabledUse l b).arbiter.handover := by rw [arbiterNow]; rfl
      have reports : t.reports = (w.disabledUse l b).reports := frame .reports (by decide)
      change t.call[l] = _ ∧ t.sup[l] = _ ∧ t.brk[l] = _ ∧ t.feed[l] = w.feed[l].callTarget .openLoop ∧
        t.arbiter.arrivals = w.arbiter.arrivals.filter (fun a => a.line ≠ l) ∧
        t.arbiter.pointer = w.arbiter.pointer ∧
        (w.call[l].state = .ringing → t.ringPlace l = none ∧ t.ringer.counts[l] = 0) ∧
        (w.call[l].state ≠ .ringing → t.ringer = w.ringer) at left
      rw [record, feeds, arbiter, ringer] at left
      refine ⟨t, becomes, left, fun d ne => ?_, ?_, ?_, ?_, ?_, ?_⟩
      · rw [State.bearer, bearersNow]
        exact ((set_get ..).trans (if_neg ne)).trans (bearer d)
      · rw [SameLink, bearersNow]
        have link : w.bearers.linkUp = s.bearers.linkUp ∧ w.bearers.inService = s.bearers.inService := by rw [bearers]; exact ⟨rfl, rfl⟩
        exact link
      · rw [State.bearer, bearersNow]
        exact ((set_get ..).trans (if_pos rfl)).trans clearing
      · rw [bearersNow]
        exact congrArg (fun y : BearerTable => y.connection.filter fun x => x ≠ b) bearers
      · rw [handover]
        exact congrArg (fun y : Arbiter => if y.handover.map Handover.bearer = Option.some b then none else y.handover) arbiter
      · rw [reports, ← urgent, ← reportsNow]
        rfl
  · intro b left state zero names named handover v
    have unrung : ¬(w.disabledUse l b).call[l].state = .ringing := by
      change ¬w.call[l].state = .ringing
      rw [record, state]
      nofun
    have abandoned : w.inHandover l = true := by
      rw [State.inHandover, arbiter, handover]
      exact decide_eq_true rfl
    have disables := lineWritten_disables (old := u.entries[l]) (by rw [record, state]; nofun)
      (by rw [record, state]; nofun) (off zero)
    have used : releaseUse l .disabled w = w.disabledUse l b :=
      releaseUse_disabled (by rw [record]; exact names) (by rw [bearer]; exact named)
    have gone : (w.disabledUse l b).disabledAt l = v := by
      rw [State.disabledAt, if_neg unrung, State.disabledUse, urgent, clearing, arbiter, bearers]
      dsimp only
      rw [entries, sup, brk, feed, call, if_pos (by rw [handover]; rfl), written]
      rfl
    have reconsiders : lineWritten l u.entries[l] new w = reconsider v := by
      rw [disables, disableLine_eq, used, abandoned, gone]
      rfl
    obtain ⟨t, next, frame, replied, -⟩ := runs reconsiders (reconsider_sameBut .bus (by decide))
    exact ⟨t, next, replied, frame⟩
  · have control' : w.feed[l].control = .testUnit := by rw [feeds, control]
    have disables := lineWritten_disablesTested (old := u.entries[l]) (by rw [record]; exact testing)
      (by rw [record]; exact prior) (off zero)
    obtain ⟨change, others, fresh, suspended⟩ := disableTested_leaves control'
    obtain ⟨t, becomes, frame, -⟩ := becomes_of [.sup, .feed, .call, .test] disables change others (by decide) (by decide)
    obtain ⟨call, sup, feed⟩ := line frame
    have testNow : t.test = (disableTested l w).test := frame .test (by decide)
    have session' : w.test.session = some x := by rw [test]; exact session
    rw [record] at suspended
    refine ⟨t, becomes, sup.trans fresh, call.trans suspended, fun noLook => ?_, fun look more away => ?_⟩
    · obtain ⟨target, forced⟩ := disableTested_forced control' session' its noLook
      rw [feed, testNow, target, forced, feeds, test]
      exact ⟨rfl, rfl⟩
    · obtain ⟨target, forced⟩ := disableTested_look control' session' its look more (by rw [feeds]; exact away)
      rw [feed, testNow, target, forced, feeds, test]
      exact ⟨rfl, rfl⟩
  · have control' : w.feed[l].control = .testUnit := by rw [feeds, control]
    have enables := lineWritten_enablesTested (old := u.entries[l]) (by rw [record]; exact testing)
      (by rw [record]; exact prior) (on one)
    obtain ⟨change, others, ended, idle, fresh, target⟩ := enableTested_leaves control'
    obtain ⟨t, becomes, frame, quiet⟩ := becomes_of [.sup, .feed, .call] enables change others (by decide) (by decide)
    obtain ⟨call, sup, feed⟩ := line frame
    rw [record] at idle
    rw [feeds] at target
    exact ⟨t, becomes, sup.trans fresh, quiet ended, call.trans idle, feed.trans target⟩
  · intro counts
    have before : u.entries[l] = s.entries[l] := congrArg (fun y : Vector LineEntry 32 => y[l]) atRequest_entries
    have rewrites := lineWritten_rewrites (old := u.entries[l]) (by rw [record]; exact some) (by rw [record]; exact tested)
      (on one)
    obtain ⟨z, counted⟩ : ∃ z : State, z = { w with sup := s.sup.set l counts } := ⟨_, rfl⟩
    have recounts : recounted l u.entries[l] new w = z := by
      rw [recounted_eq, counted, sup, before]
    have reset : SameBut [.sup] w z := by simp [sameBut_iff, counted]
    have othersKept : OtherLines l w z := by
      rw [counted]
      exact fun m ne => ⟨rfl, ((set_get ..).trans (if_neg ne)).trans (by rw [sup]), rfl, rfl, rfl⟩
    refine ⟨fun apart => ?_, fun ringing differs critical => ?_⟩
    · have stays : rewriteLine l u.entries[l] new w = z := by
        rw [rewriteLine_recounts, recounts]
        rw [record, before, supply]
        exact apart
      obtain ⟨t, becomes, frame, -⟩ := becomes_of [.sup] (rewrites.trans stays) (.mono (by decide) reset) othersKept
        (by decide) (by decide)
      refine ⟨t, becomes, (line frame).2.1.trans ?_⟩
      rw [counted]
      exact (set_get ..).trans (if_pos rfl)
    · intro permitted
      have follows : rewriteLine l u.entries[l] new w = ringClassChange l z := by
        rw [rewriteLine_follows (by rw [record]; exact ringing) (by rw [before]; exact differs), recounts]
      have changes : SameBut [.ringer, .feed] z (ringClassChange l z) := ringClassChange_sameBut
      have critical' : z.supply.level = .critical := by rw [counted]; exact (congrArg Supply.level supply).trans critical
      have ringer' : z.ringer = s.ringer := by rw [counted]; exact ringer
      have feed' : z.feed = s.feed := by rw [counted]; exact feed
      have entries' : z.entries = s.entries.set l new := by rw [counted]; exact entries
      have cls : z.classOf l = c := by
        rw [State.classOf, entries']
        exact congrArg LineEntry.cls ((set_get ..).trans (if_pos rfl))
      have permits : (fun m => decide (z.classOf m = .priority)) = permitted := by
        funext m
        rw [State.classOf, entries']
      obtain ⟨t, next, frame, replied, -⟩ := runs (rewrites.trans follows)
        ((changes .bus (by decide)).trans ((reset .bus (by decide)).trans (by rw [written]; rfl)))
      have entry : SameBut [.entries] u w := by
        rw [written]
        exact setEntry_sameBut
      have feedNow : t.feed = (ringClassChange l z).feed := frame .feed (by decide)
      have ringerNow : t.ringer = (ringClassChange l z).ringer := frame .ringer (by decide)
      have rewritten : SameBut [.entries, .sup, .feed, .ringer, .bus, .quietRun] u (ringClassChange l z) :=
        SameBut.then (SameBut.then (.mono (by decide) entry) reset (by decide)) changes (by decide)
      refine ⟨t, next, SameBut.then rewritten frame (by decide), replied, ?_, ?_, fun priority => ?_,
        fun k lesser place => ?_, fun out lesser => ?_⟩
      · exact Eq.trans (frame .entries (by decide)) (Eq.trans (changes .entries (by decide)) entries')
      · refine Eq.trans (frame .sup (by decide)) (Eq.trans (changes .sup (by decide)) ?_)
        rw [counted]
      · rw [feedNow, ringerNow, ringClassChange_priority critical' (cls.trans priority), permits, ringer', feed']
        exact ⟨rfl, rfl⟩
      · have found : z.ringer.phaseOf l = Option.some k := by
          rw [ringer']
          exact phaseOf_ringPlace place
        rw [feedNow, ringerNow, ringClassChange_moved critical' (cls ▸ lesser) found, permits, ringer', feed']
        exact ⟨rfl, rfl⟩
      · rw [feedNow, ringerNow, ringClassChange_out critical' (cls ▸ lesser) (by rw [ringer']; exact out), ringer', feed']
        exact ⟨rfl, rfl⟩

end Sys2Proof.Machine
end

section
/-! Chapter 5, section 5.8: what an accepted Incoming does, and the placement of a line that rings (7, section 7.3). -/

namespace Sys2Proof.Machine

section
variable {s t u : State} {l m : Line} {b c : Bearer} {p q : Fin 4} {n : Nat} {ring : Byte} {r : BearerRecord}

/-! ## The request -/

theorem reqIncoming_carries (state : s.call[l].state = .idle ∨ s.call[l].state = .waiting ∨ s.call[l].state = .seizing)
    (may : (endQuiet s).incomingBearer l b = true) (few : ring.toNat ≤ 1) :
    reqIncoming (BitVec.ofNat 8 l.val) (BitVec.ofNat 8 b.val) ring s =
      (carryIncoming l b (decide (ring.toNat = 1)) (endQuiet s), .accepted) := by
  have call : (endQuiet s).call[l] = s.call[l] := rfl
  unfold reqIncoming
  dsimp only
  rw [lineOfByte_of (toNat_lineByte l).symm, bearerOfByte_of (toNat_bearerByte b).symm]
  dsimp only
  rw [if_neg (by omega), call, if_pos may]
  rcases state with idle | waiting | seizing
  · rw [idle]
  · rw [waiting]
  · rw [seizing]

/-- An Incoming that is carried out, in the terms of the state that its carrying out leaves. -/
theorem incoming_runs (h : s.receives = true)
    (state : s.call[l].state = .idle ∨ s.call[l].state = .waiting ∨ s.call[l].state = .seizing)
    (may : (endQuiet s.atRequest).incomingBearer l b = true) (few : ring.toNat ≤ 1) :
    ∃ t, exec (.incoming .unit (BitVec.ofNat 8 l.val) (BitVec.ofNat 8 b.val) ring) s = .next t ∧
      SameBut [.bus, .quietRun] (carryIncoming l b (decide (ring.toNat = 1)) (endQuiet s.atRequest)) t ∧
      Replied .accepted s t ∧ t.monitor.quiet = false := by
  have answer := reqIncoming_carries (s := s.atRequest) (l := l) (b := b) (ring := ring)
    (by rw [atRequest_call]; exact state) may few
  have carried : SameBut callParts (endQuiet s.atRequest) _ :=
    carryIncoming_sameBut (l := l) (b := b) (ring := decide (ring.toNat = 1))
  obtain ⟨frame, replied⟩ := unit_replies (allowed := false) h answer (carried .bus (by decide))
  exact ⟨_, rfl, frame, replied, unit_quiet h answer (carried .quietRun (by decide)).1⟩

/-- No line yields an Idle bearer. -/
theorem carryIncoming_idle {on : Bool} (idle : (s.bearer b).state = .idle) :
    carryIncoming l b on s = reconsiderIf (s.inHandover l) (acceptIncoming l b on s) := by
  have yields : s.yielder l b = none := if_neg fun held => by rw [idle] at held; exact nomatch held.1
  unfold carryIncoming
  dsimp only
  rw [yields]
  change reconsiderIf (s.inHandover l || false) _ = _
  rw [Bool.or_false]

/-- Another line yields the bearer that is Held for it. -/
theorem carryIncoming_yields {on : Bool} (held : (s.bearer b).state = .held) (line : (s.bearer b).line = some m)
    (other : m ≠ l) (free : s.inHandover l = false) : carryIncoming l b on s =
      reconsiderIf ((placeYielded m s).yieldedPriority (some m)) (acceptIncoming l b on (placeYielded m s)) := by
  have yields : s.yielder l b = some m := by
    rw [State.yielder, if_pos ⟨held, by rw [line]; exact fun same => other (Option.some.inj same)⟩, line]
  unfold carryIncoming
  dsimp only
  rw [yields, free]
  rfl

/-! ## The incoming line's own changes (R90, R91) -/

/-- The state in which the line is connected on the bearer, whose record is `r` then. -/
def State.inSpeech (s : State) (l : Line) (b : Bearer) (r : BearerRecord) : State := { s with
  call := s.call.set l { state := .connected, bearer := some b, path := .bearer b }
  bearers := { s.bearers with recs := s.bearers.recs.set b r, connection := s.bearers.connection ++ [b] }
  arbiter := { s.arbiter with arrivals := s.arbiter.arrivals.filter fun a => a.line ≠ l } }

theorem acceptIncoming_idle (idle : s.call[l].state = .idle) : acceptIncoming l b false s =
    { s.inSpeech l b ((s.bearer b).give .engaged l) with
      brk := s.brk.set l {}, feed := s.feed.set l (s.feed[l].callTarget .active) } := by
  have now : (engage b l s).call[l].state = .idle := idle
  unfold acceptIncoming
  rw [idle]
  dsimp only
  rw [if_neg Bool.false_ne_true, callTarget_frame, enter_frame_unrung (by rw [now]; nofun), engage_frame]
  simp only [idle]
  rfl

/-- A line that waits or seizes is connected in place, with an Answer report. -/
theorem connect_joined (timed : s.call[l].state = .waiting ∨ s.call[l].state = .seizing) :
    (enter l (connectedRecord b) (engage b l s)).lineReport .answer l (some b) none =
      { s.inSpeech l b ((s.bearer b).give .engaged l) with
        reports := s.reports.append (s.urgentFor l) { kind := .answer, line := some l, bearer := some b } } := by
  have unrung : (engage b l s).call[l].state ≠ .ringing := by
    change s.call[l].state ≠ .ringing
    rcases timed with now | now <;> rw [now] <;> nofun
  have both : (s.call[l].state.timed && CallState.connected.timed) = true := by
    rcases timed with now | now <;> rw [now] <;> rfl
  rw [enter_frame_unrung unrung, engage_frame, lineReport_eq]
  simp only [connectedRecord, both]
  rfl

theorem acceptIncoming_waiting {on : Bool} (waiting : s.call[l].state = .waiting) (unnamed : s.call[l].bearer = none) :
    acceptIncoming l b on s = { s.inSpeech l b ((s.bearer b).give .engaged l) with
      reports := s.reports.append (s.urgentFor l) { kind := .answer, line := some l, bearer := some b } } := by
  have own : withdrawOwn l s = s := by rw [withdrawOwn, unnamed]
  unfold acceptIncoming
  rw [waiting]
  dsimp only
  rw [own]
  exact connect_joined (.inl waiting)

/-- The state in which the line's own seize on bearer `c` has been withdrawn with report `e`. -/
def State.withdrawnFrom (s : State) (l : Line) (c : Bearer) (e : Report) : State := { s with
  bearers := { s.bearers with
    recs := s.bearers.recs.set c (s.clearingRecord c l)
    connection := s.bearers.connection.filter fun x => x ≠ c }
  arbiter := { s.arbiter with
    handover := if s.arbiter.handover.map Handover.bearer = some c then none else s.arbiter.handover }
  reports := s.reports.append (s.urgentFor l) e }

theorem withdrawOwn_eq (names : s.call[l].bearer = some c) (line : (s.bearer c).line = some l) : withdrawOwn l s =
    s.withdrawnFrom l c (if (s.bearer c).state = .handover
      then { kind := .release, line := some l, bearer := some c, value := some 3 }
      else { kind := .withdraw, line := some l, bearer := some c }) := by
  unfold withdrawOwn
  rw [names]
  dsimp only
  rw [clearBearer_frame_of line]
  split <;> rfl

theorem acceptIncoming_seizing {on : Bool} (seizing : s.call[l].state = .seizing) :
    acceptIncoming l b on s = (enter l (connectedRecord b) (engage b l (withdrawOwn l s))).lineReport .answer l (some b) none := by
  unfold acceptIncoming
  rw [seizing]

/-! ## The line that yields its bearer (R92, R112) -/

theorem arrivalClass_of {a : Arrival} (found : (s.arbiter.arrivals.find? fun x => x.line = m) = some a) :
    s.arrivalClass m = a.cls := by
  rw [State.arrivalClass, found]

/-- A new standing changes no class of the arrival list. -/
theorem arrivalClass_restood {a : Arrival} {st : Standing}
    (found : (s.arbiter.arrivals.find? fun x => x.line = m) = some a)
    (restood : t.arbiter.arrivals = s.arbiter.arrivals.map fun x => if x.line = m then { x with standing := st } else x) :
    t.arrivalClass m = a.cls := by
  have line (x : Arrival) : (if x.line = m then { x with standing := st } else x).line = x.line := by split <;> rfl
  have cls (x : Arrival) : (if x.line = m then { x with standing := st } else x).cls = x.cls := by split <;> rfl
  rw [State.arrivalClass, restood, List.find?_map]
  have same : ((fun x : Arrival => decide (x.line = m)) ∘ fun x => if x.line = m then { x with standing := st } else x) =
      fun x => decide (x.line = m) := funext fun x => by rw [Function.comp_apply, line]
  rw [same, found]
  exact cls a

/-- The state in which the yielding line has the new record `n`, whose timer and path are those of its new state. -/
def State.yieldedTo (s : State) (m : Line) (n : CallRecord) (st : Standing) : State := { s with
  call := s.call.set m { n with early := s.call[m].early, lost := s.call[m].lost }
  arbiter := { s.arbiter with
    arrivals := s.arbiter.arrivals.map fun x => if x.line = m then { x with standing := st } else x } }

theorem placeYielded_grants (seizing : s.call[m].state = .seizing)
    (found : s.lowestEligible (s.arrivalClass m) = some c) (free : (s.bearer c).line = none) :
    placeYielded m s = { s.yieldedTo m
        { state := .seizing, bearer := some c
          timer := some { kind := .answer, left := 1000 * s.tables.timers.answer.toNat } } .seizing with
      bearers := { s.bearers with recs := s.bearers.recs.set c { s.bearer c with state := .held, line := some m } }
      reports := s.reports.append (s.urgentFor m)
        { kind := .seize, line := some m, bearer := some c, value := some (s.classOf m).code } } := by
  have now : (setStanding m .seizing (giveBearer c .held m s)).call[m].state = .seizing := seizing
  have timed : ((setStanding m .seizing (giveBearer c .held m s)).call[m].state.timed &&
      (seizingRecord c (setStanding m .seizing (giveBearer c .held m s))).state.timed) = true := by rw [now]; rfl
  unfold placeYielded
  rw [found]
  dsimp only
  unfold grantBearer
  dsimp only
  rw [enter_frame_unrung (by rw [now]; nofun), seizingRecord_entering, ← give_of_none free]
  simp only [timed]
  rfl

theorem placeYielded_waits (seizing : s.call[m].state = .seizing) (none : s.lowestEligible (s.arrivalClass m) = none) :
    placeYielded m s = s.yieldedTo m
      { state := .waiting, path := .tone .wait
        timer := some { kind := .wait, left := 1000 * s.tables.timers.wait.toNat } } .waiting := by
  have now : (setStanding m .waiting s).call[m].state = .seizing := seizing
  have timed : ((setStanding m .waiting s).call[m].state.timed && (waitingRecord (setStanding m .waiting s)).state.timed) =
      true := by rw [now]; rfl
  unfold placeYielded
  rw [none]
  dsimp only
  have record : (waitingRecord (setStanding m .waiting s)).entering (setStanding m .waiting s).call[m] =
      { state := .waiting, path := .tone .wait, early := s.call[m].early, lost := s.call[m].lost
        timer := some { kind := .wait, left := 1000 * s.tables.timers.wait.toNat } } := by
    simp [waitingRecord, CallRecord.entering, CallState.joined, secondsMs, Nat.mul_comm, setStanding]
  rw [enter_frame_unrung (by rw [now]; nofun), record]
  simp only [timed]
  rfl

/-! ## The placement of a line that rings (R126, R123) -/

theorem place_counts : (place l s).ringer.counts = s.ringer.counts.set l 0 ∧ (place l s).ringer.wheel = s.ringer.wheel := by
  unfold place
  dsimp only
  split <;> exact ⟨rfl, rfl⟩

theorem place_next (permitted : s.permits l) (next : nextPhase s.ringer.phases s.ringRoom p) :
    (place l s).ringer.phases = s.ringer.phases.set p (s.ringer.phases[p] ++ [l]) ∧
      (place l s).ringer.queue = s.ringer.queue := by
  have permits : s.permitted l = true := by rw [permitted_eq, decide_eq_true permitted]
  have best : bestPhase s.ringer.phases s.supply.level.ringCapacity = some p := by
    rw [ringCapacity_eq_ringRoom]
    exact bestPhase_eq_some_iff.mpr next
  unfold place
  dsimp only
  rw [permits, best]
  exact ⟨rfl, rfl⟩

theorem place_queued (out : ¬s.permits l ∨ ∀ p : Fin 4, s.ringRoom ≤ s.ringer.phases[p].length) :
    (place l s).ringer.phases = s.ringer.phases ∧ (place l s).ringer.queue = s.ringer.queue ++ [l] := by
  unfold place
  dsimp only
  split
  · next p permits best =>
    rw [permitted_eq] at permits
    have next := out.resolve_left (not_not.mpr (of_decide_eq_true permits))
    rw [ringCapacity_eq_ringRoom, bestPhase_eq_none_iff.mpr next] at best
    exact nomatch best
  · exact ⟨rfl, rfl⟩

theorem ringPlace_some (placed : 0 < s.ringer.places l) : s.ringPlace l ≠ none := by
  intro nowhere
  unfold State.ringPlace at nowhere
  cases found : s.ringer.phaseOf l with
  | some p =>
    rw [found] at nowhere
    exact nomatch nowhere
  | none =>
    rw [found] at nowhere
    dsimp only at nowhere
    have out : l ∉ s.ringer.queue := fun mem => by
      rw [if_pos mem] at nowhere
      exact nomatch nowhere
    have phases : l ∉ phaseLines s.ringer.phases := fun mem => by
      obtain ⟨p, mem⟩ := mem_phaseLines.mp mem
      exact phaseOf_none found p mem
    rw [Ringer.places, List.count_eq_zero.mpr phases, List.count_eq_zero.mpr out] at placed
    exact Nat.lt_irrefl 0 placed

/-- The state in which the line is Ringing on the bearer, before it is placed. -/
def State.rung (s : State) (l : Line) (b : Bearer) : State := { s with
  call := s.call.set l { state := .ringing, bearer := some b }
  brk := s.brk.set l {}
  feed := s.feed.set l (s.feed[l].callTarget .standby)
  bearers := { s.bearers with recs := s.bearers.recs.set b ((s.bearer b).give .reserved l) }
  arbiter := { s.arbiter with arrivals := s.arbiter.arrivals.filter fun a => a.line ≠ l } }

theorem startRinging_eq (unrung : s.call[l].state ≠ .ringing) :
    startRinging l b s = startWheel (place l (s.rung l b)) := by
  have untimed : (s.call[l].state.timed && CallState.ringing.timed) = false := Bool.and_false _
  have given : callTarget l .standby (enter l { state := .ringing, bearer := some b } (giveBearer b .reserved l s)) =
      s.rung l b := by
    rw [callTarget_frame, enter_frame_unrung (by exact unrung)]
    have now : (giveBearer b .reserved l s).call[l] = s.call[l] := rfl
    simp only [now, untimed]
    rfl
  rw [startRinging, given]

theorem rung_sameBut : SameBut [.brk, .feed, .call, .bearers, .arbiter] s (s.rung l b) := by
  simp [sameBut_iff, State.rung]

/-- What the start of the wheel leaves: the phases, the queue and the counts; a Running wheel is not moved. -/
theorem startWheel_leaves : SameBut [.feed, .ringer] s (startWheel s) ∧
    (startWheel s).ringer.phases = s.ringer.phases ∧ (startWheel s).ringer.queue = s.ringer.queue ∧
    (startWheel s).ringer.counts = s.ringer.counts ∧ (startWheel s).ringer.wheel ≠ .stopped ∧
    (∀ (q : Fin 4) (n : Nat), s.ringer.wheel = .running q n →
      (startWheel s).ringer.wheel = .running q n ∧ (startWheel s).feed = s.feed) ∧
    (s.ringer.wheel = .stopped → (startWheel s).ringer.wheel = .running 0 0 ∧ ∀ m : Line,
      (startWheel s).feed[m] =
        if m ∈ s.ringer.phases[(0 : Fin 4)] then s.feed[m].ringTarget s.call[m].state else s.feed[m]) := by
  cases wheel : s.ringer.wheel with
  | running q n =>
    have same : startWheel s = s := by rw [startWheel, wheel]
    rw [same]
    exact ⟨.refl _ s, rfl, rfl, rfl, by rw [wheel]; nofun, fun p k now => ⟨wheel.trans now, rfl⟩, nofun⟩
  | stopped =>
    have start : startWheel s = startPhase 0 (s.setRinger { s.ringer with wheel := .running 0 0 }) := by
      rw [startWheel, wheel]
    obtain ⟨frame, feed⟩ := startPhase_frame (s := s.setRinger { s.ringer with wheel := .running 0 0 }) 0
    have ringer : (startPhase 0 (s.setRinger { s.ringer with wheel := .running 0 0 })).ringer =
        { s.ringer with wheel := .running 0 0 } := frame .ringer (by decide)
    rw [start, ringer]
    exact ⟨SameBut.then (.mono (by decide) setRinger_sameBut) frame (by decide), rfl, rfl, rfl, nofun, nofun,
      fun _ => ⟨rfl, feed⟩⟩

end

end Sys2Proof.Machine
end

section
/-! Chapter 5, section 5.8: Incoming in each state of the line and of the bearer. -/

namespace Sys2Proof.Machine

section
variable {s t u v : State} {l m : Line} {b c : Bearer} {r : BearerRecord} {x : Bool}

/-- What an Incoming with ringing leaves of the Call Handler, the bearers and the Ring Scheduler (R90, R126). -/
structure Rings (l : Line) (b : Bearer) (s t : State) : Prop where
  others : ∀ m : Line, m ≠ l → t.call[m] = s.call[m] ∧ t.brk[m] = s.brk[m]
  call : t.call[l] = { state := .ringing, bearer := some b }
  bearers : t.bearers = { s.bearers with recs := s.bearers.recs.set b ((s.bearer b).give .reserved l) }
  arbiter : t.arbiter = { s.arbiter with arrivals := s.arbiter.arrivals.filter fun a => a.line ≠ l }
  wheel : t.ringer.wheel ≠ .stopped
  counts : t.ringer.counts = s.ringer.counts.set l 0
  placed : t.ringPlace l ≠ none
  next : ∀ p : Fin 4, s.permits l → nextPhase s.ringer.phases s.ringRoom p →
    t.ringer.phases = s.ringer.phases.set p (s.ringer.phases[p] ++ [l]) ∧ t.ringer.queue = s.ringer.queue
  queued : (¬s.permits l ∨ ∀ p : Fin 4, s.ringRoom ≤ s.ringer.phases[p].length) →
    t.ringer.phases = s.ringer.phases ∧ t.ringer.queue = s.ringer.queue ++ [l]
  running : ∀ (q : Fin 4) (time : Nat), s.ringer.wheel = .running q time → t.ringer.wheel = .running q time ∧
    (∀ m : Line, m ≠ l → t.feed[m] = s.feed[m]) ∧ t.feed[l] = s.feed[l].callTarget .standby
  stopped : s.ringer.wheel = .stopped → t.ringer.wheel = .running 0 0 ∧ ∀ m : Line,
    let rests := if m = l then s.feed[m].callTarget .standby else s.feed[m]
    t.feed[m] = if m ∈ t.ringer.phases[(0 : Fin 4)] then rests.ringTarget t.call[m].state else rests

theorem startRinging_rings (unrung : s.call[l].state ≠ .ringing) :
    SameBut [.brk, .feed, .call, .bearers, .arbiter, .ringer] s (startRinging l b s) ∧ Rings l b s (startRinging l b s) := by
  have place : SameBut [.ringer] (s.rung l b) (place l (s.rung l b)) := place_sameBut
  obtain ⟨counts, wheel⟩ := place_counts (l := l) (s := s.rung l b)
  have many := place_count (l := l) (s := s.rung l b) l
  obtain ⟨frame, phasesNow, queueNow, countsNow, turning, runs, starts⟩ := startWheel_leaves (s := Machine.place l (s.rung l b))
  rw [← startRinging_eq unrung] at frame phasesNow queueNow countsNow turning runs starts
  have all : SameBut [.feed, .ringer] (s.rung l b) (startRinging l b s) :=
    SameBut.then (.mono (by decide) place) frame (by decide)
  have call : (startRinging l b s).call = (s.rung l b).call := all .call (by decide)
  have feed : (Machine.place l (s.rung l b)).feed = (s.rung l b).feed := place .feed (by decide)
  have placeCall : (Machine.place l (s.rung l b)).call = (s.rung l b).call := place .call (by decide)
  have rests (m : Line) : (s.rung l b).feed[m] = if m = l then s.feed[m].callTarget .standby else s.feed[m] := by
    refine (set_get ..).trans ?_
    split
    · next same => rw [same]
    · rfl
  refine ⟨SameBut.then (.mono (by decide) rung_sameBut) all (by decide), fun m ne => ⟨?_, ?_⟩, ?_, all .bearers (by decide),
    all .arbiter (by decide), turning, countsNow.trans counts, ringPlace_some ?_, fun p permits next => ?_, fun out => ?_,
    fun q time now => ?_, fun now => ?_⟩
  · rw [call]
    exact (set_get ..).trans (if_neg ne)
  · exact (congrArg (fun y : Vector BreakTiming 32 => y[m]) (all .brk (by decide))).trans ((set_get ..).trans (if_neg ne))
  · rw [call]
    exact (set_get ..).trans (if_pos rfl)
  · rw [if_pos rfl] at many
    rw [Ringer.places, phasesNow, queueNow]
    have some : 0 < (Machine.place l (s.rung l b)).ringer.places l := by omega
    exact some
  · rw [phasesNow, queueNow]
    exact place_next (s := s.rung l b) permits next
  · rw [phasesNow, queueNow]
    exact place_queued (s := s.rung l b) out
  · obtain ⟨wheelNow, feedNow⟩ := runs q time (wheel.trans now)
    refine ⟨wheelNow, fun m ne => ?_, ?_⟩
    · rw [feedNow, feed, rests, if_neg ne]
    · rw [feedNow, feed, rests, if_pos rfl]
  · obtain ⟨wheelNow, feedNow⟩ := starts (wheel.trans now)
    refine ⟨wheelNow, fun m => ?_⟩
    rw [feedNow m, phasesNow, feed, placeCall, call, rests]

theorem ringPlace_congr (ringer : t.ringer = s.ringer) : t.ringPlace l = s.ringPlace l := by
  rw [State.ringPlace, ringer] <;> rfl

theorem Rings.after (h : Rings l b s v) (frame : SameBut [.bus, .quietRun] v t) : Rings l b s t := by
  have call : t.call = v.call := frame .call (by decide)
  have brk : t.brk = v.brk := frame .brk (by decide)
  have feed : t.feed = v.feed := frame .feed (by decide)
  have ringer : t.ringer = v.ringer := frame .ringer (by decide)
  obtain ⟨others, record, bearers, arbiter, wheel, counts, placed, next, queued, running, stopped⟩ := h
  refine ⟨?_, ?_, Eq.trans (frame .bearers (by decide)) bearers, Eq.trans (frame .arbiter (by decide)) arbiter, ?_, ?_, ?_,
    ?_, ?_, ?_, ?_⟩
  · rw [call, brk]
    exact others
  · rw [call]
    exact record
  · rw [ringer]
    exact wheel
  · rw [ringer]
    exact counts
  · rw [ringPlace_congr ringer]
    exact placed
  · rw [ringer]
    exact next
  · rw [ringer]
    exact queued
  · rw [ringer, feed]
    exact running
  · rw [ringer, feed, call]
    exact stopped

/-- What ends Quiet operation in a reconsideration is nothing else. -/
theorem reconsider_endQuiet : SameBut [.quietRun] (reconsider s) (reconsider (endQuiet s)) := by
  have ended : reconsider (endQuiet s) = (reconsider s).beside s.sup { s.monitor with quiet := false } :=
    reconsider_beside (s := s) (x := s.sup) (m := { s.monitor with quiet := false }) ⟨fun _ => rfl, rfl⟩
  have sup : (reconsider s).sup = s.sup := reconsider_sameBut .sup (by decide)
  have watch : (reconsider s).monitor.watch = s.monitor.watch := reconsider_sameBut .watch (by decide)
  have same : ({ s.monitor with quiet := false } : Monitor).watch = (reconsider s).monitor.watch := watch.symm
  rw [ended, ← sup]
  simp [sameBut_iff, State.beside, same]

theorem reconsiderIf_endQuiet :
    SameBut [.quietRun] (if x = true then reconsider s else s) (reconsiderIf x (endQuiet s)) := by
  cases x with
  | true => exact reconsider_endQuiet
  | false => exact endQuiet_sameBut

/-- A changed arbiter, when it is known, may be put into the state before. -/
theorem SameBut.withArbiter {parts : List Part} {a : Arbiter} (h : SameBut (.arbiter :: parts) s t) (now : t.arbiter = a) :
    SameBut parts { s with arbiter := a } t := by
  intro p out
  by_cases arbiter : p = .arbiter
  · rw [arbiter]
    exact now
  · have same : p.same s t := h p (by simp [arbiter, out])
    cases p with
    | arbiter => exact absurd rfl arbiter
    | _ => exact same

/-- The request finds the state as it was, but for the Unit Monitor, the reports and the Bus Interface. -/
theorem incoming_finds (s : State) : ∃ w, w = endQuiet s.atRequest ∧ w.entries = s.entries ∧ w.tables = s.tables ∧
    w.brk = s.brk ∧ w.feed = s.feed ∧ w.call = s.call ∧ w.bearers = s.bearers ∧ (∀ b : Bearer, w.bearer b = s.bearer b) ∧
    w.arbiter = s.arbiter ∧ w.ringer = s.ringer ∧ w.supply = s.supply :=
  ⟨_, rfl, atRequest_entries, atRequest_tables, atRequest_brk, atRequest_feed, atRequest_call, atRequest_bearers,
    fun _ => atRequest_bearer, atRequest_arbiter, atRequest_ringer, atRequest_supply⟩

/-- The bearers once one of them has become Engaged. -/
theorem engaged_of (before : v.bearers = s.bearers) (now : t.bearers =
      { v.bearers with recs := v.bearers.recs.set b r, connection := v.bearers.connection ++ [b] }) :
    OtherBearers b s t ∧ SameLink s t ∧ t.bearer b = r ∧ t.bearers.connection = s.bearers.connection ++ [b] := by
  rw [before] at now
  refine ⟨fun c ne => ?_, ?_, ?_, by rw [now]⟩
  · rw [State.bearer, now]
    exact (set_get ..).trans (if_neg ne)
  · rw [SameLink, now]
    exact ⟨rfl, rfl⟩
  · rw [State.bearer, now]
    exact (set_get ..).trans (if_pos rfl)

theorem Rings.congr (h : Rings l b s t) (entries : s.entries = u.entries) (supply : s.supply = u.supply)
    (brk : s.brk = u.brk) (feed : s.feed = u.feed) (call : s.call = u.call) (bearers : s.bearers = u.bearers)
    (arbiter : s.arbiter = u.arbiter) (ringer : s.ringer = u.ringer) : Rings l b u t := by
  have bearer : s.bearer b = u.bearer b := congrArg (fun y : BearerTable => y.recs[b]) bearers
  have permits : s.permits l = u.permits l := by rw [State.permits, State.permits, State.classOf, State.classOf, entries, supply]
  have room : s.ringRoom = u.ringRoom := by rw [State.ringRoom, State.ringRoom, supply]
  obtain ⟨others, record, bearersNow, arbiterNow, wheel, counts, placed, next, queued, running, stopped⟩ := h
  rw [call, brk] at others
  rw [bearers, bearer] at bearersNow
  rw [arbiter] at arbiterNow
  rw [ringer] at counts
  rw [permits, ringer, room] at next queued
  rw [ringer, feed] at running stopped
  exact ⟨others, record, bearersNow, arbiterNow, wheel, counts, placed, next, queued, running, stopped⟩

end

/-- Settles O30: an Idle bearer by the line's state, and then a bearer that another line yields. -/
theorem incomingIsCarriedOut : Obligations.IncomingIsCarriedOut := by
  refine ⟨fun s l b h idle free unnamed elsewhere => ?_, fun s l b h free unnamed => ?_,
    fun s l m b a h held line other seizing found elsewhere => ?_⟩
  · intro u
    have may : (endQuiet u).incomingBearer l b = true := by
      rw [State.incomingBearer, show (endQuiet u).bearer b = s.bearer b from atRequest_bearer, free]
      rfl
    obtain ⟨t, next, frame, replied, quiet⟩ := incoming_runs (ring := 1) h (.inl idle) may (by decide)
    obtain ⟨w, ended, entries, tables, brk, feed, call, bearers, bearer, arbiter, ringer, supply⟩ := incoming_finds s
    have carried : carryIncoming l b true w = startRinging l b w := by
      have out : w.inHandover l = false := by
        rw [State.inHandover, arbiter]
        exact decide_eq_false elsewhere
      rw [carryIncoming_idle (by rw [bearer]; exact free), out]
      unfold acceptIncoming
      rw [call, idle]
      rfl
    obtain ⟨changes, rings⟩ := startRinging_rings (s := w) (l := l) (b := b) (by rw [call, idle]; nofun)
    have carry : carryIncoming l b (decide ((1 : Byte).toNat = 1)) (endQuiet s.atRequest) = startRinging l b w := by
      rw [← ended]
      exact carried
    rw [carry] at frame
    have start : SameBut [.quietRun] u w := by
      rw [ended]
      exact endQuiet_sameBut
    obtain ⟨others, record, bearersNow, arbiterNow, wheel, counts, placed, next', queued, running, stopped⟩ :=
      (rings.after frame).congr entries supply brk feed call bearers arbiter ringer
    rw [give_of_none unnamed] at bearersNow
    refine ⟨t, next, SameBut.then (SameBut.then (.mono (by decide) start) changes (by decide)) frame (by decide),
      fun c ne => ?_, ?_, ?_, replied, quiet, others, record, ?_, wheel, counts, placed, next', queued, running, stopped,
      arbiterNow⟩
    · rw [State.bearer, bearersNow]
      exact (set_get ..).trans (if_neg ne)
    · rw [SameLink, bearersNow]
      exact ⟨rfl, rfl⟩
    · rw [bearersNow]
    · rw [State.bearer, bearersNow]
      exact (set_get ..).trans (if_pos rfl)
  · intro u connected answer asked
    have may : (endQuiet u).incomingBearer l b = true := by
      rw [State.incomingBearer, show (endQuiet u).bearer b = s.bearer b from atRequest_bearer, free]
      rfl
    obtain ⟨w, ended, entries, tables, brk, feed, call, bearers, bearer, arbiter, ringer, supply⟩ := incoming_finds s
    have given : (w.bearer b).give .engaged l = { s.bearer b with state := .engaged, line := some l } := by
      rw [bearer]
      exact give_of_none unnamed
    have carried {on : Bool} : carryIncoming l b on w = reconsiderIf (w.inHandover l) (acceptIncoming l b on w) :=
      carryIncoming_idle (by rw [bearer]; exact free)
    have out (elsewhere : s.arbiter.handover.map Handover.line ≠ some l) : w.inHandover l = false := by
      rw [State.inHandover, arbiter]
      exact decide_eq_false elsewhere
    have urgent : w.urgentFor l = s.urgentFor l := by rw [State.urgentFor, State.classOf, entries]; rfl
    have reports : w.reports = u.reports := by rw [ended]; rfl
    have start : SameBut [.quietRun] u w := by
      rw [ended]
      exact endQuiet_sameBut
    have others : OtherLines l s w := atRequest_otherLines.trans (.ofSameBut start (by decide))
    refine ⟨fun idle elsewhere => ?_, fun ring few waiting none elsewhere => ?_, fun c ring few seizing names own => ?_⟩
    · obtain ⟨t, next, frame, replied, quiet⟩ := incoming_runs (ring := 0) h (.inl idle) may (by decide)
      rw [← ended] at frame
      have now : carryIncoming l b (decide ((0 : Byte).toNat = 1)) w = _ :=
        carried.trans ((congrArg (fun y => reconsiderIf y _) (out elsewhere)).trans
          (acceptIncoming_idle (by rw [call]; exact idle)))
      rw [now, given] at frame
      have callNow : t.call = _ := frame .call (by decide)
      have feedNow : t.feed = _ := frame .feed (by decide)
      obtain ⟨otherBearers, link, engaged, connection⟩ := engaged_of bearers (frame .bearers (by decide))
      have change : SameBut [.brk, .feed, .call, .bearers, .arbiter, .bus, .quietRun] w
          { w.inSpeech l b { s.bearer b with state := .engaged, line := some l } with
            brk := w.brk.set l {}, feed := w.feed.set l (w.feed[l].callTarget .active) } := by
        simp [sameBut_iff, State.inSpeech]
      have lines : OtherLines l w { w.inSpeech l b { s.bearer b with state := .engaged, line := some l } with
          brk := w.brk.set l {}, feed := w.feed.set l (w.feed[l].callTarget .active) } := fun m ne =>
        ⟨rfl, rfl, (set_get ..).trans (if_neg ne), (set_get ..).trans (if_neg ne), (set_get ..).trans (if_neg ne)⟩
      refine ⟨t, next, SameBut.then (SameBut.then (.mono (by decide) start) change (by decide)) frame (by decide),
        (others.trans lines).trans (.ofSameBut frame (by decide)), otherBearers, link, replied, ?_, ?_, engaged, connection⟩
      · rw [callNow]
        exact (set_get ..).trans (if_pos rfl)
      · rw [feedNow]
        exact ((set_get ..).trans (if_pos rfl)).trans (by rw [feed])
    · obtain ⟨t, next, frame, replied, quiet⟩ := incoming_runs h (.inr (.inl waiting)) may few
      rw [← ended] at frame
      have now : carryIncoming l b (decide (ring.toNat = 1)) w = _ :=
        carried.trans ((congrArg (fun y => reconsiderIf y _) (out elsewhere)).trans
          (acceptIncoming_waiting (by rw [call]; exact waiting) (by rw [call]; exact none)))
      rw [now, given, urgent, reports] at frame
      have callNow : t.call = _ := frame .call (by decide)
      obtain ⟨otherBearers, link, engaged, connection⟩ := engaged_of bearers (frame .bearers (by decide))
      have change : SameBut [.call, .bearers, .arbiter, .reports, .bus, .quietRun] w
          { w.inSpeech l b { s.bearer b with state := .engaged, line := some l } with
            reports := u.reports.append (s.urgentFor l) answer } := by
        simp [sameBut_iff, State.inSpeech]
      have lines : OtherLines l w { w.inSpeech l b { s.bearer b with state := .engaged, line := some l } with
          reports := u.reports.append (s.urgentFor l) answer } := fun m ne => ⟨rfl, rfl, rfl, rfl, (set_get ..).trans (if_neg ne)⟩
      refine ⟨t, next, SameBut.then (SameBut.then (.mono (by decide) start) change (by decide)) frame (by decide),
        (others.trans lines).trans (.ofSameBut frame (by decide)), otherBearers, link, replied, ?_, engaged, connection, ?_,
        frame .reports (by decide)⟩
      · rw [callNow]
        exact (set_get ..).trans (if_pos rfl)
      · refine Eq.trans (frame .arbiter (by decide)) ?_
        exact congrArg (fun y : Arbiter => { y with arrivals := y.arrivals.filter fun a => a.line ≠ l }) arbiter
    · intro withdrawn
      obtain ⟨t, next, frame, replied, quiet⟩ := incoming_runs h (.inr (.inr seizing)) may few
      rw [← ended, carried] at frame
      have apart : b ≠ c := by
        rintro rfl
        exact nomatch unnamed.symm.trans own
      have clearing : w.clearingRecord c l = s.clearingRecord c l := by
        rw [State.clearingRecord, State.clearingRecord, bearer, tables]
      have withdraws := withdrawOwn_eq (s := w) (l := l) (c := c) (by rw [call]; exact names) (by rw [bearer]; exact own)
      have accepts (e : Report) (own : withdrawOwn l w = w.withdrawnFrom l c e)
          (handover : (if w.arbiter.handover.map Handover.bearer = some c then none else w.arbiter.handover) =
            if (s.bearer c).state = .handover then none else s.arbiter.handover) :
          acceptIncoming l b (decide (ring.toNat = 1)) w = endQuiet (withdrawn e) := by
        have still : ((w.withdrawnFrom l c e).bearer b).give .engaged l = { s.bearer b with state := .engaged, line := some l } := by
          have same : (w.withdrawnFrom l c e).bearer b = w.bearer b := (set_get ..).trans (if_neg apart)
          rw [same, given]
        have urgent' : (w.withdrawnFrom l c e).urgentFor l = s.urgentFor l := urgent
        have seizing' : (w.withdrawnFrom l c e).call[l].state = .seizing := by
          change w.call[l].state = _
          rw [call]
          exact seizing
        rw [acceptIncoming_seizing (by rw [call]; exact seizing), own, connect_joined (.inr seizing'), still, urgent']
        unfold State.inSpeech State.withdrawnFrom
        dsimp only
        rw [clearing, handover, urgent, reports, call, bearers, arbiter, ended]
        rfl
      refine ⟨fun held uninvolved elsewhere => ?_, fun left handover record => ?_⟩
      · have unmoved : ¬(w.bearer c).state = .handover := by
          rw [bearer, held]
          nofun
        rw [if_neg unmoved] at withdraws
        rw [out elsewhere, accepts _ withdraws (by rw [arbiter, if_neg uninvolved, if_neg (by rw [held]; nofun)])] at frame
        exact ⟨t, next, replied, SameBut.then (.mono (by decide) endQuiet_sameBut) frame (by decide)⟩
      · have moved : (w.bearer c).state = .handover := by rw [bearer, handover]
        have abandoned : w.inHandover l = true := by
          rw [State.inHandover, arbiter, record]
          exact decide_eq_true rfl
        rw [if_pos moved] at withdraws
        rw [abandoned, accepts _ withdraws (by rw [arbiter, if_pos (by rw [record]; rfl), if_pos handover])] at frame
        exact ⟨t, next, replied, SameBut.then (.mono (by decide) reconsider_endQuiet) frame (by decide)⟩
  · intro u asked yielded outcome
    have may : (endQuiet u).incomingBearer l b = true := by
      have yields : (endQuiet u).yielder l b = some m := by
        have bearer : (endQuiet u).bearer b = s.bearer b := atRequest_bearer
        rw [State.yielder, bearer, if_pos ⟨held, by rw [line]; exact fun same => other (Option.some.inj same)⟩, line]
      rw [State.incomingBearer, yields]
      exact Bool.or_true _
    obtain ⟨w, ended, entries, tables, brk, feed, call, bearers, bearer, arbiter, ringer, supply⟩ := incoming_finds s
    have free : w.inHandover l = false := by
      rw [State.inHandover, arbiter]
      exact decide_eq_false elsewhere
    have carried {on : Bool} : carryIncoming l b on w =
        reconsiderIf ((placeYielded m w).yieldedPriority (some m)) (acceptIncoming l b on (placeYielded m w)) :=
      carryIncoming_yields (by rw [bearer]; exact held) (by rw [bearer]; exact line) other free
    have classNow : w.arrivalClass m = a.cls := arrivalClass_of (by rw [arbiter]; exact found)
    have eligible (k : Machine.Class) (d : Bearer) : w.eligible k d = u.eligible k d := by rw [ended]; rfl
    have outcome_of (v : State) (again : Bool) (placed : placeYielded m w = endQuiet v)
        (priority : (endQuiet v).yieldedPriority (some m) = again) (same : v.call[l] = s.call[l])
        (bearerSame : v.bearer b = s.bearer b) (brkSame : v.brk = s.brk) (feedSame : v.feed = s.feed)
        (entriesSame : v.entries = s.entries) : outcome v again := by
      have lineSame : (v.bearer b).line = some m := by rw [bearerSame]; exact line
      have given (st : BearerState) : ((endQuiet v).bearer b).give st l =
          { s.bearer b with state := st, line := some l, formerLine := some m } :=
        (give_of_some (r := v.bearer b) lineSame other).trans (by rw [bearerSame])
      have urgent : (endQuiet v).urgentFor l = s.urgentFor l := by
        change decide (v.entries[l].cls = .priority) = _
        rw [entriesSame]
        rfl
      have carry {on : Bool} {x : State} (accepts : acceptIncoming l b on (endQuiet v) = endQuiet x) :
          SameBut [.quietRun] (if again then reconsider x else x) (carryIncoming l b on w) := by
        rw [carried, placed, priority, accepts]
        exact reconsiderIf_endQuiet
      refine ⟨fun idle => ?_, fun ring few waiting none => ?_, fun idle lone => ?_⟩
      · obtain ⟨t, next, frame, replied, quiet⟩ := incoming_runs (ring := 0) h (.inl idle) may (by decide)
        rw [← ended] at frame
        refine ⟨t, next, replied, SameBut.then (.mono (by decide) (carry ?_)) frame (by decide)⟩
        refine (acceptIncoming_idle (s := endQuiet v) ((congrArg CallRecord.state same).trans idle)).trans ?_
        rw [given, ← brkSame, ← feedSame]
        rfl
      · obtain ⟨t, next, frame, replied, quiet⟩ := incoming_runs h (.inr (.inl waiting)) may few
        rw [← ended] at frame
        refine ⟨t, next, replied, SameBut.then (.mono (by decide) (carry ?_)) frame (by decide)⟩
        refine (acceptIncoming_waiting (s := endQuiet v) ((congrArg CallRecord.state same).trans waiting)
          ((congrArg CallRecord.bearer same).trans none)).trans ?_
        rw [given, urgent]
        rfl
      · obtain ⟨t, next, frame, replied, quiet⟩ := incoming_runs (ring := 1) h (.inl idle) may (by decide)
        have idleNow : (endQuiet v).call[l].state = .idle := (congrArg CallRecord.state same).trans idle
        have carried' : carryIncoming l b (decide ((1 : Byte).toNat = 1)) (endQuiet s.atRequest) =
            startRinging l b (endQuiet v) := by
          rw [← ended, carried, placed, priority, lone]
          unfold acceptIncoming
          rw [idleNow]
          rfl
        rw [carried'] at frame
        obtain ⟨changes, rings⟩ := startRinging_rings (s := endQuiet v) (l := l) (b := b) (by rw [idleNow]; nofun)
        obtain ⟨others, record, bearersNow, arbiterThen, wheel, counts, placedNow, -⟩ := rings.after frame
        rw [given] at bearersNow
        have start : SameBut [.quietRun] v (endQuiet v) := endQuiet_sameBut
        have all : SameBut (.arbiter :: [.brk, .feed, .call, .bearers, .ringer, .bus, .quietRun]) v t :=
          SameBut.then (SameBut.then (.mono (by decide) start) changes (by decide)) frame (by decide)
        refine ⟨t, next, replied, all.withArbiter arbiterThen, fun x ne => (others x ne).1, record, bearersNow, wheel, ?_,
          placedNow⟩
        rw [counts]
        exact (set_get ..).trans (if_pos rfl)
    have apart : l ≠ m := other.symm
    have entered (x : CallRecord) : (s.call.set m x)[l] = s.call[l] := (set_get ..).trans (if_neg apart)
    have standings {st : Standing} {x : State} (restood : x.arbiter.arrivals =
        w.arbiter.arrivals.map fun y => if y.line = m then { y with standing := st } else y) : x.arrivalClass m = a.cls :=
      arrivalClass_restood (by rw [arbiter]; exact found) restood
    have reports : w.reports = u.reports := by rw [ended]; rfl
    have urgentM : w.urgentFor m = s.urgentFor m := by rw [State.urgentFor, State.classOf, entries]; rfl
    have timers : w.tables.timers = s.tables.timers := congrArg Tables.timers tables
    have classOfM : w.classOf m = s.classOf m := by rw [State.classOf, entries]; rfl
    refine ⟨fun c fits least unused => ?_, fun none => ?_⟩
    · have chosen : w.lowestEligible (w.arrivalClass m) = some c := by
        rw [classNow]
        exact find_allBearers (by rw [eligible]; exact fits) fun d lt => by rw [eligible]; exact least d lt
      have placed := placeYielded_grants (by rw [call]; exact seizing) chosen (by rw [bearer]; exact unused)
      have idle : (s.bearer c).state = .idle := atRequest_bearer (s := s) ▸ eligible_idle fits
      have taken : c ≠ b := by
        rintro rfl
        exact nomatch idle.symm.trans held
      refine outcome_of _ false ?_ ?_ (entered _) ?_ atRequest_brk atRequest_feed atRequest_entries
      · refine placed.trans ?_
        rw [urgentM, classOfM, reports, bearer, bearers]
        unfold State.yieldedTo
        dsimp only
        rw [call, arbiter, timers, ended]
        rfl
      · have now (x : CallRecord) : (s.call.set m x)[m] = x := (set_get ..).trans (if_pos rfl)
        exact Eq.trans (congrArg (fun y : CallRecord => decide (y.state = .waiting) && _) (now _)) rfl
      · exact (set_get ..).trans (if_neg taken.symm)
    · have placed := placeYielded_waits (by rw [call]; exact seizing)
        (lowestEligible_none fun d => by rw [classNow, eligible]; exact none d)
      refine outcome_of _ _ ?_ ?_ (entered _) ?_ atRequest_brk atRequest_feed atRequest_entries
      · refine placed.trans ?_
        unfold State.yieldedTo
        rw [call, arbiter, timers, ended]
        rfl
      · have now (x : CallRecord) : (s.call.set m x)[m] = x := (set_get ..).trans (if_pos rfl)
        refine (congrArg (fun y : CallRecord => decide (y.state = .waiting) && _) (now _)).trans ?_
        refine (Bool.true_and _).trans (congrArg (fun y : Class => decide (y = .priority)) (standings (st := .waiting) ?_))
        rw [arbiter]
        rfl
      · exact atRequest_bearer

end Sys2Proof.Machine
end
